-- ==== Sys2Proof/Word.lean ====
section
/-! DEFINITION. The plainest data of the model: octets as frames and objects carry them, and sparse tables, which hold
one entry for each unit or address that differs from what an unlisted one reads as. -/

namespace Sys2Proof

/-- An octet of a frame, a datagram or an object value. -/
abbrev Byte := BitVec 8

/-- A sparse table: keys strictly rising, no entry equal to the default of its key. -/
abbrev Tab (α : Type) := List (Nat × α)

namespace Tab

variable {α : Type}

/-- The entry listed for a key, none where the table lists none. -/
def find? : Tab α → Nat → Option α
  | [], _ => none
  | (k, a) :: t, n => if k = n then some a else find? t n

/-- The value of a key: the listed entry, or the default of the key. -/
def get (d : Nat → α) (t : Tab α) (n : Nat) : α := (find? t n).getD (d n)

/-- The table with no entry for n. -/
def erase : Tab α → Nat → Tab α
  | [], _ => []
  | (k, a) :: t, n => if k = n then erase t n else (k, a) :: erase t n

/-- The table with an entry put before the first greater key. -/
def insert : Tab α → Nat → α → Tab α
  | [], n, v => [(n, v)]
  | (k, a) :: t, n, v => if n < k then (n, v) :: (k, a) :: t else (k, a) :: insert t n v

/-- The table in which n has the value v: a value equal to the default is not listed. -/
def set [DecidableEq α] (d : Nat → α) (t : Tab α) (n : Nat) (v : α) : Tab α :=
  if v = d n then erase t n else insert (erase t n) n v

/-- The keys rise strictly. -/
def rising : Tab α → Bool
  | [] => true
  | [_] => true
  | (a, _) :: (b, v) :: t => a < b && rising ((b, v) :: t)

/-- The canonical form: keys strictly rising, no entry equal to the default of its key. -/
def canon [DecidableEq α] (d : Nat → α) (t : Tab α) : Bool :=
  rising t && t.all (fun p => decide (p.2 ≠ d p.1))

end Tab
end Sys2Proof
end

