-- ==== Sys2Proof/Syntax.lean ====
section
/-! DEFINITION. The commands of the block: the rows of the table of operations and events, with the data each carries
from outside. -/

namespace Sys2Proof

/-- Who asks for an access to the object dictionary (R48, R72, R73, R516, R53). -/
inductive Req where
  /-- the host SPI -/
  | spi
  /-- the OAP session of this SessionId -/
  | oap (sid : Nat)
  /-- application code on M3, at AppOdLevel -/
  | app
  /-- the partner's input log -/
  | log
  deriving DecidableEq, Repr

/-- What a REQUEST or CLOSE datagram carries around its body (Table 2-4): the session, the sequence, whether the tag
verifies, and how many of the session's requests are still unanswered as it arrives (R63). -/
structure Dg where
  sid : Nat
  seq : Nat
  tagOk : Bool
  unanswered : Nat
  deriving DecidableEq, Repr

/-- Why a datagram is dropped by R56. -/
inductive DropWhy where
  | fragment | oversize | version | kind
  deriving DecidableEq, Repr

/-! ### Frames (chapter 11) -/

/-- What a frame carries (R351). -/
inductive RxKind where
  | ptp | ntp | oap | resolve | esmc | control | other
  deriving DecidableEq, Repr

/-- What a lane phase detector latches of the parallel-clock edge that closes the PCS block with a frame's message timestamp point
(R231, R353): how many ticks ago the edge came, TCLK cycle, bin, and the UI from the point to the end of its block. -/
structure LaneStamp where
  back : Nat
  tclk : Nat
  bin : Nat
  ui : Nat
  deriving DecidableEq, Repr

/-- A question for a link-layer address: an ARP request, or (v6) a neighbour solicitation: the address asked for, and the
protocol and hardware addresses of who asks. -/
structure AskF where
  v6 : Bool
  target : Nat
  sender : Nat
  mac : Nat
  deriving DecidableEq, Repr

/-- A received frame: length, FCS and reassembly (R367), destination address, EtherType, its subtype where it has one, the UDP
port it goes to, the ARP request or neighbour solicitation that it is, VLAN tag (VID, PCP), what the lane stamped (none where the
stamp was lost, R354), and which of the frames held on the port, counted from the oldest, their consumers have taken since. -/
structure RxF where
  len : Nat
  fcsOk : Bool
  assembled : Bool
  dst : Nat
  etype : Nat
  subtype : Nat
  udp : Option Nat
  asks : Option AskF
  tag : Option (Nat × Nat)
  stamp : Option LaneStamp
  taken : List Nat
  deriving DecidableEq, Repr

/-- A frame to send: its class, length, whether a management core sent it (else a pipeline or the MAC itself), its stamp
request (SeqId, CoreTag; R362), the tick and Fine (2^-16 tick) at which its point is to cross the PMA boundary, how often it is
preempted on its way other than by a guard, and the tick at which its last fragment starts; its ready tick (CNT) and its ordinal
on a pair (R456). -/
structure TxF where
  cls : Nat
  len : Nat
  core : Bool
  request : Option (Nat × Nat)
  tick : Nat
  fine : Nat
  fragments : Nat
  lastFrag : Nat
  ready : Nat
  ordinal : Nat
  deriving DecidableEq, Repr

/-- An insertion request (R357): format 0 PTP_ORIGIN or 1 NTP_TX, offset of the field in the frame, time scale. -/
structure Insert where
  format : Nat
  offset : Nat
  scale : Nat
  deriving DecidableEq, Repr

/-! ### GNSS (chapter 8) -/

/-- What a channel measures at an epoch mark (R269): code phase in 2^-32 chip, accumulated carrier phase in 2^-32 cycle, the
frequency at which its loop holds the carrier in the samples of its IF in mHz, C/N0 in 0.01 dB-Hz, its lock flags (bit 0: the PLL
lock indicator) and its count of cycle slips. -/
structure ChanMeas where
  ch : Nat
  code : Nat
  carrier : Int
  freq : Int
  cno : Nat
  lock : Nat
  slips : Nat
  deriving DecidableEq, Repr

/-- A search (R266): the channel a detection goes to, the signal, the satellite, the Doppler predicted in mHz. -/
structure Search where
  ch : Nat
  sig : Nat
  sv : Nat
  doppler : Int
  deriving DecidableEq, Repr

/-- A satellite as M1 has it at a solution epoch (R273): its channels on the antenna's two IFs, elevation in 0.1°, whether its
broadcast health marks it usable and its ephemeris is valid; in 2^-32 ns its pseudorange on L1 and on L5 less broadcast satellite
clock and group delay, the broadcast ionosphere model delay on each, tropospheric delay and range together, and the
ionosphere-free carrier range; and its weight by elevation and C/N0. -/
structure GSat where
  c1 : Option Nat
  c5 : Option Nat
  elevation : Nat
  healthy : Bool
  ephemeris : Bool
  p1 : Int
  p5 : Int
  iono1 : Int
  iono5 : Int
  geo : Int
  carrier : Int
  weight : Nat
  deriving DecidableEq, Repr

/-- What a system broadcasts of UTC: TAI less its own time in 2^-32 ns by its parameters, its TAI - UTC in s, and a leap
announced (code, time in s). -/
structure GUtc where
  toTai : Int
  offset : Int
  leap : Option (Nat × Nat)
  deriving DecidableEq, Repr

/-- What M1 has for a solution of an epoch (R273): the satellites; the broadcast offset of each system (GPS, Galileo, BeiDou) from
one common time in 2^-32 ns; its UTC parameters where they are valid; the position fix (X, Y, Z in mm). -/
structure GSol where
  sats : List GSat
  isb : List Int
  utc : List (Option GUtc)
  fix : Int × Int × Int
  deriving DecidableEq, Repr

/-! ### Time service (chapter 12) -/

/-- A frame of the time service: data port, sender's address (16 octets, IPv4-mapped for IPv4) and UDP source port, the
bucket they hash to (R380), whether it is well formed (Table 12-10), whether an index entry is free for its sender (R405), and
its receive stamp (Tick, Fine). -/
structure SvcF where
  port : Nat
  addr : Nat
  v6 : Bool
  srcPort : Nat
  bucket : Nat
  ok : Bool
  indexOk : Bool
  tick : Nat
  fine : Nat
  deriving DecidableEq, Repr

/-- The AUTHENTICATION TLVs of a message (R396): how many, whether one is last, its SPP and keyID, whether the ICV
verifies under the key it names. -/
structure AuthF where
  count : Nat
  last : Bool
  spp : Nat
  keyId : Nat
  icvOk : Bool
  deriving DecidableEq, Repr

/-- What a PTP message says of itself: domain, transport (0 L2, 1 IPv4, 2 IPv6), sequenceId, whether it was sent to a
unicast address, its authentication. -/
structure PtpF where
  domain : Nat
  transport : Nat
  seq : Nat
  unicast : Bool
  auth : AuthF
  deriving DecidableEq, Repr

/-- One REQUEST_UNICAST_TRANSMISSION TLV: message type (0 Announce, 1 Sync, 2 Delay_Resp), logInterMessagePeriod,
durationField. -/
structure UniReq where
  typ : Nat
  log : Int
  duration : Nat
  deriving DecidableEq, Repr

/-- An NTP request (R398): version, mode, length, whether it carries a legacy MAC, poll and transmit timestamp. -/
structure NtpF where
  version : Nat
  mode : Nat
  len : Nat
  mac : Bool
  poll : Nat
  txTime : Nat
  deriving DecidableEq, Repr

/-- The NTS fields of a request (R399): whether every required field is there once and at most 7 placeholders, KeyId of
the cookie, whether its ciphertext opens, whether the authenticator verifies, placeholders. -/
structure NtsF where
  fieldsOk : Bool
  keyId : Nat
  opens : Bool
  authOk : Bool
  placeholders : Nat
  deriving DecidableEq, Repr

/-- A service request that may wait for a client record (R406). -/
inductive SvcReq where
  | delay (f : SvcF) (p : PtpF)
  | request (f : SvcF) (p : PtpF) (rs : List UniReq)
  | cancel (f : SvcF) (p : PtpF) (typ : Nat)
  | ntp (f : SvcF) (n : NtpF)
  | nts (f : SvcF) (n : NtpF) (x : NtsF)
  deriving DecidableEq, Repr

/-- A received Error Bound TLV (Tables 7-5 and 7-6); BoundTime in 2^-32 ns, chain entries as the numbers of their 16
octets. -/
structure TlvF where
  typ : Nat
  length : Nat
  org : Nat
  sub : Nat
  version : Nat
  count : Nat
  flags : Nat
  bound : Nat
  time : Int
  chain : List Nat
  deriving DecidableEq, Repr

/-- A message from a master: the port it came in on, its domain, its transport (as InstTransport codes it), its source address
as PtpMaster writes one, and the clockIdentity of its sender (R168, R397); whether it is well formed; its authentication
and receive stamp. -/
structure TrkF where
  port : Nat
  domain : Nat
  transport : Nat
  addr : Nat
  ident : Nat
  ok : Bool
  auth : AuthF
  tick : Nat
  fine : Nat
  deriving DecidableEq, Repr

/-- What an Announce says: of the grandmaster priority1, clockClass, clockAccuracy, offsetScaledLogVariance, priority2 and
identity, then stepsRemoved, timeTraceable, leap61, leap59, currentUtcOffset and its valid flag, the Error Bound TLV. -/
structure AnnF where
  priority1 : Nat
  cls : Nat
  accuracy : Nat
  variance : Nat
  priority2 : Nat
  gm : Nat
  steps : Nat
  traceable : Bool
  leap61 : Bool
  leap59 : Bool
  utcOffset : Int
  utcValid : Bool
  tlv : Option TlvF
  deriving DecidableEq, Repr

/-! ### Containers and slots (chapters 13 and 17) -/

/-- What the checks of R438 find of a Melous container: whether Magic and FormatVersion stand, its Kind, SignerClass,
SignerIndex, SecurityVersion, ImageVersion (as a STRING object holds it), SHA-384 of its SignerKey, whether its signature
verifies and its payload digest matches. -/
structure Box where
  formatOk : Bool
  kind : Nat
  signerClass : Nat
  signerIndex : Nat
  security : Nat
  version : Int
  signerHash : Nat
  sigOk : Bool
  digestOk : Bool
  deriving DecidableEq, Repr

/-- A slot of the flash as the boot ROM finds it: whether its directory is whole (magic, version, CRC), SlotSeq, and the
containers it lists. -/
structure SlotF where
  dirOk : Bool
  seq : Nat
  boxes : List Box
  deriving DecidableEq, Repr

/-- An entry of a configuration image: Index, Sub, Type, value octets (R526). -/
structure Ent where
  index : Nat
  sub : Nat
  typ : Nat
  value : List Byte
  deriving DecidableEq, Repr

/-! ### Registers that a resynchronisation copies (R469)

State holds them; they stand here since a COPY frame carries them. -/

namespace Machine

/-- An entry of the staged set: the object, its value and its length in octets (R73). -/
structure Staged where
  key : Nat
  val : Int
  len : Nat
  deriving DecidableEq, Repr

/-- A measurement of a reference: its carried tick and the offset, reference minus TS_0, in 2^-32 ns. -/
structure Meas where
  tick : Nat
  x : Int
  /-- the reference's own time at that tick, 2^-32 ns: what the offset against another scale is taken from -/
  ref : Int := 0
  deriving DecidableEq, Repr

/-- A ToD message received and not yet assigned to an edge (R143, R144). -/
structure TodMsg where
  /-- tick of the stop bit of its last character -/
  stop : Nat
  seconds : Nat
  utc : Int
  leap : Nat
  ql : Nat
  leapTime : Nat
  /-- in ps; 0xFFFFFFFF unknown -/
  unc : Nat
  traceable : Bool
  deriving DecidableEq, Repr

/-- A leap statement (R126): the leap it announces (0 none, 1 insert, 2 delete), the offset it gives as in force, and the
LeapTime it carries in whole 2^-32 ns. -/
structure LeapSt where
  leap : Nat
  offset : Int
  time : Int
  deriving DecidableEq, Repr

/-- A reference's registers beside its objects. -/
structure RefReg where
  /-- measurements of the windows of R148, newest first -/
  meas : List Meas := []
  /-- the QualifyTime timer of MONITOR: ticks left as it was last stopped or loaded, tick it runs from, elapsed -/
  timer : Nat := 0
  timerFrom : Option Nat := none
  elapsed : Bool := false
  /-- the value the timer restarts at, and a half condition that arose and no row has taken yet -/
  loaded : Nat := 0
  rose : Bool := false
  /-- tick of the first measurement since the reference was enabled or last lost its signal (R158) -/
  firstAt : Option Nat := none
  /-- tick at which the present signal loss began -/
  lossAt : Option Nat := none
  /-- tick of the last edge, solution or Sync, and of the last Announce or ESMC PDU -/
  signalAt : Nat := 0
  announceAt : Nat := 0
  /-- tick since which each half condition (frequency, phase, wander) has been below 0.4 T -/
  below : Tab (Option Nat) := []
  /-- ToD (R144 to R146): the valid messages waiting, newest first, the label of the last edge, edges without a message, consistent
  messages in a row, and the QlReceived to restore -/
  tod : List TodMsg := []
  label : Option Nat := none
  unlabelled : Nat := 0
  consistent : Nat := 0
  /-- the declaration: D in 2^-16 ns (none unknown) and the tick its age runs from; PTP's clockAccuracy limit beside a TLV -/
  declared : Option Nat := none
  declaredAt : Nat := 0
  /-- systematic measurement and random terms delivered with the measurement, 2^-16 ns -/
  msys : Nat := 0
  sigma : Nat := 0
  /-- TraceableToUtc or timeTraceable of its last declaration -/
  traceable : Bool := false
  /-- UTC offset offered -/
  utc : Option Int := none
  /-- a row taken in this update bars the others (R152), and an arbiter's verdict that waits for the next update -/
  rowAt : Option Nat := none
  verdict : Bool := false
  /-- frequency references: tick and Fine / 65536 of the last edge, and how many periods from time 0 it is taken to be (R111) -/
  edge : Option (Nat × Nat × Int) := none
  /-- chain entries of the upstream Error Bound TLV, 16 octets each (R250) -/
  chain : List Nat := []
  deriving DecidableEq, Repr

/-- A comparison of the selected reference with a candidate (R158). -/
structure Comp where
  ref : Nat
  /-- consecutive intervals above the threshold, and within it -/
  beyond : Nat := 0
  under : Nat := 0
  raised : Bool := false
  /-- tick the comparison began -/
  start : Nat
  /-- ArbiterRef and ArbiterVerdict of its last judgment (R159, R160) -/
  arb : Nat := 0xFF
  verdict : Nat := 0
  deriving DecidableEq, Repr

/-- The Cinch's registers. -/
structure Select where
  refs : Tab RefReg := []
  /-- o_stitch, 2^-32 ns -/
  stitch : Int := 0
  /-- the last u the Rein computed from the selected reference under SERVO since its selection, none when R162 takes 0 -/
  uOld : Option Int := none
  comps : List Comp := []
  /-- FreqNow less keeper_prediction of the last 2,048 updates, newest first (R148) -/
  diffs : List Int := []
  /-- tick the present DisagreeInterval began -/
  interval : Nat := 0
  /-- tick of the last change of SelectedRef -/
  changed : Nat := 0
  /-- tick of the last Stitch: the pull starts at the update after it -/
  stitchedAt : Option Nat := none
  /-- the reference an arbiter's verdict took out of SELECTED -/
  arbOut : Option Nat := none
  /-- an update with a returning selection awaits its audit: reference and offset (R198) -/
  audit : Option (Nat × Int) := none
  /-- alignment groups that have measured their first edge since AlignEnable was set or the signal returned, with the tick of
  the last edge -/
  aligned : Tab (Option Nat) := []
  deriving DecidableEq, Repr

/-- What the EBE keeps for a scale. -/
structure BoundReg where
  /-- L of R244, latched at the entry to KEEPER or HOLDING -/
  latched : Nat := 0xFFFFFFFFFFFFFFFF
  /-- B_last of R243, and the tick tau_f or tau runs from -/
  last : Nat := 0xFFFFFFFFFFFFFFFF
  lastAt : Nat := 0
  deriving DecidableEq, Repr

/-- A schedule entry beside its 48 octets (R304 to R307). -/
structure SchedE where
  /-- 0 FREE, 1 ARMED, 2 DONE, 3 ORPHANED, 4 COMMIT -/
  state : Nat := 0
  /-- the next occurrence, counted from 0 -/
  next : Nat := 0
  runs : Nat := 0
  skipped : Nat := 0
  /-- time of the last occurrence run, as a TS128 value -/
  lastRun : Nat := 0
  opId : Nat := 0
  /-- a passed occurrence is to be run once, late (R306) -/
  late : Bool := false
  deriving DecidableEq, Repr

/-- An entry of a two-step queue (Table 11-4): a stamp, or the tombstone with what it has lost. -/
inductive TsqE where
  | stamp (tick fine seqId coreTag : Nat)
  | tombstone (tick fine lost first last : Nat) (split : Bool)
  deriving DecidableEq, Repr

/-- A gate configuration (R371): base and cycle time (2^-32 ns), list. -/
structure GateCfg where
  base : Int
  cycle : Nat
  list : List Nat
  states : Nat
  deriving DecidableEq, Repr

/-- A client record (Table 12-9). Lists hold Announce, Sync and Delay_Resp in this order. -/
structure Client where
  kind : Nat
  v6 : Bool := false
  refused : Bool := false
  reviewed : Bool := false
  port : Nat
  inst : Nat
  addr : Nat
  srcPort : Nat
  violations : Nat := 0
  /-- in 10^-6 request -/
  tokens : Nat
  /-- TS_0 ms mod 2^32 -/
  last : Nat
  aux : Nat := 0
  aux2 : Nat := 0
  /-- TS_0 s mod 2^32 -/
  admitTime : Nat
  /-- SeqSync, SeqAnnounce, SeqSignaling -/
  seqSync : Nat := 0
  seqAnnounce : Nat := 0
  seqSignaling : Nat := 0
  logs : List Int := [0, 0, 0]
  mask : Nat := 0
  expiry : List Nat := [0, 0, 0]
  /-- number of the next transmission of each type (R392) -/
  nexts : List Int := [0, 0, 0]
  /-- how many clients were admitted before it -/
  age : Nat := 0
  deriving DecidableEq, Repr

end Machine

open Machine

/-! ### Pair redundancy (chapter 14) -/

/-- An item of logical state in a COPY frame (R469, Table 14-6): an object; the staged set, COMMIT pending or not; a time scale with
its value, INC (2^-72 ns) and servo integrator; a reference's state, the selection without its references, a scale's L and B_last,
and what holdover growth has summed (base, temperature, tau, integral, time degraded, U_y, U_a, U_T); a schedule entry; a two-step
queue, the gate lists in force and pending, a transmit slot; a client record. -/
inductive CopyItem where
  | obj (key : Nat) (val : Int)
  | staged (set : List Staged) (level : Nat)
  | scale (n val inc : Nat) (integ : Int)
  | ref (m : Nat) (r : RefReg)
  | selection (x : Select)
  | bound (n : Nat) (b : BoundReg)
  | growth (base temp : Int) (tau dti degraded uy ua ut : Nat)
  | sched (e : Nat) (x : SchedE)
  | queue (p : Nat) (q : List TsqE)
  | gates (p : Nat) (oper next : Option GateCfg) (ext : Nat)
  | slot (p n cls : Nat) (insert : Option Insert) (frame : List Byte)
  | client (n : Nat) (c : Client)
  deriving DecidableEq, Repr

/-- A record of the input log (Table 14-5) as the standby takes it. RX_FRAME stands by what the frame carries: a request
to a service, an answer to a Pdelay_Req, a question for an address, a foreign Announce, a message of a tracked master, an ESMC PDU. OD_WRITE stands as
a write of objects, STAGE, COMMIT or ABORT. INC stands with the tick of its application. INC and times are in 2^-72 and 2^-32 ns. -/
inductive LogRec where
  | service (r : SvcReq)
  | pdelayReq (f : SvcF) (p : PtpF)
  | pdelayResp (f : SvcF) (p : PtpF) (residence : Int)
  | resolve (p : Nat) (a : AskF)
  | foreign (port domain : Nat)
  | announce (r : Nat) (f : TrkF) (a : AnnF)
  | sync (r : Nat) (f : TrkF) (seq : Nat) (twoStep : Bool) (origin corr : Int) (tlv : Option TlvF)
  | followUp (r : Nat) (f : TrkF) (seq : Nat) (origin corr : Int) (tlv : Option TlvF)
  | delayResp (r : Nat) (f : TrkF) (seq : Nat) (t4 corr : Int)
  | grant (r : Nat) (f : TrkF) (typ duration : Nat)
  | esmc (m ssm essm : Nat)
  | awl (m tick fine : Nat)
  | tod (m : Nat) (bytes : List Byte)
  | solution (a epoch tick fine : Nat) (x : Int) (status band d msys sigma causes : Nat) (withheld : Bool)
      (utc : Option Int) (leap : Option (Nat × Nat))
  | write (vs : List (Nat × Int))
  | stage (vs : List (Nat × Int))
  | commit (scheduled : Bool) (time : Nat)
  | abort
  | txStamp (p seq tag tick fine : Nat)
  | txMissed (p pipe kind : Nat)
  | inc (n inc tick : Nat)
  | terms (pred : Int) (uy ua ut lo : Nat) (temp : Int) (sys : List (Nat × Nat))
  | phase (m tick fine : Nat)
  | link (l : Nat) (up : Bool)
  | verdict (client blockTime : Nat)
  | random (n : Nat)
  | appBoundary (epoch : Nat)
  deriving DecidableEq, Repr

/-- The commands of the block, one constructor per row of the table of operations and events. The first operand of each
is the CNT tick (R22, 1.6 ns) at which the command comes about. -/
inductive Instr where
  /-- The backup rail rises and the internal detector resets every island, keeping only flash and OTP. (R524) -/
  | backupPor (t : Nat)
  /-- A valid assertion of PORST_N resets the engine by row 1 of Table 1-6 and restarts OvenWarmupElapsed. (R545) -/
  | porst (t : Nat)
  /-- A valid assertion of RESET_N resets the engine by row 1 of Table 1-6, keeping the AON, KEY and GTH islands.
  (R545) -/
  | resetN (t : Nat)
  /-- A write of 1 to EngineReset resets the engine 1 ms after the response is sent. (R524) -/
  | engineReset (t : Nat) (q : Req) (v : Int)
  /-- A monitored main rail below its minimum for 5 µs causes a PORST-cause reset held until the rails recover. (R544)
  -/
  | brownout (t rail : Nat)
  /-- A monitored main rail outside its operating range for 1 µs reports source SUPPLY. (R544) -/
  | supplyOutOfRange (t rail : Nat)
  /-- Verification of the flash slots ends and the engine boots slot A, falls back to slot B, or stays in POWERUP.
  (R530) -/
  | bootImageVerified (t : Nat) (a b : SlotF) (mirrorOk : Bool)
  /-- Restoration of the configuration image completes and the engine enters CALIBRATE or loads defaults and waits.
  (R526) -/
  | dictionaryRestored (t : Nat) (image : Option (List Ent))
  /-- Delay-line locking, Burnish and lane calibration complete, and the engine enters WARMUP or TEST, marking failed
  items. (R222) -/
  | calibrationDone (t : Nat) (unlocked : List Nat) (tables : List (Nat × List Nat)) (skews : List (Nat × Int))
  /-- LoState becomes READY and the engine takes row 11, 12 or 35 of Table 1-6. (R176) -/
  | oscillatorReady (t amplitude : Nat) (tsyn : Bool)
  /-- WarmupTimeout elapses without a ready oscillator, raising a MAJOR fault. (R30) -/
  | warmupTimeout (t : Nat)
  /-- AcquireTimeout elapses with no reference SELECTED and the engine enters FREERUN. (R30) -/
  | acquireTimeout (t : Nat)
  /-- A mode event deferred by priority is evaluated in the next SRV cycle against the new mode. (R29) -/
  | pendingModeEvent (t : Nat)
  /-- A host PROCEED request moves CONFIGURE to CALIBRATE or is refused. (R35) -/
  | modeRequestProceed (t : Nat) (q : Req)
  /-- A host ENTER_TEST request enters TEST by row 8 or 23, or is refused. (R36) -/
  | modeRequestEnterTest (t : Nat) (q : Req)
  /-- A host LEAVE_TEST request returns TEST to CALIBRATE, removing loops and patterns. (R35) -/
  | modeRequestLeaveTest (t : Nat) (q : Req)
  /-- A host LEAVE_SAFE request leaves SAFE to LOCKED, HOLDOVER, FREERUN or RESYNC. (R31) -/
  | modeRequestLeaveSafe (t : Nat) (q : Req)
  /-- A fragment, oversize datagram, wrong Version or unknown Kind is dropped silently and counted. (R56) -/
  | oapDatagramDropped (t : Nat) (why : DropWhy)
  /-- A HELLO opens a session and is answered by HELLO_ACK, or is dropped and counted. (R58) -/
  | oapHello (t port level nonce : Nat)
  /-- A CLOSE from the client discards the session without reply. (R62) -/
  | oapClose (t : Nat) (dg : Dg)
  /-- A READ request returns the type, length and value of one object after the checks of R48. (R63) -/
  | oapRead (t : Nat) (dg : Dg) (body : List Byte)
  /-- A WRITE request writes one object at one CNT instant and returns EffectiveTime. (R50) -/
  | oapWrite (t : Nat) (dg : Dg) (body : List Byte)
  /-- A READ_BLOCK samples up to 64 objects in one consistent pass. (R64) -/
  | oapReadBlock (t : Nat) (dg : Dg) (body : List Byte)
  /-- A WRITE_BLOCK applies all entries in one pass at one EffectiveTime, or none. (R64) -/
  | oapWriteBlock (t : Nat) (dg : Dg) (body : List Byte)
  /-- A STAGE adds checked entries to the staged set, taking ownership of an empty set. (R74) -/
  | oapStage (t : Nat) (dg : Dg) (body : List Byte)
  /-- A COMMIT validates and applies the staged set at once or schedules it for an instant on TS_0. (R76) -/
  | oapCommit (t : Nat) (dg : Dg) (body : List Byte)
  /-- An ABORT discards the staged set or cancels a scheduled commit, or ends a subscription. (R78) -/
  | oapAbort (t : Nat) (dg : Dg) (body : List Byte)
  /-- A SUBSCRIBE creates an ON_CHANGE or PERIODIC subscription within the limits. (R66) -/
  | oapSubscribe (t : Nat) (dg : Dg) (body : List Byte)
  /-- SessionIdle elapses without an accepted datagram and the session closes with Reason IDLE. (R62) -/
  | sessionIdle (t sid : Nat)
  /-- After a change of a subscribed value a coalesced NOTIFY is sent at most once per 10 ms. (R67) -/
  | notifyOnChange (t sub : Nat)
  /-- A PERIODIC subscription sends one NOTIFY every Period of TS_0. (R67) -/
  | notifyPeriodic (t sub : Nat)
  /-- A host SPI REQ transaction delivers a request body checked by CRC-16, or is discarded with CRC_ERROR or OVERRUN.
  (R71) -/
  | hspiReq (t : Nat) (bytes : List Byte)
  /-- A host SPI POLL returns HspiStatus and the pending length. (R70) -/
  | hspiPoll (t : Nat)
  /-- A host SPI FETCH returns the pending response or notification with its CRC. (R70) -/
  | hspiFetch (t : Nat)
  /-- A write of JournalQueryId loads the journal record for that requester only. (R86) -/
  | journalQuery (t : Nat) (q : Req) (id : Nat)
  /-- A write to an object without behaviour of its own changes its running value at one instant. (R49) -/
  | objectWrite (t : Nat) (q : Req) (key : Nat) (v : Int)
  /-- A write to a pre-shared key imports or empties it and closes that level's sessions with PSK_CHANGED. (R416) -/
  | pskWrite (t : Nat) (q : Req) (level : Nat) (v : Int)
  /-- Every 1/128 s the Cinch, the Rein, the Keeper and the EBE update selection, steering, holdover and bounds.
  (R109) -/
  | servoUpdate (t : Nat) (temp lo : Int)
  /-- A TAKE makes the owner of a scale's INC SOFTWARE, accepted only in TEST and SAFE. (R97) -/
  | incOwnerTake (t : Nat) (q : Req) (n : Nat)
  /-- A RELEASE returns INC ownership by Table 3-1 and discards SlewRemaining. (R97) -/
  | incOwnerRelease (t : Nat) (q : Req) (n : Nat)
  /-- A FreqSteer write under SOFTWARE ownership sets INC by R93. (R99) -/
  | freqSteerWrite (t : Nat) (q : Req) (n : Nat) (v : Int)
  /-- An IncWrite under SOFTWARE ownership sets INC with the held IncWriteFrac. (R100) -/
  | incWrite (t : Nat) (q : Req) (n : Nat) (v : Int)
  /-- A PhaseAdjust write adds to SlewRemaining, removed at SlopeLimit. (R101) -/
  | phaseAdjustWrite (t : Nat) (q : Req) (n : Nat) (v : Int)
  /-- A TimeSet write sets the scale, as a step needing StepPermit outside CALIBRATE, WARMUP and TEST. (R104) -/
  | timeSet (t : Nat) (q : Req) (n : Nat) (v : Int)
  /-- A write of DerivedRate, DerivedAnchor or DerivedStart re-anchors the scale or steps it under StepPermit. (R121)
  -/
  | derivedWrite (t : Nat) (q : Req) (n : Nat) (rate anchor start : Option Int)
  /-- A change of TsSource takes effect at one tick and starts, stops or sets the scale. (R122) -/
  | tsSourceWrite (t : Nat) (q : Req) (n : Nat) (v : Int)
  /-- A DERIVED scale is realigned to its formula at every second boundary of TS_0. (R120) -/
  | derivedRealign (t n : Nat)
  /-- In HOST mode a write of LeapPending and LeapTime sets, cancels or is refused. (R126) -/
  | leapPendingWrite (t : Nat) (q : Req) (pending time : Option Int)
  /-- At LeapTime minus LeapFlagLead served messages begin to carry the leap flags. (R128) -/
  | leapFlagStart (t : Nat)
  /-- At LeapTime UtcOffset changes by one, the flags clear and LeapsApplied increments. (R128) -/
  | leapApplied (t : Nat)
  /-- A RefEnable write takes a reference to DISABLED or to MONITOR with QualifyTime loaded. (R151) -/
  | refEnableWrite (t : Nat) (q : Req) (n : Nat) (v : Int)
  /-- A reference shows no edge, solution, Sync or Announce within its timeout and SignalLoss is set. (R136) -/
  | signalLoss (t n : Nat)
  /-- Signal loss that has lasted HoldOff takes the reference to LOST. (R137) -/
  | holdoffElapsed (t n : Nat)
  /-- The QualifyTime timer of a MONITOR reference elapses and the reference becomes AVAILABLE when no condition is
  live. (R560) -/
  | qualifyTimeElapsed (t n : Nat)
  /-- A half condition stays below 0.4 T for SuspectClearTime and clears. (R149) -/
  | suspectClearTimeElapsed (t n : Nat)
  /-- At the end of each DisagreeInterval, equal-rank references are compared for frequency disagreement. (R158) -/
  | disagreeIntervalEnd (t : Nat)
  /-- A 32-byte ToD message is received on TODIN, checked and held to label the next pulse. (R143) -/
  | todMessage (t n : Nat) (bytes : List Byte)
  /-- An ESMC PDU on the SyncE lane updates the QL of REF_14 or REF_15. (R140) -/
  | esmcPdu (t n ssm essm : Nat)
  /-- No ESMC PDU for 5 s makes the QL FAILED, mapping to DO_NOT_USE. (R140) -/
  | esmcTimeout (t n : Nat)
  /-- A write of AlignEnable starts an alignment group or is refused with RANGE. (R171) -/
  | alignEnableWrite (t : Nat) (q : Req) (g : Nat) (v : Int)
  /-- A debounced change of OVENRDY affects readiness or raises an oven fault in service. (R178) -/
  | ovenrdyChange (t : Nat) (level : Bool)
  /-- ATOMLOCK leaving or returning to its locked level degrades or restores LoState. (R181) -/
  | atomlockChange (t : Nat) (level : Bool)
  /-- The AON monitor finds the oscillator off frequency, without edges, or TSYN unlocked, and LoState becomes FAILED.
  (R182) -/
  | loFail (t detail : Nat) (lo : Int)
  /-- OvenSettleTime ends and the Keeper may take learning points again. (R180) -/
  | ovenSettleEnd (t : Nat)
  /-- An external temperature older than TempStaleLimit becomes stale. (R184) -/
  | tempStale (t : Nat)
  /-- At the end of each LearnInterval, M0 adds a learning point and refits the Keeper model, or pauses learning.
  (R185) -/
  | learnInterval (t : Nat)
  /-- M0 stores the trained Keeper model to flash every ModelStoreInterval. (R187) -/
  | modelStore (t : Nat)
  /-- A write of 1 to ModelReset discards the model unless the Keeper is steering. (R188) -/
  | modelReset (t : Nat) (q : Req) (v : Int)
  /-- An edge reaching a channel's sampler is stamped with Tick and Fine and passed to its consumers. (R204) -/
  | awlEdge (t ch tclk bin : Nat) (falling : Bool) (other : Option (Int × Nat × Nat))
  /-- An interval-unit event is released 256 ticks after its time and paired or held. (R212) -/
  | intervalEventRelease (t ch : Nat)
  /-- At the end of a FreqGate the channel computes a reciprocal frequency result. (R214) -/
  | freqGateEnd (t ch : Nat)
  /-- The event DMA writes a queued record to the ring, or discards it when the ring is full. (R219) -/
  | awlDmaWrite (t : Nat)
  /-- A write of DmaRun = 1 starts the event DMA and zeroes the ring indices. (R234) -/
  | dmaRunWrite (t : Nat) (q : Req) (v : Int)
  /-- Every BurnishStep the rotation starts a Burnish of the next item. (R223) -/
  | burnishStart (t : Nat)
  /-- A write of BurnishNow queues one item to be burnished next. (R223) -/
  | burnishNow (t : Nat) (q : Req) (v : Int)
  /-- After OverlapTime the spare's skew against channel k is measured. (R224) -/
  | skewMeasured (t : Nat)
  /-- No common edge within OverlapMax uses the reference skew or hands back unchecked. (R225) -/
  | overlapMaxExpiry (t : Nat)
  /-- At the next 1/1024 s boundary AWL_S takes duty and channel k switches to its ring oscillator. (R224) -/
  | spareOnDuty (t : Nat)
  /-- The code-density histogram completes and the new table is loaded or BinFault fails the run. (R221) -/
  | histogramDone (t dev : Nat) (hits : List Nat)
  /-- After the second overlap the handback is checked against HandoverTolerance. (R226) -/
  | handbackChecked (t : Nat)
  /-- At the next 1/1024 s boundary channel k takes its duty back and AWL_S becomes idle. (R224) -/
  | channelOnDuty (t : Nat)
  /-- A delay line leaves lock, flagging records and putting the spare on duty when idle. (R208) -/
  | dllUnlock (t dev : Nat)
  /-- A delay line regains lock and its channel is taken next by the rotation. (R208) -/
  | dllRelock (t dev : Nat)
  /-- A write of LpdBurnishNow burnishes a lane phase detector on a drained lane. (R232) -/
  | lpdBurnishNow (t : Nat) (q : Req) (l : Nat) (v : Int)
  /-- The lane phase detector stamps one recovered-clock edge per microsecond for a SyncE reference. (R231) -/
  | syncePhaseStamp (t r tclk bin : Nat)
  /-- Every second GIF_CLK is measured against TCLK and a fault stops tracking. (R260) -/
  | gifClockCheck (t : Nat) (offset : Int)
  /-- Every 81,840 samples an epoch mark is raised and stamped by the capture detector on duty. (R261) -/
  | epochMark (t tclk0 bin0 : Nat) (dk : Int) (tclk1 bin1 : Nat) (pins : List Nat) (meas : List ChanMeas)
  /-- Every GcdBurnishStep the idle GNSS capture detector is burnished. (R262) -/
  | gcdBurnish (t : Nat) (hits : List Nat)
  /-- A write of 1 to GfeReplay plays the front-end script of the IF. (R264) -/
  | gfeReplay (t : Nat) (q : Req) (k : Nat) (v : Int)
  /-- A write of GfeTransfer sends one front-end SPI transaction and stores the response. (R264) -/
  | gfeTransfer (t : Nat) (q : Req) (v : Int) (resp : List Byte)
  /-- An FFT search completes and a detection hands code phase and Doppler to a channel. (R266) -/
  | acquisitionSearchDone (t : Nat) (queued : List Search) (peak : Nat) (bin : Int) (code : Nat)
  /-- A channel whose PLL lock has held for 1 s passes from PULLIN to TRACK. (R268) -/
  | channelTrack (t c : Nat)
  /-- A channel with low C/N0 or failed PLL lock becomes LOST and is searched again. (R268) -/
  | channelLost (t c : Nat) (visible : Bool)
  /-- A navigation page, subframe or message is checked and delivered to M1 and the copy ring, or discarded. (R270) -/
  | navUnitDecoded (t c mask bits : Nat) (payload : List Byte)
  /-- A write of NavCopyRun = 1 starts the copy ring and zeroes its indices. (R272) -/
  | navCopyRunWrite (t : Nat) (q : Req) (v : Int)
  /-- M1 computes a time solution for an antenna at a solution epoch and runs the checks. (R273) -/
  | gnssSolution (t a : Nat) (sol : GSol)
  /-- A solution record reaches the SRV island and is paired with its epoch mark, or discarded as late. (R285) -/
  | solutionRecordArrival (t a : Nat)
  /-- A write of 1 to SurveyStart begins SURVEYING. (R279) -/
  | surveyStart (t : Nat) (q : Req) (a : Nat) (v : Int)
  /-- After SurveyDuration the mean position is stored and the antenna becomes SURVEYED. (R279) -/
  | surveyDone (t a : Nat)
  /-- A write of a coordinate or PositionUnc ends any survey and sets SURVEYED. (R279) -/
  | antennaPositionWrite (t : Nat) (q : Req) (a which : Nat) (v : Int)
  /-- POSITION live for ResurveyDelay starts a survey under SurveyPermit or leaves the reference suspect. (R280) -/
  | resurveyDelayElapsed (t a : Nat)
  /-- M1 stores almanac and ephemeris in flash every 3,600 s. (R278) -/
  | almanacStore (t : Nat)
  /-- An IF's magnitude occupancy outside 20 to 45 % for 1 s sets IfLevelFault. (R287) -/
  | ifLevelFault (t k occupancy : Nat)
  /-- Schedule entries due at a tick run their occurrences in the order of R305. (R304) -/
  | scheduleOccurrence (t : Nat)
  /-- A pin's periodic generator starts a pulse at each grid instant of its scale. (R289) -/
  | tioPeriodicPulse (t n : Nat)
  /-- TodoutLead before a labelled pulse a ToD message with projected bound begins transmission. (R297) -/
  | todoutMessage (t j : Nat)
  /-- A write of a schedule entry replaces or frees it after its checks. (R302) -/
  | schedEntryWrite (t : Nat) (q : Req) (e : Nat) (v : Int)
  /-- A change of TioFunction away from OUTPUT ends intervals and orphans the pin's entries. (R303) -/
  | tioFunctionWrite (t : Nat) (q : Req) (n : Nat) (v : Int)
  /-- Enabling a synthesizer starts it at its aligned phase. (R295) -/
  | osynEnableWrite (t : Nat) (q : Req) (o : Nat) (v : Int)
  /-- A write of LaneEnable turns a lane OFF or starts its CALIBRATING sequence. (R323) -/
  | laneEnableWrite (t : Nat) (q : Req) (l : Nat) (v : Int)
  /-- A write of LaneRestart takes a drained or out-of-service lane to CALIBRATING. (R324) -/
  | laneRestart (t : Nat) (q : Req) (l : Nat) (v : Int)
  /-- The CALIBRATING sequence completes and the lane becomes DOWN, DRAINED or OUT_OF_SERVICE. (R325) -/
  | laneCalibrationComplete (t l : Nat) (delays : List Nat) (burnish : List (List Nat))
  /-- A lane reaches block lock or alignment and becomes UP, recording RxSlip. (R328) -/
  | linkUp (t l : Nat) (slips : List Nat) (deskew : Int)
  /-- Loss of signal or lock takes an UP lane to DOWN. (R323) -/
  | linkDown (t l : Nat)
  /-- A write of LaneDrain drains a lane or returns it to UP or DOWN. (R326) -/
  | laneDrainWrite (t : Nat) (q : Req) (l : Nat) (v : Int)
  /-- A write of LaneLoop enters or removes a loop. (R340) -/
  | laneLoopWrite (t : Nat) (q : Req) (l : Nat) (v : Int)
  /-- A write of an equalisation entry stores it and sets EqPending. (R322) -/
  | eqEntryWrite (t : Nat) (q : Req) (l r : Nat) (v : Int)
  /-- Received LPI codes take the receive direction to LPI. (R334) -/
  | rxLpiEntry (t l : Nat)
  /-- Received idle or data codes return the receive direction to ACTIVE. (R334) -/
  | rxLpiExit (t l : Nat)
  /-- Loss of signal in LPI enters QUIET or takes the link down. (R334) -/
  | rxLpiSignalLoss (t l : Nat)
  /-- Signal detected in QUIET starts the receive WAKE. (R334) -/
  | rxSignalDetected (t l : Nat)
  /-- Lock regained within 1 ms returns the receive direction to ACTIVE and records RxSlip. (R334) -/
  | rxWakeLock (t l slip : Nat)
  /-- RxQuietMax in QUIET or 1 ms in WAKE elapses and the link goes down. (R334) -/
  | rxQuietTimeout (t l : Nat)
  /-- No frame for LpiIdleTime takes the transmit direction to LPI or QUIET. (R334) -/
  | txLpiIdle (t l : Nat)
  /-- A queued frame or due FRAME_SEND takes the sleeping transmit direction to WAKE. (R335) -/
  | txLpiWakeTrigger (t l : Nat)
  /-- LpiWakeTime elapses, the transmit direction is ACTIVE and queued frames are released. (R334) -/
  | txWakeComplete (t l : Nat)
  /-- In transmit QUIET the engine sends 20 µs of LPI refresh every 1 ms. (R334) -/
  | lpiRefresh (t l : Nat)
  /-- An envelope detector accepts the wake pattern and signals the power controller. (R338) -/
  | wakePatternDetected (t l : Nat) (edges : List Nat)
  /-- A write of WakeSend sends the wake pattern four times on a pair or management lane. (R339) -/
  | wakeSend (t : Nat) (q : Req) (v : Int)
  /-- After 4.096 ms the wake pattern ends and the lane resumes. (R339) -/
  | wakeSendDone (t l : Nat)
  /-- A write of PatTxMode or PatRxMode starts or stops the pattern generator or checker. (R342) -/
  | patModeWrite (t : Nat) (q : Req) (i : Nat) (tx : Bool) (v : Int)
  /-- A write of PatInjectOne flips one transmitted bit. (R343) -/
  | patInjectOne (t : Nat) (q : Req) (i : Nat) (v : Int)
  /-- A write of PatClear zeroes the pattern counters. (R342) -/
  | patClear (t : Nat) (q : Req) (i : Nat) (v : Int)
  /-- More than 10 % of 1,024 bits in error makes the checker lose and regain lock. (R343) -/
  | patLockLoss (t i errs : Nat)
  /-- A write of EyeScanStart starts an eye scan of the chosen lane. (R344) -/
  | eyeScanStart (t : Nat) (q : Req) (v : Int)
  /-- An eye scan completes and EyeWidth and EyeHeight are written. (R345) -/
  | eyeScanDone (t : Nat) (map : List Byte)
  /-- A received frame is stamped, filtered, buffered and classified to its consumer. (R349) -/
  | rxFrame (t p : Nat) (f : RxF)
  /-- A received PAUSE or PFC frame loads the pause timers of its classes. (R372) -/
  | pauseFrameReceived (t p enable : Nat) (times : List Nat)
  /-- The MAC commits to start a frame, fixing its launch instant, one-step fields and two-step entry. (R355) -/
  | txFrameCommit (t p : Nat) (f : TxF)
  /-- A launch-time frame is sent at T, or discarded and reported as missed. (R358) -/
  | launchTimeFrame (t p arrived : Nat) (f : TxF)
  /-- A core's read pops one entry or the tombstone from a two-step queue. (R362) -/
  | tsqRead (t p : Nat)
  /-- A write of a transmit slot replaces its frame for later occurrences. (R360) -/
  | txSlotWrite (t p slot cls : Nat) (insert : Option Insert) (frame : List Byte)
  /-- A write of PreemptEnable = 1 starts preemption verification. (R364) -/
  | preemptEnableWrite (t : Nat) (q : Req) (p : Nat) (v : Int)
  /-- A verify attempt 10 ms after the last succeeds or, after three, fails. (R364) -/
  | preemptVerify (t p : Nat) (ok : Bool)
  /-- A gate control list entry runs on the tick at which its time is reached. (R369) -/
  | gateEntry (t p : Nat)
  /-- A write of ConfigChange copies the admin gate configuration into a pending one. (R371) -/
  | configChange (t : Nat) (q : Req) (p : Nat) (v : Int)
  /-- At ConfigChangeTime the pending gate configuration becomes operative. (R371) -/
  | gateConfigChangeTime (t p : Nat)
  /-- A class's pause timer expires and the class transmits again. (R372) -/
  | pauseTimerExpiry (t p c : Nat)
  /-- A class paused for PauseLimit has its pause broken and the source reports. (R373) -/
  | pauseWatchdogBreak (t p c : Nat)
  /-- PauseBreakTime after a break, pause requests are honoured again. (R373) -/
  | pauseBreakWindowEnd (t p c : Nat)
  /-- The engine repeats its XOFF every half of its pause time. (R374) -/
  | xoffRepeat (t p c : Nat) (taken : List Nat)
  /-- The engine's own XOFF that lasted PauseLimit is ended and withheld for PauseBreakTime. (R374) -/
  | ownPauseBreak (t p c : Nat)
  /-- A write of PipeDrain reassigns the pipeline's buckets to the other active pipelines. (R381) -/
  | pipeDrainWrite (t : Nat) (q : Req) (i : Nat) (v : Int)
  /-- A draining pipeline becomes empty and reads DRAINED. (R381) -/
  | pipeDrained (t i : Nat)
  /-- A multicast instance sends Sync per LogSyncInterval. (R388) -/
  | ptpMulticastSync (t i : Nat)
  /-- A multicast instance sends Announce per LogAnnounceInterval. (R388) -/
  | ptpMulticastAnnounce (t i : Nat)
  /-- A peer-delay instance sends Pdelay_Req every 2^LogPdelayReqInterval s. (R388) -/
  | pdelayReqSend (t i : Nat)
  /-- A granted unicast Sync or Announce leaves at its phased instant. (R392) -/
  | unicastGrantTransmission (t rec typ : Nat)
  /-- A received Delay_Req is policed and answered with Delay_Resp. (R393) -/
  | delayReq (t : Nat) (f : SvcF) (p : PtpF)
  /-- A received Pdelay_Req is answered by a peer-delay instance. (R388) -/
  | pdelayReq (t : Nat) (f : SvcF) (p : PtpF)
  /-- A received Pdelay_Resp updates InstLinkDelay. (R388) -/
  | pdelayResp (t : Nat) (f : SvcF) (p : PtpF) (residence : Int)
  /-- A unicast request is granted or refused by R390 and Table 12-6. (R390) -/
  | requestUnicastTransmission (t : Nat) (f : SvcF) (p : PtpF) (rs : List UniReq)
  /-- A cancel ends the grant and is acknowledged. (R391) -/
  | cancelUnicastTransmission (t : Nat) (f : SvcF) (p : PtpF) (typ : Nat)
  /-- An Announce from another master on a served domain is ignored and flagged. (R386) -/
  | foreignAnnounce (t port domain : Nat)
  /-- A unicast grant reaches its expiry and transmissions stop. (R391) -/
  | grantExpiry (t rec typ : Nat)
  /-- A write enabling or disabling a PTP instance is checked against its profile, and disabling cancels grants.
  (R387) -/
  | instEnableWrite (t : Nat) (q : Req) (i : Nat) (v : Int)
  /-- An Announce from a tracked master updates its QL, leap statement and declared bound. (R141) -/
  | ptpAnnounceReceived (t r : Nat) (f : TrkF) (a : AnnF)
  /-- A Sync from a tracked master updates the offset of its PTP reference. (R167) -/
  | ptpSyncReceived (t r : Nat) (f : TrkF) (seq : Nat) (twoStep : Bool) (origin corr : Int) (tlv : Option TlvF)
  /-- A Follow_Up from a tracked master completes a two-step offset measurement. (R167) -/
  | followUpReceived (t r : Nat) (f : TrkF) (seq : Nat) (origin corr : Int) (tlv : Option TlvF)
  /-- A Delay_Resp completes the tracker's delay measurement. (R167) -/
  | delayRespReceived (t r : Nat) (f : TrkF) (seq : Nat) (t4 corr : Int)
  /-- The tracker sends its Delay_Req at TrkLogDelayReq intervals. (R397) -/
  | trkDelayReq (t r : Nat)
  /-- The tracker renews each grant 60 s before expiry. (R397) -/
  | trkGrantRenew (t r : Nat)
  /-- At SppNextStart the next key of a security-parameter entry becomes current. (R395) -/
  | sppKeySwitch (t e : Nat)
  /-- An NTP client request is admitted, policed and answered with a server response. (R398) -/
  | ntpRequest (t : Nat) (f : SvcF) (n : NtpF)
  /-- An NTS request has its cookie opened and authenticator verified and receives new cookies, or a NAK. (R399) -/
  | ntsRequest (t : Nat) (f : SvcF) (n : NtpF) (x : NtsF)
  /-- M2 runs NTS-KE over TLS on a new connection, or resets it when busy. (R402) -/
  | ntsKeConnection (t : Nat) (f : SvcF) (openNow : Nat) (ok : Bool)
  /-- A new cookie-key period begins at a multiple of CookieKeyPeriod. (R401) -/
  | cookiePeriodChange (t : Nat)
  /-- A client record fetched from DRAM after a cache miss releases the waiting frames of its bucket. (R406) -/
  | cacheMissFill (t bucket : Nat) (checkOk : Bool)
  /-- M2 reviews an admission notice and refuses clients of a prefix over quota. (R408) -/
  | admissionReview (t : Nat)
  /-- The background scan frees idle and expired-refused client records. (R409) -/
  | clientScan (t : Nat)
  /-- A write of KeyImport imports a key in the clear into an empty slot. (R420) -/
  | keyImport (t : Nat) (q : Req) (v : Int)
  /-- A write of KeyGenerate generates a key inside from the DRBG. (R421) -/
  | keyGenerate (t : Nat) (q : Req) (v : Int)
  /-- A write of KeyDestroy zeroes a slot in SRAM and the mirror. (R422) -/
  | keyDestroy (t : Nat) (q : Req) (v : Int)
  /-- A write of KeyRotate prepares a new key and schedules the switch. (R424) -/
  | keyRotate (t : Nat) (q : Req) (v : Int)
  /-- At SwitchAt every object naming the old slot is set to the new slot in one pass. (R424) -/
  | keyRotationSwitch (t : Nat)
  /-- KeyRetireDelay after SwitchAt the old slot is destroyed. (R424) -/
  | keyRetire (t : Nat)
  /-- A write of AttestRequest produces a signed attestation statement. (R425) -/
  | attestRequest (t : Nat) (q : Req) (v : Int)
  /-- A write of KeyQuerySlot loads the description of a slot for that requester. (R415) -/
  | keyQuery (t : Nat) (q : Req) (v : Int)
  /-- An enabled tamper source fires and the key store aborts, seals, logs, reports and may zeroise. (R428) -/
  | tamperEvent (t src detail : Nat) (begins : Bool)
  /-- A write of TamperUnseal over host SPI unseals the key store. (R432) -/
  | tamperUnseal (t : Nat) (q : Req) (v : Int)
  /-- A life-cycle request destroys key classes, blows the fuse rows and resets, or is refused. (R435) -/
  | lifeCycleRequest (t : Nat) (q : Req) (v : Int)
  /-- A customer signer hash is written once into OTP. (R439) -/
  | customerSignerHashWrite (t : Nat) (q : Req) (i : Nat) (v : Int)
  /-- A SecurityFloor of a Kind is increased in OTP. (R439) -/
  | securityFloorWrite (t : Nat) (q : Req) (kind : Nat) (v : Int)
  /-- A partner HELLO settles roles, version match or DualActive. (R445) -/
  | helloFrame (t serial priority claim : Nat) (app micro : Int) (activeSince : Nat)
  /-- A partner heartbeat updates horizons, health and PAIRCLK measurement and releases held frames. (R448) -/
  | heartbeatFrame (t mode role : Nat) (healthy : Bool) (horizon : Nat) (commits : List (Nat × Nat × Nat)) (measure own lead : Int)
  /-- A LOG frame delivers input records for the standby to execute. (R452) -/
  | logFrame (t seq : Nat) (crcOk : Bool) (recs : List (Nat × LogRec))
  /-- The active's epoch digest arrives and the standby answers with DIGEST. (R455) -/
  | epochEndFrame (t seq : Nat) (crcOk : Bool) (epoch count digest : Nat)
  /-- The standby's digest is compared with the active's, extending DigestRun or declaring divergence. (R455) -/
  | digestFrame (t epoch digest : Nat)
  /-- A NAK makes the sender retransmit the missing LinkSeq range. (R449) -/
  | nakFrame (t first last : Nat)
  /-- An ACK frees acknowledged frames from the retransmit buffer. (R449) -/
  | ackFrame (t seq : Nat)
  /-- A COPY frame delivers resynchronisation data to the standby. (R469) -/
  | copyFrame (t seq : Nat) (crcOk : Bool) (items : List CopyItem) (done : Bool)
  /-- A CUTOVER frame seeds the digest and the standby begins executing the log. (R469) -/
  | cutoverFrame (t epoch seed : Nat)
  /-- A LEAVING frame announces the instant at which the active leaves. (R463) -/
  | leavingFrame (t time cause : Nat)
  /-- An ACTIVE engine receiving TAKEN resets at once. (R447) -/
  | takenFrame (t time : Nat)
  /-- An EXCHANGE frame asks the standby to accept a planned role exchange. (R467) -/
  | exchangeFrame (t time : Nat)
  /-- The standby's answer accepts or refuses the planned exchange. (R467) -/
  | exchangeAckFrame (t time : Nat) (accept : Bool)
  /-- Every 10 µs while ALIVE toggles the engine sends a heartbeat. (R448) -/
  | heartbeatSend (t : Nat)
  /-- Every 100 µs the receiver acknowledges the highest gapless LinkSeq. (R449) -/
  | ackSend (t : Nat)
  /-- At each 1/1024 s boundary the digest of the epoch is formed and lane membership changes take effect. (R455) -/
  | epochBoundary (t : Nat) (writers : List (Nat × Nat × Nat)) (cutover : Option Nat)
  /-- DigestDeadline after an epoch a missing record, digest or handler is a divergence. (R455) -/
  | digestDeadline (t : Nat)
  /-- No good Buckle frame for LinkLossTime makes the link silent. (R451) -/
  | linkSilent (t : Nat)
  /-- PEER_ALIVE changes level and restarts the AliveLossTime count. (R463) -/
  | peerAliveChange (t : Nat) (level : Bool)
  /-- LEAVING's instant is reached, or silence with AliveLossTime expired confirms partner loss. (R463) -/
  | partnerLossConfirmed (t : Nat)
  /-- No HELLO within PairJoinWait and the engine becomes ACTIVE SOLO. (R445) -/
  | pairJoinWaitExpiry (t : Nat)
  /-- Every 900 s the pair capture detector is burnished. (R460) -/
  | pcdBurnish (t : Nat)
  /-- A write of RoleExchangeAt starts a planned role exchange. (R467) -/
  | roleExchangeWrite (t : Nat) (q : Req) (v : Int)
  /-- A write of PairEnable enables or leaves pair operation. (R471) -/
  | pairEnableWrite (t : Nat) (q : Req) (v : Int)
  /-- A resync step exceeds its limit and the run ends FAILED. (R469) -/
  | resyncStepTimeout (t : Nat)
  /-- 10 s after a failed run or partner loss a new resync run starts. (R469) -/
  | resyncRetry (t : Nat)
  /-- The supervisor delivers an epoch's events to M3 handlers in entry-tick order. (R458) -/
  | m3EventDelivery (t : Nat)
  /-- An M3 handler returns and its actions take effect at epoch e + 2 or the logged boundary. (R459) -/
  | m3HandlerReturn (t : Nat) (acts : List (Nat × Int))
  /-- A fault report released 1.6 µs after its tick updates its source record, level, log and reactions. (R478) -/
  | faultReport (t src detail : Nat)
  /-- The settle window ends and sources still live report once more. (R485) -/
  | reactSettleEnd (t r : Nat)
  /-- A quiet source returns to CLEAR after QuietPeriod. (R474) -/
  | sourceQuietPeriod (t src : Nat)
  /-- A write of FaultAck clears Unacked of one or all sources. (R476) -/
  | faultAck (t : Nat) (q : Req) (v : Int)
  /-- A write of FaultRecordClear zeroes CLEAR records. (R477) -/
  | faultRecordClear (t : Nat) (q : Req) (v : Int)
  /-- A write of FaultQuerySource loads a record and clears Unread. (R475) -/
  | faultQuery (t : Nat) (q : Req) (v : Int)
  /-- A write of SourceConfig applies to the next report, and Enable = 0 clears the source. (R480) -/
  | sourceConfigWrite (t : Nat) (q : Req) (src : Nat) (v : Int)
  /-- Every 500 µs ALIVE changes level while its conditions hold. (R481) -/
  | aliveToggle (t : Nat)
  /-- The sequencer stalls for 1 ms and the watchdog stops ALIVE and restarts the GTH island. (R482) -/
  | collectorWatchdog (t : Nat)
  /-- A core watchdog expires and reports CORE_WATCHDOG_c. (R488) -/
  | coreWatchdogExpiry (t c : Nat)
  /-- No servo update for 64 ms raises the CRITICAL source SRV_STALL. (R472) -/
  | srvStall (t : Nat)
  /-- A performance counter wraps at 2^48 and sets its overflow bit. (R493) -/
  | pmcWrap (t k : Nat)
  /-- A write of PmcEvent, PmcMode or PmcThreshold zeroes the counter. (R492) -/
  | pmcConfigWrite (t : Nat) (q : Req) (k which : Nat) (v : Int)
  /-- A write of PmcClearLo or PmcClearHi zeroes the chosen counters. (R492) -/
  | pmcClear (t : Nat) (q : Req) (hi : Bool) (v : Int)
  /-- A request for RUN is queued or started, ungating every block. (R500) -/
  | powerRequestRun (t : Nat) (q : Req)
  /-- A request for TRIM is queued or started and gates unused blocks. (R500) -/
  | powerRequestTrim (t : Nat) (q : Req)
  /-- A request for QUIET asks the blocks and enters QUIET or is refused. (R500) -/
  | powerRequestQuiet (t : Nat) (q : Req) (delays : List (Nat × Nat))
  /-- A request for KEEP asks the blocks and enters KEEP, or starts a wake from KEEP. (R500) -/
  | powerRequestKeep (t : Nat) (q : Req) (delays : List (Nat × Nat))
  /-- A request for OFF prepares and gates every island. (R505) -/
  | powerRequestOff (t : Nat) (q : Req) (delays : List (Nat × Nat))
  /-- The longest Delay ends and the delaying blocks are asked again, leading to commit or refusal. (R500) -/
  | powerDelayElapsed (t : Nat) (answers : List (Nat × Nat))
  /-- Every data-lane transmitter is in QUIET and PowerState reads QUIET. (R503) -/
  | quietEntryComplete (t : Nat)
  /-- Entry to KEEP completes with islands gated and PowerState KEEP. (R504) -/
  | keepEntryComplete (t : Nat)
  /-- TS_0 reaches WakeAt and the engine wakes into WakeTarget. (R506) -/
  | wakeTimer (t : Nat)
  /-- The wake from KEEP completes with retention checked, banks rebuilt and islands restarted. (R507) -/
  | wakeComplete (t failed : Nat) (image : List Ent)
  /-- Supplies not in range after WakeSupplyWait leave the engine in KEEP. (R508) -/
  | wakeFailed (t : Nat)
  /-- The patrol scrub reads all of DRAM every DramScrubInterval. (R514) -/
  | dramScrub (t : Nat) (found : List (Bool × Nat))
  /-- The patrol scrub reads all of SRAM every hour. (R514) -/
  | sramScrub (t : Nat) (found : List (Bool × Nat))
  /-- A memory read finds a corrected or uncorrected ECC error and reports it. (R514) -/
  | eccError (t : Nat) (dram corrected : Bool) (unit : Nat)
  /-- A write of UpdateBegin opens the staging of a container. (R531) -/
  | updateBegin (t : Nat) (q : Req) (v : Int)
  /-- A write of UpdateChunk stores container data in the staging buffer. (R531) -/
  | updateChunk (t : Nat) (q : Req) (v : Int)
  /-- A write of UpdateApply verifies the container and starts the UPDATE record. (R532) -/
  | updateApply (t : Nat) (q : Req) (v : Int)
  /-- Writing of slot B completes and slot B is verified. (R532) -/
  | updateBWritten (t : Nat) (writeOk validOk : Bool)
  /-- Slot A has been rewritten from slot B and verified. (R532) -/
  | updateAWritten (t : Nat) (ok : Bool)
  /-- The new image is activated live by Kind, at once or at ActivateAt. (R533) -/
  | updateActivation (t : Nat)
  /-- PORST_N or RESET_N rises, or a brownout hold ends with the rails in range for 2 ms, and POWERUP begins with boot
  verification and the OvenWarmupElapsed count. (R545) -/
  | resetRelease (t : Nat)
  /-- No GIF_CLK edge arrives within 1 µs, GifClockState becomes FAULT and tracking stops. (R260) -/
  | gifClkLoss (t : Nat)
  /-- A core restarted by a reaction, a watchdog restart or an activation has verified its image and is RUNNING again,
  and its watchdog starts a full period. (R488) -/
  | coreRunning (t c : Nat)
  /-- A pipeline reset by a reaction, or loaded with new microcode, returns to ACTIVE and takes its buckets back.
  (R484) -/
  | pipelineReturnedActive (t i : Nat)
  /-- The gating or ungating for RUN, TRIM or OFF ends, PowerState takes the new value, PowerSince is written and any
  queued request starts. (R500) -/
  | powerGatingDone (t : Nat)
  /-- A Signaling GRANT, or a refusal, from the tracked master answers the tracker's request and sets the expiry that
  renewal counts from. (R397) -/
  | trackerGrantReceived (t r : Nat) (f : TrkF) (typ duration : Nat)
  /-- A monitored main rail returns within its operating range and the live bit of source SUPPLY falls, starting its
  quiet period. (R544) -/
  | supplyInRange (t rail : Nat)
  deriving DecidableEq, Repr

end Sys2Proof
end

