-- ==== Sys2Proof/Decode.lean ====
section
/-! DEFINITION. Commands from words: the table of operations and events gives its rows no bits, so no word spells one. -/

namespace Sys2Proof

/-- The command that a word spells by the bits of the table: none, as no row of it has bits. -/
def decodeTableWord (_nbits _w : Nat) : Option Instr := none

end Sys2Proof
end

