-- ==== Sys2Proof/Machine/Objects.lean ====
section
/-! DEFINITION. The names of the objects of the dictionary (R8, R46), one per row of the object tables of the
chapters. An object's key is its index times 256 plus its subindex; where a row stands for several units, the key is
a function of the unit's number. The named bits of the bit maps drawn in those tables follow. -/

namespace Sys2Proof.Machine.Od


/-! ### Table 1-11 — Mode objects (R45) -/

def opMode : Nat := 0x101001
def modeSince : Nat := 0x101002
def lastModeCause : Nat := 0x101003
def modeSticky : Nat := 0x101004
def modeStickyIrqMask : Nat := 0x101005
def shadowMode : Nat := 0x101006
def modeRequest : Nat := 0x101101
def modeRequestResult : Nat := 0x101102
def modeArm : Nat := 0x101201
def acquireTimeout : Nat := 0x101301
def warmupTimeout : Nat := 0x101302

/-! ### Table 2-3 — Identity objects (R55) -/

def deviceType : Nat := 0x100001
def deviceName : Nat := 0x100801
def siliconStepping : Nat := 0x100901
def firmwareVersionM0 : Nat := 0x100A01
def firmwareVersionM1 : Nat := 0x100A02
def firmwareVersionM2 : Nat := 0x100A03
def applicationVersionM3 : Nat := 0x100A04
def bootSlot : Nat := 0x100B01
def identityHighest : Nat := 0x101800
def vendorOui : Nat := 0x101801
def productCode : Nat := 0x101802
def revisionNumber : Nat := 0x101803
def serialNumber : Nat := 0x101804
def lifeCycleState : Nat := 0x102001
def pairRole : Nat := 0x102101
def partnerSerial : Nat := 0x102102
def grade : Nat := 0x102201

/-! ### Table 2-8 — OAP and access objects (R69) -/

def oapPort : Nat := 0x120001
def oapPorts : Nat := 0x120002
def sessionIdle : Nat := 0x120003
def sessionMax : Nat := 0x120004
def helloRateLimit : Nat := 0x120005
def pskL0 : Nat := 0x120101
def pskL1 : Nat := 0x120102
def pskL2 : Nat := 0x120103
def pskL3 : Nat := 0x120104
def pskL4 : Nat := 0x120105
def sessionsOpen : Nat := 0x120201
def helloDropped : Nat := 0x120202
def tagFailures : Nat := 0x120203
def replayDrops : Nat := 0x120204
def malformedDatagrams : Nat := 0x120205
def sessionsClosed : Nat := 0x120206
def hspiLevel : Nat := 0x121001
def hspiIrqEnable : Nat := 0x121002
def hspiCrcErrors : Nat := 0x121003

/-! ### Table 2-11 — Staging objects (R81) -/

def stageState : Nat := 0x1F0001
def stageSession : Nat := 0x1F0002
def stageEntries : Nat := 0x1F0003
def stageBytes : Nat := 0x1F0004
def stageAt : Nat := 0x1F0005
def stageOpId : Nat := 0x1F0006
def stageDiscards : Nat := 0x1F0007
def commitMinLead : Nat := 0x1F0101
def commitMaxAhead : Nat := 0x1F0102

/-! ### Table 2-12 — Journal objects (R86) -/

def journalNextOpId : Nat := 0x1F8001
def journalCount : Nat := 0x1F8002
def journalLastOpId : Nat := 0x1F8003
def journalOldestOpId : Nat := 0x1F8004
def journalQueryId : Nat := 0x1F8101
def jqKind : Nat := 0x1F8102
def jqOutcome : Nat := 0x1F8103
def jqStepsTotal : Nat := 0x1F8104
def jqStepsDone : Nat := 0x1F8105
def jqLastStep : Nat := 0x1F8106
def jqStartTime : Nat := 0x1F8107
def jqLastTime : Nat := 0x1F8108
def jqOrigin : Nat := 0x1F8109
def jqRestartOf : Nat := 0x1F810A
def jqDetail : Nat := 0x1F810B
def jqFlags : Nat := 0x1F810C

/-! ### Table 3-4 — UTC and leap objects (R134) -/

def utcOffset : Nat := 0x200001
def leapPending : Nat := 0x200002
def leapTime : Nat := 0x200003
def leapSourceMode : Nat := 0x200004
def leapFlagLead : Nat := 0x200005
def leapSource : Nat := 0x200006
def utcSticky : Nat := 0x200007
def leapsApplied : Nat := 0x200008
def referenceUtcOffset : Nat := 0x200009
def utcStickyIrqMask : Nat := 0x20000A
def ntpSmear : Nat := 0x200101
def smearWindow : Nat := 0x200102

/-! ### Table 3-5 — Time-scale objects, index 0x2010 + n (R134) -/

def tsHighest (n : Nat) : Nat := 0x201000 + 256 * n
def tsSource (n : Nat) : Nat := 0x201001 + 256 * n
def tsNow (n : Nat) : Nat := 0x201002 + 256 * n
def tsState (n : Nat) : Nat := 0x201003 + 256 * n
def timeOrigin (n : Nat) : Nat := 0x201004 + 256 * n
def tsSticky (n : Nat) : Nat := 0x201005 + 256 * n
def tsStickyIrqMask (n : Nat) : Nat := 0x201006 + 256 * n
def tsReference (n : Nat) : Nat := 0x201007 + 256 * n
def derivedRate (n : Nat) : Nat := 0x201008 + 256 * n
def derivedAnchor (n : Nat) : Nat := 0x201009 + 256 * n
def derivedStart (n : Nat) : Nat := 0x20100A + 256 * n
def stepCount (n : Nat) : Nat := 0x20100B + 256 * n
def lastStepTime (n : Nat) : Nat := 0x20100C + 256 * n
def lastStepSize (n : Nat) : Nat := 0x20100D + 256 * n
def convTooOld (n : Nat) : Nat := 0x20100E + 256 * n

/-! ### Table 3-6 — Servo objects, index 0x2100 + n (R134) -/

def servoHighest (n : Nat) : Nat := 0x210000 + 256 * n
def servoNaturalFreq (n : Nat) : Nat := 0x210001 + 256 * n
def servoDamping (n : Nat) : Nat := 0x210002 + 256 * n
def lockThreshold (n : Nat) : Nat := 0x210003 + 256 * n
def lockDwell (n : Nat) : Nat := 0x210004 + 256 * n
def freqLimit (n : Nat) : Nat := 0x210005 + 256 * n
def measStaleLimit (n : Nat) : Nat := 0x210006 + 256 * n
def servoState (n : Nat) : Nat := 0x210007 + 256 * n
def phaseError (n : Nat) : Nat := 0x210008 + 256 * n
def servoSticky (n : Nat) : Nat := 0x210009 + 256 * n
def servoStickyIrqMask (n : Nat) : Nat := 0x21000A + 256 * n
def servoUpdates (n : Nat) : Nat := 0x21000B + 256 * n
def updatesMissed (n : Nat) : Nat := 0x21000C + 256 * n

/-! ### Table 3-7 — Steering objects, index 0x2110 + n (R134) -/

def steerHighest (n : Nat) : Nat := 0x211000 + 256 * n
def incOwner (n : Nat) : Nat := 0x211001 + 256 * n
def incOwnerRequest (n : Nat) : Nat := 0x211002 + 256 * n
def freqSteer (n : Nat) : Nat := 0x211003 + 256 * n
def freqNow (n : Nat) : Nat := 0x211004 + 256 * n
def incNow (n : Nat) : Nat := 0x211005 + 256 * n
def incNowFrac (n : Nat) : Nat := 0x211006 + 256 * n
def incWrite (n : Nat) : Nat := 0x211007 + 256 * n
def incWriteFrac (n : Nat) : Nat := 0x211008 + 256 * n
def phaseAdjust (n : Nat) : Nat := 0x211009 + 256 * n
def slewRemaining (n : Nat) : Nat := 0x21100A + 256 * n
def timeSet (n : Nat) : Nat := 0x21100B + 256 * n

/-! ### Table 3-8 — Global steering objects (R134) -/

def slopeLimit : Nat := 0x212001
def stepPermit : Nat := 0x212002
def stepThreshold : Nat := 0x212003
def incNominal : Nat := 0x212004
def incNominalFrac : Nat := 0x212005
def natFreqAuto : Nat := 0x212101
def natFreqPhysical : Nat := 0x212102
def natFreqGnss : Nat := 0x212103
def natFreqPtp : Nat := 0x212104
def natFreqSynce : Nat := 0x212105

/-! ### Table 4-8 — Reference objects, index 0x2200 + n (R173) -/

def refHighest (n : Nat) : Nat := 0x220000 + 256 * n
def refEnable (n : Nat) : Nat := 0x220001 + 256 * n
def refState (n : Nat) : Nat := 0x220002 + 256 * n
def refKind (n : Nat) : Nat := 0x220003 + 256 * n
def priority (n : Nat) : Nat := 0x220004 + 256 * n
def qlMode (n : Nat) : Nat := 0x220005 + 256 * n
def qlFixed (n : Nat) : Nat := 0x220006 + 256 * n
def qlReceived (n : Nat) : Nat := 0x220007 + 256 * n
def qlEffective (n : Nat) : Nat := 0x220008 + 256 * n
def refLive (n : Nat) : Nat := 0x220009 + 256 * n
def refSticky (n : Nat) : Nat := 0x22000A + 256 * n
def refStickyIrqMask (n : Nat) : Nat := 0x22000B + 256 * n
def freqTolerance (n : Nat) : Nat := 0x22000C + 256 * n
def phaseTolerance (n : Nat) : Nat := 0x22000D + 256 * n
def wanderTolerance (n : Nat) : Nat := 0x22000E + 256 * n
def wanderWindow (n : Nat) : Nat := 0x22000F + 256 * n
def qualifyTime (n : Nat) : Nat := 0x220010 + 256 * n
def lossTimeout (n : Nat) : Nat := 0x220011 + 256 * n
def freqOffset (n : Nat) : Nat := 0x220012 + 256 * n
def phaseOffset (n : Nat) : Nat := 0x220013 + 256 * n
def phaseDeviation (n : Nat) : Nat := 0x220014 + 256 * n
def wander (n : Nat) : Nat := 0x220015 + 256 * n
def stateSince (n : Nat) : Nat := 0x220016 + 256 * n
def selectCount (n : Nat) : Nat := 0x220017 + 256 * n
def lossCount (n : Nat) : Nat := 0x220018 + 256 * n
def refinFreq (n : Nat) : Nat := 0x220020 + 256 * n
def refinDelay (n : Nat) : Nat := 0x220021 + 256 * n
def todEnable (n : Nat) : Nat := 0x220022 + 256 * n
def todBaud (n : Nat) : Nat := 0x220023 + 256 * n
def todCrcErrors (n : Nat) : Nat := 0x220024 + 256 * n
def todMissed (n : Nat) : Nat := 0x220025 + 256 * n
def ptpDomain (n : Nat) : Nat := 0x220030 + 256 * n
def ptpPort (n : Nat) : Nat := 0x220031 + 256 * n
def ptpMaster (n : Nat) : Nat := 0x220032 + 256 * n
def ptpAccuracyLimit (n : Nat) : Nat := 0x220033 + 256 * n
def ptpClockClass (n : Nat) : Nat := 0x220034 + 256 * n
def synceLane (n : Nat) : Nat := 0x220040 + 256 * n
def ssmLast (n : Nat) : Nat := 0x220041 + 256 * n
def essmLast (n : Nat) : Nat := 0x220042 + 256 * n

/-! ### Table 4-9 — Selection and Stitch objects (R173) -/

def selectedRef : Nat := 0x228001
def forceRef : Nat := 0x228002
def revertive : Nat := 0x228003
def holdOff : Nat := 0x228004
def waitToRestore : Nat := 0x228005
def qlMinimum : Nat := 0x228006
def suspectClearTime : Nat := 0x228007
def selectSticky : Nat := 0x228008
def selectStickyIrqMask : Nat := 0x228009
def switches : Nat := 0x22800A
def lastSwitchTime : Nat := 0x22800B
def lastSwitchFrom : Nat := 0x22800C
def lastSwitchCause : Nat := 0x22800D
def stitchRemaining : Nat := 0x228101
def lastStitchOffset : Nat := 0x228102
def stitchCount : Nat := 0x228103
def lastStitchTime : Nat := 0x228104

/-! ### Table 4-10 — Disagreement objects (R173) -/

def disagreeScope : Nat := 0x228201
def disagreeThreshold : Nat := 0x228202
def disagreeCount : Nat := 0x228203
def disagreeInterval : Nat := 0x228204
def disagreeWith : Nat := 0x228205
def arbiterRef : Nat := 0x228206
def arbiterVerdict : Nat := 0x228207

/-! ### Table 4-11 — Alignment objects, index 0x22C0 + g (R173) -/

def alignHighest (g : Nat) : Nat := 0x22C000 + 256 * g
def alignEnable (g : Nat) : Nat := 0x22C001 + 256 * g
def alignSource (g : Nat) : Nat := 0x22C002 + 256 * g
def alignOffset (g : Nat) : Nat := 0x22C003 + 256 * g
def alignMode (g : Nat) : Nat := 0x22C004 + 256 * g
def alignTio (g : Nat) : Nat := 0x22C005 + 256 * g
def alignOsyn (g : Nat) : Nat := 0x22C006 + 256 * g
def alignPhase (g : Nat) : Nat := 0x22C007 + 256 * g
def alignState (g : Nat) : Nat := 0x22C008 + 256 * g

/-! ### Table 5-6 — Oscillator objects (R200) -/

def loSource : Nat := 0x240001
def loSourceActive : Nat := 0x240002
def loFrequency : Nat := 0x240003
def xtalFrequency : Nat := 0x240004
def loState : Nat := 0x240005
def loSticky : Nat := 0x240006
def loStickyIrqMask : Nat := 0x240007
def tsynLocked : Nat := 0x240008
def xtalSettle : Nat := 0x240009
def loMeasuredOffset : Nat := 0x24000A
def atomLockPolarity : Nat := 0x240101
def atomLockDwell : Nat := 0x240102
def atomLocked : Nat := 0x240103
def atomUnlockCount : Nat := 0x240104
def atomUnlockUnc : Nat := 0x240105

/-! ### Table 5-7 — Keeper model objects (R200) -/

def modelState : Nat := 0x241001
def modelOffset : Nat := 0x241002
def modelAgeing : Nat := 0x241003
def modelTempCoef : Nat := 0x241004
def modelAnchorTime : Nat := 0x241005
def modelAnchorTemp : Nat := 0x241006
def modelFreqUnc : Nat := 0x241007
def modelAgeingUnc : Nat := 0x241008
def modelTempUnc : Nat := 0x241009
def modelPoints : Nat := 0x24100A
def modelUpdated : Nat := 0x24100B
def keeperPrediction : Nat := 0x24100C
def keeperSticky : Nat := 0x24100D
def keeperStickyIrqMask : Nat := 0x24100E
def learnInterval : Nat := 0x241101
def learnWindow : Nat := 0x241102
def learnMinPoints : Nat := 0x241103
def learnHoldoff : Nat := 0x241104
def ageingMode : Nat := 0x241105
def ageingUser : Nat := 0x241106
def ageingUserUnc : Nat := 0x241107
def tempCompEnable : Nat := 0x241108
def anchorWindow : Nat := 0x241109
def modelStoreInterval : Nat := 0x24110A
def modelReset : Nat := 0x24110B

/-! ### Table 5-8 — Temperature objects (R200) -/

def tempSource : Nat := 0x242001
def tempOnChip : Nat := 0x242002
def tempExternal : Nat := 0x242003
def tempExternalAge : Nat := 0x242004
def tempStaleLimit : Nat := 0x242005
def tempStaleExcursion : Nat := 0x242006
def tempInUse : Nat := 0x242007
def tempEntry : Nat := 0x242008

/-! ### Table 5-9 — Holdover objects (R200) -/

def holdoverLimit : Nat := 0x243001
def holdoverWarnLead : Nat := 0x243002
def holdoverState : Nat := 0x243003
def holdoverEntryTime : Nat := 0x243004
def holdoverElapsed : Nat := 0x243005
def holdoverGrowth : Nat := 0x243006
def holdoverLimitTime : Nat := 0x243007
def holdoverRemaining : Nat := 0x243008
def holdoverNoiseCoef : Nat := 0x243009
def holdoverCount : Nat := 0x24300A
def lastHoldoverDuration : Nat := 0x24300B
def returnOffset : Nat := 0x24300C
def boundAtReturn : Nat := 0x24300D
def holdoverSticky : Nat := 0x24300E
def holdoverStickyIrqMask : Nat := 0x24300F

/-! ### Table 5-10 — GWN5120-compatible oven objects (R200) -/

def ovenReadyPolarity : Nat := 0x248002
def ovenReadyMode : Nat := 0x248003
def ovenWarmupMin : Nat := 0x248004
def ovenReadyDebounce : Nat := 0x248005
def ovenState : Nat := 0x248006
def ovenWarmupElapsed : Nat := 0x248007
def ovenUnreadyCount : Nat := 0x248008
def ovenUnreadyUnc : Nat := 0x248009
def ovenSettleTime : Nat := 0x24800A

/-! ### Table 6-7 — Channel objects, index 0x2600 + n (R233) -/

def awlHighest (n : Nat) : Nat := 0x260000 + 256 * n
def awlEnable (n : Nat) : Nat := 0x260001 + 256 * n
def awlMode (n : Nat) : Nat := 0x260002 + 256 * n
def awlEdge (n : Nat) : Nat := 0x260003 + 256 * n
def awlTimeScale (n : Nat) : Nat := 0x260004 + 256 * n
def awlDelay (n : Nat) : Nat := 0x260005 + 256 * n
def prescale (n : Nat) : Nat := 0x260006 + 256 * n
def intervalStart (n : Nat) : Nat := 0x260007 + 256 * n
def intervalWindow (n : Nat) : Nat := 0x260008 + 256 * n
def freqGate (n : Nat) : Nat := 0x260009 + 256 * n
def nominalFreq (n : Nat) : Nat := 0x26000A + 256 * n
def dmaEnable (n : Nat) : Nat := 0x26000B + 256 * n
def awlState (n : Nat) : Nat := 0x26000C + 256 * n
def lastStamp (n : Nat) : Nat := 0x26000D + 256 * n
def lastResult (n : Nat) : Nat := 0x26000E + 256 * n
def lastFlags (n : Nat) : Nat := 0x26000F + 256 * n
def events (n : Nat) : Nat := 0x260010 + 256 * n
def deadTimeLosses (n : Nat) : Nat := 0x260011 + 256 * n
def overrunLosses (n : Nat) : Nat := 0x260012 + 256 * n
def dmaDropped (n : Nat) : Nat := 0x260013 + 256 * n
def unpaired (n : Nat) : Nat := 0x260014 + 256 * n
def awlSticky (n : Nat) : Nat := 0x260015 + 256 * n
def awlStickyIrqMask (n : Nat) : Nat := 0x260016 + 256 * n
def lastBurnish (n : Nat) : Nat := 0x260017 + 256 * n
def binSpread (n : Nat) : Nat := 0x260018 + 256 * n
def binWidths (n : Nat) : Nat := 0x260019 + 256 * n
def sysTerm (n : Nat) : Nat := 0x26001A + 256 * n

/-! ### Table 6-8 — Spare objects, index 0x2628 (R233) -/

def spareHighest : Nat := 0x262800
def spareState : Nat := 0x26280C
def spareLastBurnish : Nat := 0x262817
def spareBinSpread : Nat := 0x262818
def spareBinWidths : Nat := 0x262819
def spareFor : Nat := 0x262820
def spareSkew : Nat := 0x262821

/-! ### Table 6-9 — Lane phase detector objects, index 0x2660 + d (R233) -/

def lpdHighest (d : Nat) : Nat := 0x266000 + 256 * d
def lpdState (d : Nat) : Nat := 0x266001 + 256 * d
def lpdLastBurnish (d : Nat) : Nat := 0x266002 + 256 * d
def lpdBinSpread (d : Nat) : Nat := 0x266003 + 256 * d
def lpdSysTerm (d : Nat) : Nat := 0x266004 + 256 * d
def lpdBurnishNow (d : Nat) : Nat := 0x266005 + 256 * d

/-! ### Table 6-10 — Burnish objects (R233) -/

def burnishStep : Nat := 0x268001
def burnishSamples : Nat := 0x268002
def overlapTime : Nat := 0x268003
def overlapMax : Nat := 0x268004
def handoverTolerance : Nat := 0x268005
def spareAuto : Nat := 0x268006
def burnishNow : Nat := 0x268007
def burnishCurrent : Nat := 0x268008
def burnishNext : Nat := 0x268009
def burnishRuns : Nat := 0x26800A
def burnishFailures : Nat := 0x26800B
def burnishBlocked : Nat := 0x26800C

/-! ### Table 6-11 — Event DMA objects (R233) -/

def dmaRun : Nat := 0x269001
def dmaBase : Nat := 0x269002
def dmaSize : Nat := 0x269003
def dmaWriteIndex : Nat := 0x269004
def dmaReadIndex : Nat := 0x269005
def dmaIrqThreshold : Nat := 0x269006
def ringFull : Nat := 0x269007
def dmaRecords : Nat := 0x269008

/-! ### Table 7-8 — Bound objects, index 0x2A00 + n (R257) -/

def boundHighest (n : Nat) : Nat := 0x2A0000 + 256 * n
def bound (n : Nat) : Nat := 0x2A0001 + 256 * n
def boundTime (n : Nat) : Nat := 0x2A0002 + 256 * n
def boundFlags (n : Nat) : Nat := 0x2A0003 + 256 * n
def termDeclared (n : Nat) : Nat := 0x2A0004 + 256 * n
def termMeasSys (n : Nat) : Nat := 0x2A0005 + 256 * n
def termAsym (n : Nat) : Nat := 0x2A0006 + 256 * n
def termServo (n : Nat) : Nat := 0x2A0007 + 256 * n
def termStitch (n : Nat) : Nat := 0x2A0008 + 256 * n
def termHoldover (n : Nat) : Nat := 0x2A0009 + 256 * n
def termFreqRef (n : Nat) : Nat := 0x2A000A + 256 * n
def termInterval (n : Nat) : Nat := 0x2A000B + 256 * n
def termStale (n : Nat) : Nat := 0x2A000C + 256 * n
def termPairAlign (n : Nat) : Nat := 0x2A000D + 256 * n
def randomSigma (n : Nat) : Nat := 0x2A000E + 256 * n
def traceRef (n : Nat) : Nat := 0x2A000F + 256 * n
def oldestTermAge (n : Nat) : Nat := 0x2A0010 + 256 * n
def calibrationAge (n : Nat) : Nat := 0x2A0011 + 256 * n
def calibrationOpId (n : Nat) : Nat := 0x2A0012 + 256 * n
def boundSticky (n : Nat) : Nat := 0x2A0013 + 256 * n
def boundStickyIrqMask (n : Nat) : Nat := 0x2A0014 + 256 * n
def softwareBound (n : Nat) : Nat := 0x2A0015 + 256 * n

/-! ### Table 7-9 — Global bound objects (R257) -/

def coverageFactor : Nat := 0x2A2001
def staleGrace : Nat := 0x2A2002
def ntpUnsyncLimit : Nat := 0x2A2003
def ebTlvType : Nat := 0x2A2004
def ebTlvOnAnnounce : Nat := 0x2A2005
def ebTlvOnSync : Nat := 0x2A2006
def ebTlvAccept : Nat := 0x2A2007
def pairAlignTerm : Nat := 0x2A2008
def todoutTerm : Nat := 0x2A2009

/-! ### Table 7-10 — Port bound objects, index 0x2A30 + p, p = data port 0 … 15 (R257) -/

def portBoundHighest (p : Nat) : Nat := 0x2A3000 + 256 * p
def portAsymAllowance (p : Nat) : Nat := 0x2A3001 + 256 * p
def portTsSysTerm (p : Nat) : Nat := 0x2A3002 + 256 * p
def portRandomSigma (p : Nat) : Nat := 0x2A3003 + 256 * p

/-! ### Table 7-11 — Reference bound objects, index 0x2A40 + n, n = 0 … 15 (R257) -/

def refBoundHighest (n : Nat) : Nat := 0x2A4000 + 256 * n
def refDeclaredUnc (n : Nat) : Nat := 0x2A4001 + 256 * n
def refDeclaredIn (n : Nat) : Nat := 0x2A4002 + 256 * n
def refDeclaredSource (n : Nat) : Nat := 0x2A4003 + 256 * n
def refDeclaredAge (n : Nat) : Nat := 0x2A4004 + 256 * n
def refMeasSys (n : Nat) : Nat := 0x2A4005 + 256 * n
def refRandomSigma (n : Nat) : Nat := 0x2A4006 + 256 * n
def refAsym (n : Nat) : Nat := 0x2A4007 + 256 * n
def refBound (n : Nat) : Nat := 0x2A4008 + 256 * n
def freqRefUnc (n : Nat) : Nat := 0x2A4009 + 256 * n
def refinDelayUnc (n : Nat) : Nat := 0x2A400A + 256 * n

/-! ### Table 8-7 — Global GNSS objects (R287) -/

def gnssEnable : Nat := 0x300001
def systemsEnabled : Nat := 0x300002
def systemPrimary : Nat := 0x300003
def solutionRate : Nat := 0x300004
def elevationMask : Nat := 0x300005
def cnoUseMin : Nat := 0x300006
def solutionMinSv : Nat := 0x300007
def surveyPermit : Nat := 0x300008
def gnssSticky : Nat := 0x300009
def gnssStickyIrqMask : Nat := 0x30000A
def gifClockOffset : Nat := 0x30000B
def gifClockState : Nat := 0x30000C
def solutionsLate : Nat := 0x30000D

/-! ### Table 8-8 — Front-end SPI and capture objects (R287) -/

def gfeSpiClock : Nat := 0x300201
def gfeTransfer : Nat := 0x300202
def gfeResponse : Nat := 0x300203
def gfeTransfers : Nat := 0x300204
def gcdOnDuty : Nat := 0x300301
def gcdBurnishStep : Nat := 0x300302
def gcdSkew : Nat := 0x300303
def gcdSysTerm : Nat := 0x300304
def gcdLastBurnish0 : Nat := 0x300305
def gcdLastBurnish1 : Nat := 0x300306

/-! ### Table 8-9 — IF objects, index 0x3010 + k (R287) -/

def ifHighest (k : Nat) : Nat := 0x301000 + 256 * k
def ifEnable (k : Nat) : Nat := 0x301001 + 256 * k
def ifCenterFreq (k : Nat) : Nat := 0x301002 + 256 * k
def ifInvertQ (k : Nat) : Nat := 0x301003 + 256 * k
def ifDelay (k : Nat) : Nat := 0x301004 + 256 * k
def ifDelayUnc (k : Nat) : Nat := 0x301005 + 256 * k
def ifBiasGal (k : Nat) : Nat := 0x301006 + 256 * k
def ifBiasBds (k : Nat) : Nat := 0x301007 + 256 * k
def ifMagOccupancy (k : Nat) : Nat := 0x301008 + 256 * k
def ifChannelsTracking (k : Nat) : Nat := 0x301009 + 256 * k
def gfeScript (k : Nat) : Nat := 0x30100A + 256 * k
def gfeReplay (k : Nat) : Nat := 0x30100B + 256 * k

/-! ### Table 8-10 — Acquisition, tracking and check objects (R287) -/

def acqDopplerRange : Nat := 0x302001
def acqNoncoherent : Nat := 0x302002
def acqThreshold : Nat := 0x302003
def acqSearches : Nat := 0x302004
def acqDetections : Nat := 0x302005
def fllBandwidth : Nat := 0x302101
def pllBandwidth : Nat := 0x302102
def dllBandwidth : Nat := 0x302103
def dllSpacing : Nat := 0x302104
def cnoLossThreshold : Nat := 0x302105
def utcTransferUnc : Nat := 0x303001
def tropoUnc : Nat := 0x303002
def multipathUnc : Nat := 0x303003
def ionoModelUnc : Nat := 0x303004
def codeCarrierTolerance : Nat := 0x303005
def constellationTolerance : Nat := 0x303006
def cnoSpreadMin : Nat := 0x303007
def keeperCheckMargin : Nat := 0x303008
def causeClearCount : Nat := 0x303009
def positionTolerance : Nat := 0x30300A
def resurveyDelay : Nat := 0x30300B

/-! ### Table 8-11 — Antenna solution objects, index 0x3040 + a (R287) -/

def solHighest (a : Nat) : Nat := 0x304000 + 256 * a
def solutionStatus (a : Nat) : Nat := 0x304001 + 256 * a
def solutionOffset (a : Nat) : Nat := 0x304002 + 256 * a
def solutionEpochTime (a : Nat) : Nat := 0x304003 + 256 * a
def solutionDeclared (a : Nat) : Nat := 0x304004 + 256 * a
def solutionMeasSys (a : Nat) : Nat := 0x304005 + 256 * a
def solutionSigma (a : Nat) : Nat := 0x304006 + 256 * a
def svUsed (a : Nat) : Nat := 0x304007 + 256 * a
def svUsedDual (a : Nat) : Nat := 0x304008 + 256 * a
def gnssCauseLive (a : Nat) : Nat := 0x304009 + 256 * a
def gnssCauseSticky (a : Nat) : Nat := 0x30400A + 256 * a
def gnssCauseIrqMask (a : Nat) : Nat := 0x30400B + 256 * a
def keeperRejects (a : Nat) : Nat := 0x30400C + 256 * a
def surveyState (a : Nat) : Nat := 0x30400D + 256 * a
def antennaPosX (a : Nat) : Nat := 0x30400E + 256 * a
def antennaPosY (a : Nat) : Nat := 0x30400F + 256 * a
def antennaPosZ (a : Nat) : Nat := 0x304010 + 256 * a
def positionUnc (a : Nat) : Nat := 0x304011 + 256 * a
def surveyDuration (a : Nat) : Nat := 0x304012 + 256 * a
def surveyStart (a : Nat) : Nat := 0x304013 + 256 * a
def surveyElapsed (a : Nat) : Nat := 0x304014 + 256 * a
def positionDeviation (a : Nat) : Nat := 0x304015 + 256 * a
def solutionAge (a : Nat) : Nat := 0x304016 + 256 * a
def solutionBand (a : Nat) : Nat := 0x304017 + 256 * a

/-! ### Table 8-12 — Channel and copy-ring objects (R287) -/

def chHighest (c : Nat) : Nat := 0x310000 + 256 * c
def chState (c : Nat) : Nat := 0x310001 + 256 * c
def chIf (c : Nat) : Nat := 0x310002 + 256 * c
def chSignal (c : Nat) : Nat := 0x310003 + 256 * c
def chSv (c : Nat) : Nat := 0x310004 + 256 * c
def chCno (c : Nat) : Nat := 0x310005 + 256 * c
def chDoppler (c : Nat) : Nat := 0x310006 + 256 * c
def chNavErrors (c : Nat) : Nat := 0x310007 + 256 * c
def chNavRecords (c : Nat) : Nat := 0x310008 + 256 * c
def chExcluded (c : Nat) : Nat := 0x310009 + 256 * c
def navCopyRun : Nat := 0x31C001
def navCopyBase : Nat := 0x31C002
def navCopyRecords : Nat := 0x31C003
def navCopyWriteIndex : Nat := 0x31C004
def navCopyReadIndex : Nat := 0x31C005
def navCopyDropped : Nat := 0x31C006

/-! ### Table 9-4 — TIO objects, index 0x2800 + n, n = 0 … 31 (R313) -/

def tioHighest (n : Nat) : Nat := 0x280000 + 256 * n
def tioFunction (n : Nat) : Nat := 0x280001 + 256 * n
def tioTimeScale (n : Nat) : Nat := 0x280002 + 256 * n
def tioPeriod (n : Nat) : Nat := 0x280003 + 256 * n
def tioPhase (n : Nat) : Nat := 0x280004 + 256 * n
def tioWidth (n : Nat) : Nat := 0x280005 + 256 * n
def tioPolarity (n : Nat) : Nat := 0x280006 + 256 * n
def tioOutDelay (n : Nat) : Nat := 0x280007 + 256 * n
def tioState (n : Nat) : Nat := 0x280008 + 256 * n
def tioPulses (n : Nat) : Nat := 0x280009 + 256 * n
def tioMerged (n : Nat) : Nat := 0x28000A + 256 * n
def tioTruncated (n : Nat) : Nat := 0x28000B + 256 * n

/-! ### Table 9-5 — Clock output objects (R313) -/

def clkoutHighest (m : Nat) : Nat := 0x282000 + 256 * m
def clkoutEnable (m : Nat) : Nat := 0x282001 + 256 * m
def clkoutSource (m : Nat) : Nat := 0x282002 + 256 * m
def clkoutDivider (m : Nat) : Nat := 0x282003 + 256 * m
def clkoutDelay (m : Nat) : Nat := 0x282004 + 256 * m
def clkoutFormat (m : Nat) : Nat := 0x282005 + 256 * m
def osynHighest (s : Nat) : Nat := 0x282800 + 256 * s
def osynEnable (s : Nat) : Nat := 0x282801 + 256 * s
def osynTimeScale (s : Nat) : Nat := 0x282802 + 256 * s
def osynFreq (s : Nat) : Nat := 0x282803 + 256 * s
def osynAlign (s : Nat) : Nat := 0x282804 + 256 * s
def osynPhase (s : Nat) : Nat := 0x282805 + 256 * s
def osynState (s : Nat) : Nat := 0x282806 + 256 * s
def osynPhaseError (s : Nat) : Nat := 0x282807 + 256 * s

/-! ### Table 9-6 — ToD output objects, index 0x282C + j, j = 0, 1 (R313) -/

def todoutHighest (j : Nat) : Nat := 0x282C00 + 256 * j
def todoutEnable (j : Nat) : Nat := 0x282C01 + 256 * j
def todoutBaud (j : Nat) : Nat := 0x282C02 + 256 * j
def todoutPulsePin (j : Nat) : Nat := 0x282C03 + 256 * j
def todoutLead (j : Nat) : Nat := 0x282C04 + 256 * j
def todoutMessages (j : Nat) : Nat := 0x282C05 + 256 * j
def todoutUnderstated (j : Nat) : Nat := 0x282C06 + 256 * j
def todoutSeqNo (j : Nat) : Nat := 0x282C07 + 256 * j

/-! ### Table 9-7 — Schedule objects (R313) -/

def schedMinLead : Nat := 0x283001
def schedEntriesUsed : Nat := 0x283002
def schedRuns : Nat := 0x283003
def schedLateRuns : Nat := 0x283004
def schedSticky : Nat := 0x283005
def schedStickyIrqMask : Nat := 0x283006
def coreEventDropped : Nat := 0x283007
def schedQueryEntry : Nat := 0x283101
def schedQState : Nat := 0x283102
def schedQNextTime : Nat := 0x283103
def schedQRuns : Nat := 0x283104
def schedQSkipped : Nat := 0x283105
def schedQLastRun : Nat := 0x283106
def schedQOpId : Nat := 0x283107
def schedEntry (e : Nat) : Nat := 0x28E000 + e

/-! ### Table 9-8 — Snapshot objects (R313) -/

def snapHighest : Nat := 0x283800
def snapSeq : Nat := 0x283801
def snapEntry : Nat := 0x283802
def snapTick : Nat := 0x283803
def snapMask : Nat := 0x283804
def snapTs (j : Nat) : Nat := 0x283805 + j

/-! ### Table 9-9 — Barrier objects (R313) -/

def barrierId : Nat := 0x283901
def barrierTime : Nat := 0x283902
def barrierTick : Nat := 0x283903
def barrierConfirmed : Nat := 0x283904

/-! ### Table 10-7 — Lane objects, index 0x3800 + l (R346) -/

def laneHighest (l : Nat) : Nat := 0x380000 + 256 * l
def laneEnable (l : Nat) : Nat := 0x380001 + 256 * l
def lanePcs (l : Nat) : Nat := 0x380002 + 256 * l
def laneFec (l : Nat) : Nat := 0x380003 + 256 * l
def laneAn (l : Nat) : Nat := 0x380004 + 256 * l
def laneState (l : Nat) : Nat := 0x380005 + 256 * l
def laneLinkUp (l : Nat) : Nat := 0x380006 + 256 * l
def laneDrain (l : Nat) : Nat := 0x380007 + 256 * l
def laneRestart (l : Nat) : Nat := 0x380008 + 256 * l
def laneLoop (l : Nat) : Nat := 0x380009 + 256 * l
def lpiEnable (l : Nat) : Nat := 0x38000A + 256 * l
def lpiIdleTime (l : Nat) : Nat := 0x38000B + 256 * l
def lpiWakeTime (l : Nat) : Nat := 0x38000C + 256 * l
def lpiTxState (l : Nat) : Nat := 0x38000D + 256 * l
def lpiRxState (l : Nat) : Nat := 0x38000E + 256 * l
def rxSlip (l : Nat) : Nat := 0x38000F + 256 * l
def laneDeskew (l : Nat) : Nat := 0x380010 + 256 * l
def laneTxFixed (l : Nat) : Nat := 0x380011 + 256 * l
def laneRxFixed (l : Nat) : Nat := 0x380012 + 256 * l
def laneTxLatency (l : Nat) : Nat := 0x380013 + 256 * l
def laneRxLatency (l : Nat) : Nat := 0x380014 + 256 * l
def loopDelayFactory (l : Nat) : Nat := 0x380015 + 256 * l
def loopDelayMeasured (l : Nat) : Nat := 0x380016 + 256 * l
def laneLive (l : Nat) : Nat := 0x380017 + 256 * l
def laneSticky (l : Nat) : Nat := 0x380018 + 256 * l
def laneStickyIrqMask (l : Nat) : Nat := 0x380019 + 256 * l
def linkDowns (l : Nat) : Nat := 0x38001A + 256 * l
def lpiTxEntries (l : Nat) : Nat := 0x38001B + 256 * l
def lpiRxEntries (l : Nat) : Nat := 0x38001C + 256 * l
def laneStampLost (l : Nat) : Nat := 0x38001D + 256 * l

/-! ### Table 10-8 — Equalisation entries, index 0x3900 + l (R346) -/

def eqHighest (l : Nat) : Nat := 0x390000 + 256 * l
def eqEntry (l r : Nat) : Nat := 0x390000 + 256 * l + r

/-! ### Table 10-9 — Global lane objects (R346) -/

def wakeCode : Nat := 0x387001
def wakeDetectEnable : Nat := 0x387002
def wakesDetected : Nat := 0x387003
def wakeSend : Nat := 0x387004
def eqBoardId : Nat := 0x387005
def eqTableRevision : Nat := 0x387006
def loopCheckTolerance : Nat := 0x387007
def rxQuietMax : Nat := 0x387008

/-! ### Table 10-10 — Eye scan objects (R346) -/

def eyeScanLane : Nat := 0x387801
def eyeScanStart : Nat := 0x387802
def eyeScanState : Nat := 0x387803
def eyeDwellBits : Nat := 0x387804
def eyeVStep : Nat := 0x387805
def eyeWidth : Nat := 0x387806
def eyeHeight : Nat := 0x387807
def eyeMap : Nat := 0x387808
def eyeScanTime : Nat := 0x387809

/-! ### Table 10-11 — Pattern objects, index 0x3880 + i, i = l − 16 (R346) -/

def patHighest (i : Nat) : Nat := 0x388000 + 256 * i
def patTxMode (i : Nat) : Nat := 0x388001 + 256 * i
def patRxMode (i : Nat) : Nat := 0x388002 + 256 * i
def patUser (i : Nat) : Nat := 0x388003 + 256 * i
def patInjectMode (i : Nat) : Nat := 0x388004 + 256 * i
def patInjectRate (i : Nat) : Nat := 0x388005 + 256 * i
def patInjectOne (i : Nat) : Nat := 0x388006 + 256 * i
def patLocked (i : Nat) : Nat := 0x388007 + 256 * i
def patBits (i : Nat) : Nat := 0x388008 + 256 * i
def patErrors (i : Nat) : Nat := 0x388009 + 256 * i
def patInjected (i : Nat) : Nat := 0x38800A + 256 * i
def patLockLosses (i : Nat) : Nat := 0x38800B + 256 * i
def patClear (i : Nat) : Nat := 0x38800C + 256 * i

/-! ### Table 11-5 — Port objects, index 0x3400 + p (R379) -/

def portHighest (p : Nat) : Nat := 0x340000 + 256 * p
def portEnable (p : Nat) : Nat := 0x340001 + 256 * p
def portMode (p : Nat) : Nat := 0x340002 + 256 * p
def macAddress (p : Nat) : Nat := 0x340003 + 256 * p
def ipv4Address (p : Nat) : Nat := 0x340004 + 256 * p
def ipv4PrefixLen (p : Nat) : Nat := 0x340005 + 256 * p
def ipv4Gateway (p : Nat) : Nat := 0x340006 + 256 * p
def ipv6Address (p : Nat) : Nat := 0x340007 + 256 * p
def ipv6PrefixLen (p : Nat) : Nat := 0x340008 + 256 * p
def ipv6Gateway (p : Nat) : Nat := 0x340009 + 256 * p
def vlanId (p : Nat) : Nat := 0x34000A + 256 * p
def defaultPriority (p : Nat) : Nat := 0x34000B + 256 * p
def maxFrame (p : Nat) : Nat := 0x34000C + 256 * p
def preemptEnable (p : Nat) : Nat := 0x34000D + 256 * p
def preemptableMask (p : Nat) : Nat := 0x34000E + 256 * p
def preemptVerify (p : Nat) : Nat := 0x34000F + 256 * p
def addFragSize (p : Nat) : Nat := 0x340010 + 256 * p
def preemptState (p : Nat) : Nat := 0x340011 + 256 * p
def pauseMode (p : Nat) : Nat := 0x340012 + 256 * p
def pauseIgnoreMask (p : Nat) : Nat := 0x340013 + 256 * p
def pauseLimit (p : Nat) : Nat := 0x340014 + 256 * p
def pauseBreakTime (p : Nat) : Nat := 0x340015 + 256 * p
def pauseXoff (p : Nat) : Nat := 0x340016 + 256 * p
def pauseXon (p : Nat) : Nat := 0x340017 + 256 * p
def portLive (p : Nat) : Nat := 0x340018 + 256 * p
def portSticky (p : Nat) : Nat := 0x340019 + 256 * p
def portStickyIrqMask (p : Nat) : Nat := 0x34001A + 256 * p
def coreRxEnable (p : Nat) : Nat := 0x34001B + 256 * p
def tsqDepth (p : Nat) : Nat := 0x34001C + 256 * p
def tsqTombstoneOpen (p : Nat) : Nat := 0x34001D + 256 * p
def rxFrames (p : Nat) : Nat := 0x340020 + 256 * p
def rxOctets (p : Nat) : Nat := 0x340021 + 256 * p
def rxFcsErrors (p : Nat) : Nat := 0x340022 + 256 * p
def rxLengthErrors (p : Nat) : Nat := 0x340023 + 256 * p
def rxFiltered (p : Nat) : Nat := 0x340024 + 256 * p
def rxAssemblyErrors (p : Nat) : Nat := 0x340025 + 256 * p
def rxStampInvalid (p : Nat) : Nat := 0x340026 + 256 * p
def txFrames (p : Nat) : Nat := 0x340027 + 256 * p
def txOctets (p : Nat) : Nat := 0x340028 + 256 * p
def txWithheld (p : Nat) : Nat := 0x340029 + 256 * p
def txFragments (p : Nat) : Nat := 0x34002A + 256 * p
def txAbortedFragments (p : Nat) : Nat := 0x34002B + 256 * p
def pauseRxFrames (p : Nat) : Nat := 0x34002C + 256 * p
def pauseTxFrames (p : Nat) : Nat := 0x34002D + 256 * p
def pauseBreaks (p : Nat) : Nat := 0x34002E + 256 * p
def ownPauseBreaks (p : Nat) : Nat := 0x34002F + 256 * p
def launchMissed (p : Nat) : Nat := 0x340030 + 256 * p
def tsqStored (p : Nat) : Nat := 0x340031 + 256 * p
def tsqLost (p : Nat) : Nat := 0x340032 + 256 * p

/-! ### Table 11-6 — Class objects, index 0x3440 + p, p = 0 … 15 (R379) -/

def classHighest (p : Nat) : Nat := 0x344000 + 256 * p
def rxDropClass (p j : Nat) : Nat := 0x344001 + 256 * p + j
def pauseBreaksClass (p j : Nat) : Nat := 0x344009 + 256 * p + j

/-! ### Table 11-7 — Gate objects, index 0x3460 + p, p = 0 … 15 (R379) -/

def gateHighest (p : Nat) : Nat := 0x346000 + 256 * p
def gateEnable (p : Nat) : Nat := 0x346001 + 256 * p
def gateTimeScale (p : Nat) : Nat := 0x346002 + 256 * p
def adminBaseTime (p : Nat) : Nat := 0x346003 + 256 * p
def adminCycleTime (p : Nat) : Nat := 0x346004 + 256 * p
def adminCycleExtension (p : Nat) : Nat := 0x346005 + 256 * p
def adminListLength (p : Nat) : Nat := 0x346006 + 256 * p
def adminGateStates (p : Nat) : Nat := 0x346007 + 256 * p
def configChange (p : Nat) : Nat := 0x346008 + 256 * p
def configPending (p : Nat) : Nat := 0x346009 + 256 * p
def configChangeTime (p : Nat) : Nat := 0x34600A + 256 * p
def operBaseTime (p : Nat) : Nat := 0x34600B + 256 * p
def operCycleTime (p : Nat) : Nat := 0x34600C + 256 * p
def operListLength (p : Nat) : Nat := 0x34600D + 256 * p
def gateStatesNow (p : Nat) : Nat := 0x34600E + 256 * p
def slotsLoaded (p : Nat) : Nat := 0x34600F + 256 * p

/-! ### Table 11-8 — Gate control list (R379) -/

def gclEntry (p e : Nat) : Nat := 0x350000 + 1024 * p + e

/-! ### Table 12-12 — Global PTP objects (R414) -/

def ptpClockIdentity : Nat := 0x400001
def ptpPriority1 : Nat := 0x400002
def ptpPriority2 : Nat := 0x400003
def ptpVariance : Nat := 0x400004
def ptpClockIdentityInUse : Nat := 0x400005
def serviceSticky : Nat := 0x400006
def serviceStickyIrqMask : Nat := 0x400007
def serviceLaunchDelay : Nat := 0x400008
def serviceState : Nat := 0x400009
def authKeyOverlap : Nat := 0x40000A

/-! ### Table 12-13 — Instance objects, index 0x4010 + i, i = 0 … 31 (R414) -/

def instHighest (i : Nat) : Nat := 0x401000 + 256 * i
def instEnable (i : Nat) : Nat := 0x401001 + 256 * i
def instPort (i : Nat) : Nat := 0x401002 + 256 * i
def instProfile (i : Nat) : Nat := 0x401003 + 256 * i
def instDomain (i : Nat) : Nat := 0x401004 + 256 * i
def instTimeScale (i : Nat) : Nat := 0x401005 + 256 * i
def instTransport (i : Nat) : Nat := 0x401006 + 256 * i
def instMulticast (i : Nat) : Nat := 0x401007 + 256 * i
def instUnicast (i : Nat) : Nat := 0x401008 + 256 * i
def instTwoStep (i : Nat) : Nat := 0x401009 + 256 * i
def logSyncInterval (i : Nat) : Nat := 0x40100A + 256 * i
def logAnnounceInterval (i : Nat) : Nat := 0x40100B + 256 * i
def logMinDelayReqInterval (i : Nat) : Nat := 0x40100C + 256 * i
def logPdelayReqInterval (i : Nat) : Nat := 0x40100D + 256 * i
def ucMinLogSync (i : Nat) : Nat := 0x40100E + 256 * i
def ucMinLogAnnounce (i : Nat) : Nat := 0x40100F + 256 * i
def ucMinLogDelayResp (i : Nat) : Nat := 0x401010 + 256 * i
def ucDurationMax (i : Nat) : Nat := 0x401011 + 256 * i
def instSyncRateMax (i : Nat) : Nat := 0x401012 + 256 * i
def instMcDelayRespMax (i : Nat) : Nat := 0x401013 + 256 * i
def authMode (i : Nat) : Nat := 0x401014 + 256 * i
def authSpp (i : Nat) : Nat := 0x401015 + 256 * i
def instClockClass (i : Nat) : Nat := 0x401016 + 256 * i
def instClockAccuracy (i : Nat) : Nat := 0x401017 + 256 * i
def instLinkDelay (i : Nat) : Nat := 0x401018 + 256 * i
def instGrantedClients (i : Nat) : Nat := 0x401019 + 256 * i
def instSyncRate (i : Nat) : Nat := 0x40101A + 256 * i
def instMalformed (i : Nat) : Nat := 0x40101B + 256 * i
def instAuthFailures (i : Nat) : Nat := 0x40101C + 256 * i
def instGrantsDenied (i : Nat) : Nat := 0x40101D + 256 * i
def instPoliced (i : Nat) : Nat := 0x40101E + 256 * i

/-! ### Table 12-14 — Tracking objects, index 0x4040 + r, r = 0 … 3 for REF_10 … REF_13 (R414) -/

def trkHighest (r : Nat) : Nat := 0x404000 + 256 * r
def trkProfile (r : Nat) : Nat := 0x404001 + 256 * r
def trkTransport (r : Nat) : Nat := 0x404002 + 256 * r
def trkUnicast (r : Nat) : Nat := 0x404003 + 256 * r
def trkLogSync (r : Nat) : Nat := 0x404004 + 256 * r
def trkLogDelayReq (r : Nat) : Nat := 0x404005 + 256 * r
def trkAuthSpp (r : Nat) : Nat := 0x404006 + 256 * r
def trkAuthFailures (r : Nat) : Nat := 0x404007 + 256 * r

/-! ### Table 12-15 — Security-parameter objects, index 0x4060 + s, s = 0 … 15 (R414) -/

def sppHighest (s : Nat) : Nat := 0x406000 + 256 * s
def sppEnable (s : Nat) : Nat := 0x406001 + 256 * s
def sppValue (s : Nat) : Nat := 0x406002 + 256 * s
def sppAlgorithm (s : Nat) : Nat := 0x406003 + 256 * s
def sppKeySlot (s : Nat) : Nat := 0x406004 + 256 * s
def sppKeyId (s : Nat) : Nat := 0x406005 + 256 * s
def sppNextKeySlot (s : Nat) : Nat := 0x406006 + 256 * s
def sppNextKeyId (s : Nat) : Nat := 0x406007 + 256 * s
def sppNextStart (s : Nat) : Nat := 0x406008 + 256 * s

/-! ### Table 12-16 — NTP and NTS objects (R414) -/

def ntpEnable : Nat := 0x440001
def ntpPorts : Nat := 0x440002
def ntpRateLimit : Nat := 0x440003
def ntpBurst : Nat := 0x440004
def kodInterval : Nat := 0x440005
def ntpRequests : Nat := 0x440006
def ntpResponses : Nat := 0x440007
def ntpMalformed : Nat := 0x440008
def ntpKodSent : Nat := 0x440009
def ntpRateDrops : Nat := 0x44000A
def ntsEnable : Nat := 0x441001
def ntsKeEnable : Nat := 0x441002
def ntsKePort : Nat := 0x441003
def ntsKeQueueMax : Nat := 0x441004
def ntsKeCertSlot : Nat := 0x441005
def ntsKeCertChain : Nat := 0x441006
def ntsKeCertChain2 : Nat := 0x441007
def cookieMasterSlot : Nat := 0x441008
def cookieKeyPeriod : Nat := 0x441009
def cookieKeyIdNow : Nat := 0x44100A
def ntsExchanges : Nat := 0x44100B
def ntsNakSent : Nat := 0x44100C
def ntsAuthFailures : Nat := 0x44100D
def ntsKeHandshakes : Nat := 0x44100E
def ntsKeBusy : Nat := 0x44100F
def ntsKeFailures : Nat := 0x441010

/-! ### Table 12-17 — Client-table objects (R414) -/

def clientCapacity : Nat := 0x480001
def clientCount : Nat := 0x480002
def clientCountPtp : Nat := 0x480003
def clientCountNtp : Nat := 0x480004
def clientCountNts : Nat := 0x480005
def cacheHits : Nat := 0x480006
def cacheMisses : Nat := 0x480007
def clientIdleTime : Nat := 0x480008
def newClientRate : Nat := 0x480009
def accessDefault : Nat := 0x48000A
def prefixQuotaV4 : Nat := 0x48000B
def prefixQuotaV6 : Nat := 0x48000C
def blockTime : Nat := 0x48000D
def admitReviewLost : Nat := 0x48000E
def tableFullDrops : Nat := 0x48000F
def recordCheckFails : Nat := 0x480010
def evictions : Nat := 0x480011
def serviceOffDrops : Nat := 0x480012
def admissionsRefused : Nat := 0x480013
def signalingRateLimit : Nat := 0x480014
def accessEntries : Nat := 0x481000
def accessEntry (j : Nat) : Nat := 0x481001 + j
def vlogNext : Nat := 0x488001
def vlogEntry (j : Nat) : Nat := 0x488101 + j

/-! ### Table 12-18 — Pipeline objects, index 0x4820 + q, q = 0 … 3 (R414) -/

def pipeHighest (q : Nat) : Nat := 0x482000 + 256 * q
def pipeDrain (q : Nat) : Nat := 0x482001 + 256 * q
def pipeState (q : Nat) : Nat := 0x482002 + 256 * q
def pipeRxPackets (q : Nat) : Nat := 0x482003 + 256 * q
def pipeTxPackets (q : Nat) : Nat := 0x482004 + 256 * q
def launchDrops (q : Nat) : Nat := 0x482005 + 256 * q
def pipeOverload (q : Nat) : Nat := 0x482006 + 256 * q

/-! ### Table 13-7 — Key store, tamper, life-cycle and boot objects (R441) -/

def keyStoreState : Nat := 0x500001
def slotsUsed : Nat := 0x500002
def keyImport : Nat := 0x500003
def keyGenerate : Nat := 0x500004
def keyDestroy : Nat := 0x500005
def keyOpStatus : Nat := 0x500006
def keyUseDenied : Nat := 0x500007
def sealedDrops : Nat := 0x500008
def keySticky : Nat := 0x500009
def keyStickyIrqMask : Nat := 0x50000A
def keyRotate : Nat := 0x50000B
def keyRetireDelay : Nat := 0x50000C
def keyQuerySlot : Nat := 0x500101
def keyType : Nat := 0x500102
def keyOrigin : Nat := 0x500103
def keyUsage : Nat := 0x500104
def keyClass : Nat := 0x500105
def keyGeneration : Nat := 0x500106
def keyCreated : Nat := 0x500107
def keyFingerprint : Nat := 0x500108
def keyUses : Nat := 0x500109
def attestRequest : Nat := 0x500401
def attestStatement : Nat := 0x500402
def identityPublicKey : Nat := 0x500403
def identityCertificate : Nat := 0x500404
def lifeCycleRequest : Nat := 0x501001
def lifeCycleResult : Nat := 0x501002
def lifeCycleOpId : Nat := 0x501003
def tamperEnable : Nat := 0x502001
def tamperPolarity : Nat := 0x502002
def tamperDebounce : Nat := 0x502003
def tamperLive : Nat := 0x502004
def tamperSticky : Nat := 0x502005
def tamperStickyIrqMask : Nat := 0x502006
def zeroiseOnTamper : Nat := 0x502007
def unauthServe : Nat := 0x502008
def tamperUnseal : Nat := 0x502009
def tamperCount : Nat := 0x50200A
def tamperLogNext : Nat := 0x50200B
def tamperLogEntry (j : Nat) : Nat := 0x502101 + j
def vendorRootRevoked : Nat := 0x503001
def customerSignerHash (j : Nat) : Nat := 0x503002 + j
def debugState : Nat := 0x503006
def jtagIdcode : Nat := 0x503007
def securityFloor (j : Nat) : Nat := 0x503101 + j

/-! ### Table 14-10 — Pair objects (R471) -/

def pairEnable : Nat := 0x5C0001
def pairState : Nat := 0x5C0002
def pairPriority : Nat := 0x5C0003
def failoverPermit : Nat := 0x5C0004
def soloStart : Nat := 0x5C0005
def pairJoinWait : Nat := 0x5C0006
def aliveLossTime : Nat := 0x5C0007
def linkLossTime : Nat := 0x5C0008
def digestDeadline : Nat := 0x5C0009
def pairSticky : Nat := 0x5C000A
def pairStickyIrqMask : Nat := 0x5C000B
def partnerHealthy : Nat := 0x5C000C
def failoverCount : Nat := 0x5C000D
def lastFailoverTime : Nat := 0x5C000E
def divergenceCount : Nat := 0x5C000F
def lastDivergenceCause : Nat := 0x5C0010
def lastDivergenceEpoch : Nat := 0x5C0011
def activeSince : Nat := 0x5C0012
def linkState : Nat := 0x5C0101
def lanesInUse : Nat := 0x5C0102
def linkLatency : Nat := 0x5C0103
def logRate : Nat := 0x5C0104
def retransmits : Nat := 0x5C0105
def linkCrcErrors : Nat := 0x5C0106
def retransmitBufferUse : Nat := 0x5C0107
def epochNow : Nat := 0x5C0201
def digestEpoch : Nat := 0x5C0202
def digestLast : Nat := 0x5C0203
def digestRun : Nat := 0x5C0204
def logHorizonLag : Nat := 0x5C0205
def pairclkOffset : Nat := 0x5C0301
def alignTrim : Nat := 0x5C0302
def pairclkAsymUnc : Nat := 0x5C0303
def pairAlignState : Nat := 0x5C0304
def pcdSysTerm : Nat := 0x5C0305
def tioShared : Nat := 0x5C0401
def clkoutShared : Nat := 0x5C0402
def todoutShared : Nat := 0x5C0403
def holdDepth : Nat := 0x5C0404
def holdDropped : Nat := 0x5C0405
def framesReleased : Nat := 0x5C0406
def appOverruns : Nat := 0x5C0501
def appLag : Nat := 0x5C0502
def resyncStep : Nat := 0x5C0601
def resyncOpId : Nat := 0x5C0602
def lastResyncDuration : Nat := 0x5C0603
def resyncMatchEpochs : Nat := 0x5C0604
def resyncCopyRate : Nat := 0x5C0605
def roleExchangeAt : Nat := 0x5C0701
def roleExchangeResult : Nat := 0x5C0702

/-! ### Table 15-6 — Collector objects (R497) -/

def girthLevel : Nat := 0x540001
def aliveState : Nat := 0x540002
def quietPeriod : Nat := 0x540003
def countThreshold : Nat := 0x540004
def countWindow : Nat := 0x540005
def faultAck : Nat := 0x540006
def faultRecordClear : Nat := 0x540007
def sourcesActive : Nat := 0x540008
def collectorRestarts : Nat := 0x540009
def faultLogNext : Nat := 0x54000A
def collectorSticky : Nat := 0x54000B
def collectorStickyIrqMask : Nat := 0x54000C
def faultLive : Nat := 0x540101
def faultActive : Nat := 0x540102
def faultUnacked : Nat := 0x540103
def faultSticky : Nat := 0x540104
def faultIrqMask : Nat := 0x540105
def sourceConfig (s : Nat) : Nat := 0x541000 + s
def faultLogEntry (e : Nat) : Nat := 0x544000 + e
def coreWatchdogTime (j : Nat) : Nat := 0x545001 + j

/-! ### Table 15-7 — Record query objects, index 0x5420 (R497) -/

def faultQuerySource : Nat := 0x542001
def fqState : Nat := 0x542002
def fqLevel : Nat := 0x542003
def fqClass : Nat := 0x542004
def fqCount : Nat := 0x542005
def fqConseqCount : Nat := 0x542006
def fqFirstTime : Nat := 0x542007
def fqLastTime : Nat := 0x542008
def fqFirstDetail : Nat := 0x542009
def fqLastDetail : Nat := 0x54200A
def fqRecoveries : Nat := 0x54200B
def fqLastRecovery : Nat := 0x54200C
def fqFlags : Nat := 0x54200D

/-! ### Table 15-8 — Reaction objects, index 0x5480 + r, r = 0 … 31 (R497) -/

def reactHighest (r : Nat) : Nat := 0x548000 + 256 * r
def reactArm (r : Nat) : Nat := 0x548001 + 256 * r
def reactSource (r : Nat) : Nat := 0x548002 + 256 * r
def reactLevel (r : Nat) : Nat := 0x548003 + 256 * r
def reactAction (r : Nat) : Nat := 0x548004 + 256 * r
def reactTarget (r : Nat) : Nat := 0x548005 + 256 * r
def reactSettle (r : Nat) : Nat := 0x548006 + 256 * r
def reactConsequences (r : Nat) : Nat := 0x548007 + 256 * r
def reactTaken (r : Nat) : Nat := 0x548008 + 256 * r
def reactLastTime (r : Nat) : Nat := 0x548009 + 256 * r
def reactDeclined (r : Nat) : Nat := 0x54800A + 256 * r
def reactOpId (r : Nat) : Nat := 0x54800B + 256 * r

/-! ### Table 15-9 — Global counter objects (R497) -/

def pmcUserEnable : Nat := 0x580001
def pmcObserverRead : Nat := 0x580002
def pmcOverflowLo : Nat := 0x580101
def pmcOverflowHi : Nat := 0x580102
def pmcOverflowIrqMaskLo : Nat := 0x580103
def pmcOverflowIrqMaskHi : Nat := 0x580104
def pmcClearLo : Nat := 0x580105
def pmcClearHi : Nat := 0x580106
def pmcSnapOverflowLo : Nat := 0x580181
def pmcSnapOverflowHi : Nat := 0x580182

/-! ### Table 15-10 — Counter objects, index 0x5810 + k, k = 0 … 63 (R497) -/

def pmcHighest (k : Nat) : Nat := 0x581000 + 256 * k
def pmcEnable (k : Nat) : Nat := 0x581001 + 256 * k
def pmcEvent (k : Nat) : Nat := 0x581002 + 256 * k
def pmcMode (k : Nat) : Nat := 0x581003 + 256 * k
def pmcThreshold (k : Nat) : Nat := 0x581004 + 256 * k
def pmcValue (k : Nat) : Nat := 0x581005 + 256 * k
def pmcSnapValue (k : Nat) : Nat := 0x581085 + 256 * k

/-! ### Table 16-11 — Power objects (R523) -/

def powerState : Nat := 0x110001
def powerRequest : Nat := 0x110002
def powerRequestResult : Nat := 0x110003
def powerQueued : Nat := 0x110004
def powerSuperseded : Nat := 0x110005
def powerLastRefuser : Nat := 0x110006
def powerDelayMax : Nat := 0x110007
def powerSince : Nat := 0x110008
def powerSticky : Nat := 0x110009
def powerStickyIrqMask : Nat := 0x11000A
def wakeTarget : Nat := 0x11000B
def wakeAt : Nat := 0x11000C
def wakeSources : Nat := 0x11000D
def lastWakeCause : Nat := 0x11000E
def wakeSupplyWait : Nat := 0x11000F
def keepCount : Nat := 0x110010
def trimCandidates : Nat := 0x110011
def trimGated : Nat := 0x110012
def retainMask : Nat := 0x110101
def dramKeepSelfRefresh : Nat := 0x110102
def retentionLost : Nat := 0x110103
def rebuildSource : Nat := 0x110104
def lastKeepDuration : Nat := 0x110105
def biasEntry (j : Nat) : Nat := 0x111000 + j

/-! ### Table 16-12 — Core, Harness and memory objects (R523) -/

def coreState (j : Nat) : Nat := 0x600001 + j
def coreRestarts (j : Nat) : Nat := 0x600005 + j
def appDramSize : Nat := 0x600101
def appOdLevel : Nat := 0x600102
def harnessPriority (t m : Nat) : Nat := 0x601000 + 256 * t + m
def harnessStarveLimit : Nat := 0x602001
def harnessBurstAborts : Nat := 0x602002
def harnessRetired : Nat := 0x602003
def harnessDenied : Nat := 0x602004
def harnessHolds : Nat := 0x602005
def dramChannels : Nat := 0x603001
def dramSizeTotal : Nat := 0x603002
def dramSpeedBin : Nat := 0x603003
def dramScrubInterval : Nat := 0x603004
def dramEccCorrected : Nat := 0x603005
def dramEccUncorrected : Nat := 0x603006
def sramEccCorrected : Nat := 0x603007
def sramEccUncorrected : Nat := 0x603008

/-! ### Table 17-10 — Diagnostics objects (all Local) (R538) -/

def resetCount : Nat := 0x640001
def lastResetCause : Nat := 0x640002
def powerOnHours : Nat := 0x640003
def bootDuration : Nat := 0x640004
def phaseDurations : Nat := 0x640005
def configEntries : Nat := 0x640006
def configFailEntry : Nat := 0x640007
def ageingShift : Nat := 0x640101
def tjMaxSeen : Nat := 0x640102
def hoursAbove85 : Nat := 0x640103
def laneCheckAge : Nat := 0x640104
def flashEraseMax : Nat := 0x640105
def engineReset : Nat := 0x640201

/-! ### Table 17-11 — Update objects (R539) -/

def updateBegin : Nat := 0x1F1001
def updateChunk : Nat := 0x1F1002
def updateReceived : Nat := 0x1F1003
def updateApply : Nat := 0x1F1004
def updateOpId : Nat := 0x1F1005
def updateState : Nat := 0x1F1006
def updateError : Nat := 0x1F1007
def slotAValid : Nat := 0x1F1101
def slotBValid : Nat := 0x1F1102
def slotASeq : Nat := 0x1F1103
def slotBSeq : Nat := 0x1F1104

end Sys2Proof.Machine.Od

/-! ## Bits of the bit maps -/

namespace Sys2Proof.Machine.Bit

def modeSticky_ConfigDefaults : Nat := 10
def modeSticky_HoldoverExceeded : Nat := 9
def modeSticky_TestEntered : Nat := 8
def modeSticky_WarmupTimeout : Nat := 7
def modeSticky_CalibrationPartial : Nat := 6
def modeSticky_BootSlotFallback : Nat := 5
def modeSticky_ResyncRestarted : Nat := 4
def modeSticky_FailoverTaken : Nat := 3
def modeSticky_EnteredSafe : Nat := 2
def modeSticky_EnteredFreerun : Nat := 1
def modeSticky_EnteredHoldover : Nat := 0

def modeArm_SafeHold : Nat := 2
def modeArm_TestFromService : Nat := 1
def modeArm_AcquireServe : Nat := 0

def hspiStatus_OVERRUN : Nat := 6
def hspiStatus_KEEP_LIMITED : Nat := 5
def hspiStatus_LOADER : Nat := 4
def hspiStatus_CRC_ERROR : Nat := 3
def hspiStatus_REQ_BUSY : Nat := 2
def hspiStatus_NOTIFY_READY : Nat := 1
def hspiStatus_RSP_READY : Nat := 0

def utcSticky_LeapRefused : Nat := 5
def utcSticky_UtcOffsetAdopted : Nat := 4
def utcSticky_UtcOffsetConflict : Nat := 3
def utcSticky_LeapCancelled : Nat := 2
def utcSticky_LeapApplied : Nat := 1
def utcSticky_LeapAnnounced : Nat := 0

def tsSticky_DerivedReanchored : Nat := 8
def tsSticky_ConvTooOld : Nat := 7
def tsSticky_RefHoldEntered : Nat := 6
def tsSticky_SlewDone : Nat := 5
def tsSticky_StepDeclined : Nat := 4
def tsSticky_Stepped : Nat := 3
def tsSticky_InitialAligned : Nat := 2
def tsSticky_HostTimeSet : Nat := 1
def tsSticky_Started : Nat := 0

def servoSticky_SlopeLimited : Nat := 4
def servoSticky_UpdateMissed : Nat := 3
def servoSticky_FreqLimitHit : Nat := 2
def servoSticky_LockLost : Nat := 1
def servoSticky_LockAchieved : Nat := 0

def refLive_Suspect : Nat := 15
def refLive_Disagreement : Nat := 14
def refLive_ExternalCause : Nat := 13
def refLive_TodInconsistent : Nat := 12
def refLive_TodInvalid : Nat := 11
def refLive_QlDnu : Nat := 10
def refLive_QlBelowMin : Nat := 9
def refLive_WanderFull : Nat := 8
def refLive_WanderHalf : Nat := 7
def refLive_PhaseFull : Nat := 6
def refLive_PhaseHalf : Nat := 5
def refLive_FreqFull : Nat := 4
def refLive_FreqHalf : Nat := 3
def refLive_SignalLoss : Nat := 2
def refLive_HoldOffRunning : Nat := 1
def refLive_Eligible : Nat := 0

def refSticky_ExternalCause : Nat := 20
def refSticky_ArbiterDisqualified : Nat := 19
def refSticky_Disagreement : Nat := 18
def refSticky_DriftMove : Nat := 17
def refSticky_TodInconsistent : Nat := 16
def refSticky_TodQlUnknown : Nat := 15
def refSticky_TodCrcError : Nat := 14
def refSticky_QlChanged : Nat := 13
def refSticky_HoldOffRide : Nat := 12
def refSticky_SignalReturned : Nat := 11
def refSticky_Lost : Nat := 10
def refSticky_Disqualified : Nat := 9
def refSticky_SuspectCleared : Nat := 8
def refSticky_Suspect : Nat := 7
def refSticky_Deselected : Nat := 6
def refSticky_Selected : Nat := 5
def refSticky_Qualified : Nat := 4
def refSticky_MonitorEntered : Nat := 3
def refSticky_WanderLimit : Nat := 2
def refSticky_PhaseLimit : Nat := 1
def refSticky_FreqLimit : Nat := 0

def selectSticky_ForceRefused : Nat := 6
def selectSticky_NoCandidate : Nat := 5
def selectSticky_ArbiterNone : Nat := 4
def selectSticky_DisagreementRaised : Nat := 3
def selectSticky_StitchPullDone : Nat := 2
def selectSticky_Stitched : Nat := 1
def selectSticky_Switched : Nat := 0

def loSticky_LoSourceChanged : Nat := 7
def loSticky_LoFail : Nat := 6
def loSticky_TsynLockLost : Nat := 5
def loSticky_AtomUnlocked : Nat := 4
def loSticky_AtomLocked : Nat := 3
def loSticky_OvenUnready : Nat := 2
def loSticky_OvenReady : Nat := 1
def loSticky_LoReady : Nat := 0

def keeperSticky_AnchorShort : Nat := 6
def keeperSticky_ModelStored : Nat := 5
def keeperSticky_TempStale : Nat := 4
def keeperSticky_LearningPaused : Nat := 3
def keeperSticky_ModelDiscarded : Nat := 2
def keeperSticky_ModelRestored : Nat := 1
def keeperSticky_ModelTrained : Nat := 0

def holdoverSticky_TempStaleInHoldover : Nat := 4
def holdoverSticky_LoFaultInHoldover : Nat := 3
def holdoverSticky_BoundViolated : Nat := 2
def holdoverSticky_HoldoverLeft : Nat := 1
def holdoverSticky_HoldoverWarning : Nat := 0

def flags_NoFrequency : Nat := 9
def flags_Echo : Nat := 8
def flags_ConvInvalid : Nat := 7
def flags_SkewReused : Nat := 6
def flags_Unlocked : Nat := 5
def flags_LossBefore : Nat := 4
def flags_OrderReversed : Nat := 3
def flags_BelowResolution : Nat := 2
def flags_BySpare : Nat := 1
def flags_Falling : Nat := 0

def awlSticky_HandbackUnchecked : Nat := 10
def awlSticky_BurnishDone : Nat := 9
def awlSticky_SkewReused : Nat := 8
def awlSticky_HandoverFault : Nat := 7
def awlSticky_BinFault : Nat := 6
def awlSticky_DllUnlock : Nat := 5
def awlSticky_BelowResolution : Nat := 4
def awlSticky_OrderReversed : Nat := 3
def awlSticky_DmaDropped : Nat := 2
def awlSticky_OverrunLoss : Nat := 1
def awlSticky_DeadTimeLoss : Nat := 0

def boundSticky_ClassChanged : Nat := 6
def boundSticky_UpstreamTlvRejected : Nat := 5
def boundSticky_ChainTruncated : Nat := 4
def boundSticky_NtpUnsync : Nat := 3
def boundSticky_DeclaredFallback : Nat := 2
def boundSticky_StaleWidened : Nat := 1
def boundSticky_Saturated : Nat := 0

def gnssSticky_PrimaryFallback : Nat := 7
def gnssSticky_SurveyDone : Nat := 6
def gnssSticky_ResurveyStarted : Nat := 5
def gnssSticky_GcdHandoverFault : Nat := 4
def gnssSticky_NavRingFull : Nat := 3
def gnssSticky_SolutionLate : Nat := 2
def gnssSticky_IfLevelFault : Nat := 1
def gnssSticky_GifClkFault : Nat := 0

def schedSticky_EntryDone : Nat := 7
def schedSticky_TodoutUnderstated : Nat := 6
def schedSticky_FrameLate : Nat := 5
def schedSticky_Truncated : Nat := 4
def schedSticky_CoreEventDropped : Nat := 3
def schedSticky_Merged : Nat := 2
def schedSticky_Skipped : Nat := 1
def schedSticky_LateRun : Nat := 0

def laneSticky_WakeDetected : Nat := 8
def laneSticky_RxQuietTimeout : Nat := 7
def laneSticky_StampLost : Nat := 6
def laneSticky_EqPending : Nat := 5
def laneSticky_RxSlipChanged : Nat := 4
def laneSticky_LoopCheckFail : Nat := 3
def laneSticky_EqMissing : Nat := 2
def laneSticky_LinkDown : Nat := 1
def laneSticky_LinkUp : Nat := 0

def portSticky_FcsError : Nat := 8
def portSticky_PreemptVerifyFailed : Nat := 7
def portSticky_StampInvalid : Nat := 6
def portSticky_AssemblyError : Nat := 5
def portSticky_LaunchMissed : Nat := 4
def portSticky_TsqOverflow : Nat := 3
def portSticky_OwnPauseBreak : Nat := 2
def portSticky_PauseBreak : Nat := 1
def portSticky_RxOverflow : Nat := 0

def serviceSticky_RecordCheckFail : Nat := 12
def serviceSticky_LaunchDrop : Nat := 11
def serviceSticky_ForeignAnnounce : Nat := 10
def serviceSticky_AdmitReviewLost : Nat := 9
def serviceSticky_TableFull : Nat := 8
def serviceSticky_NtsKeBusy : Nat := 7
def serviceSticky_NtsNakSent : Nat := 6
def serviceSticky_KodSent : Nat := 5
def serviceSticky_GrantDenied : Nat := 4
def serviceSticky_Malformed : Nat := 3
def serviceSticky_AuthFailure : Nat := 2
def serviceSticky_ServiceStopped : Nat := 1
def serviceSticky_ServiceStarted : Nat := 0

def keySticky_LifeCycleChanged : Nat := 3
def keySticky_MirrorLost : Nat := 2
def keySticky_KeyOpAborted : Nat := 1
def keySticky_KeyUseDenied : Nat := 0

def tamperSticky_Zeroised : Nat := 10
def tamperSticky_TamperAtStartup : Nat := 9
def tamperSticky_TamperInKeep : Nat := 8

def pairSticky_CrossCheck : Nat := 12
def pairSticky_ExchangeDone : Nat := 11
def pairSticky_DualActive : Nat := 10
def pairSticky_ImageMismatch : Nat := 9
def pairSticky_AppOverrun : Nat := 8
def pairSticky_HoldDropped : Nat := 7
def pairSticky_AlignOutOfRange : Nat := 6
def pairSticky_LinkDegraded : Nat := 5
def pairSticky_Divergence : Nat := 4
def pairSticky_FailoverDeclined : Nat := 3
def pairSticky_Failover : Nat := 2
def pairSticky_PartnerLost : Nat := 1
def pairSticky_Paired : Nat := 0

def collectorSticky_Recovered : Nat := 4
def collectorSticky_ReactionDeclined : Nat := 3
def collectorSticky_ReactionTaken : Nat := 2
def collectorSticky_CollectorRestarted : Nat := 1
def collectorSticky_AliveStopped : Nat := 0

def sourceConfig_CountRule : Nat := 5
def sourceConfig_Enable : Nat := 4

def powerSticky_RetentionLost : Nat := 4
def powerSticky_WakeFailed : Nat := 3
def powerSticky_Superseded : Nat := 2
def powerSticky_RequestRefused : Nat := 1
def powerSticky_StateChanged : Nat := 0

end Sys2Proof.Machine.Bit
end

