-- ==== Sys2Proof/Machine/Dictionary.lean ====
section
/-! DEFINITION. The object dictionary (R46 to R52): one row per object, or per run of like objects, of the object
tables, with its type, its access levels, its default, its range and its reserved bits. -/

namespace Sys2Proof.Machine

/-- The object types of Table 2-1. -/
inductive ObjType where
  | bool | u8 | u16 | u32 | u64 | i32 | i64 | enum8 | bits16 | bits32 | ts128
  | octet (n : Nat)
  | string (n : Nat)
  deriving DecidableEq, Repr

/-- The values a write may carry (R48 check 6). -/
inductive Rng where
  /-- every value of the type -/
  | any
  /-- lo … hi -/
  | span (lo hi : Int)
  /-- the values listed -/
  | list (vs : List Int)
  /-- v, or lo … hi -/
  | orElse (v lo hi : Int)
  /-- a power of two in lo … hi -/
  | pow2 (lo hi : Int)
  /-- a multiple of n -/
  | aligned (n : Int)
  deriving DecidableEq, Repr

/-- A row of the dictionary: `count` consecutive indices from `base`, `subs` consecutive subindices from `sub`. The
default of unit u of the row is `dflt + u * dinc`. `rd` and `wr` are the levels of R10, none where the object is
write-only or read-only. `resv` has a 1 at every reserved bit. -/
structure ObjRow where
  base : Nat
  count : Nat
  sub : Nat
  subs : Nat
  typ : ObjType
  rd : Option Nat
  wr : Option Nat
  dflt : Int
  dinc : Int
  rng : Rng
  resv : Nat
  deriving DecidableEq, Repr

/-- Whether the row holds the object of key k. -/
def ObjRow.holds (r : ObjRow) (k : Nat) : Bool :=
  let i := k / 256
  let s := k % 256
  (r.base ≤ i) && (i < r.base + r.count) && (r.sub ≤ s) && (s < r.sub + r.subs)

namespace Dict

def area10_0 : List ObjRow := [
  ⟨0x1010, 1, 0x01, 1, .enum8, (some 0), none, 0, 0, .any, 0⟩,
  ⟨0x1010, 1, 0x02, 1, .ts128, (some 0), none, 0, 0, .any, 0⟩,
  ⟨0x1010, 1, 0x03, 1, .enum8, (some 0), none, 0, 0, .any, 0⟩,
  ⟨0x1010, 1, 0x04, 1, .bits16, (some 0), (some 1), 0, 0, .any, 0xf800⟩,
  ⟨0x1010, 1, 0x05, 1, .bits16, (some 0), (some 2), 0, 0, .any, 0xf800⟩,
  ⟨0x1010, 1, 0x06, 1, .enum8, (some 0), none, 0, 0, .any, 0⟩,
  ⟨0x1011, 1, 0x01, 1, .enum8, none, (some 2), 0, 0, .span 1 4, 0⟩,
  ⟨0x1011, 1, 0x02, 1, .enum8, (some 0), none, 0, 0, .any, 0⟩,
  ⟨0x1012, 1, 0x01, 1, .bits16, (some 0), (some 2), 0, 0, .any, 0xfff8⟩,
  ⟨0x1013, 1, 0x01, 1, .u32, (some 0), (some 2), 900, 0, .span 10 86400, 0⟩,
  ⟨0x1013, 1, 0x02, 1, .u32, (some 0), (some 2), 1800, 0, .span 10 86400, 0⟩,
  ⟨0x1000, 1, 0x01, 1, .u32, (some 0), none, 29768, 0, .any, 0⟩,
  ⟨0x1008, 1, 0x01, 1, (.string 16), (some 0), none, 0x0147574E37343438, 0, .any, 0⟩,
  ⟨0x1009, 1, 0x01, 1, (.string 8), (some 0), none, 1, 0, .any, 0⟩,
  ⟨0x100A, 1, 0x01, 1, (.string 24), (some 0), none, 1, 0, .any, 0⟩,
  ⟨0x100A, 1, 0x02, 1, (.string 24), (some 0), none, 1, 0, .any, 0⟩,
  ⟨0x100A, 1, 0x03, 1, (.string 24), (some 0), none, 1, 0, .any, 0⟩,
  ⟨0x100A, 1, 0x04, 1, (.string 24), (some 0), none, 1, 0, .any, 0⟩,
  ⟨0x100B, 1, 0x01, 1, .enum8, (some 0), none, 0, 0, .any, 0⟩,
  ⟨0x1018, 1, 0x00, 1, .u8, (some 0), none, 4, 0, .any, 0⟩,
  ⟨0x1018, 1, 0x01, 1, .u32, (some 0), none, 0, 0, .any, 0⟩,
  ⟨0x1018, 1, 0x02, 1, .u32, (some 0), none, 29768, 0, .any, 0⟩,
  ⟨0x1018, 1, 0x03, 1, .u32, (some 0), none, 0, 0, .any, 0⟩,
  ⟨0x1018, 1, 0x04, 1, .u32, (some 0), none, 0, 0, .any, 0⟩]

def area10_1 : List ObjRow := [
  ⟨0x1020, 1, 0x01, 1, .enum8, (some 0), none, 0, 0, .any, 0⟩,
  ⟨0x1021, 1, 0x01, 1, .enum8, (some 0), none, 0, 0, .any, 0⟩,
  ⟨0x1021, 1, 0x02, 1, .u32, (some 0), none, 0, 0, .any, 0⟩,
  ⟨0x1022, 1, 0x01, 1, .enum8, (some 0), none, 0, 0, .any, 0⟩]

def area11_0 : List ObjRow := [
  ⟨0x1100, 1, 0x01, 1, .enum8, (some 0), none, 0, 0, .any, 0⟩,
  ⟨0x1100, 1, 0x02, 1, .enum8, none, (some 2), 0, 0, .span 0 4, 0⟩,
  ⟨0x1100, 1, 0x03, 1, .enum8, (some 0), none, 0, 0, .any, 0⟩,
  ⟨0x1100, 1, 0x04, 1, .enum8, (some 0), none, 255, 0, .any, 0⟩,
  ⟨0x1100, 1, 0x05, 1, .u32, (some 0), none, 0, 0, .any, 0⟩,
  ⟨0x1100, 1, 0x06, 1, .u8, (some 0), none, 0, 0, .any, 0⟩,
  ⟨0x1100, 1, 0x07, 1, .u32, (some 0), (some 2), 2000, 0, .span 100 60000, 0⟩,
  ⟨0x1100, 1, 0x08, 1, .ts128, (some 0), none, 0, 0, .any, 0⟩,
  ⟨0x1100, 1, 0x09, 1, .bits16, (some 0), (some 1), 0, 0, .any, 0xffe0⟩,
  ⟨0x1100, 1, 0x0A, 1, .bits16, (some 0), (some 2), 0, 0, .any, 0xffe0⟩,
  ⟨0x1100, 1, 0x0B, 1, .enum8, (some 0), (some 2), 0, 0, .span 0 2, 0⟩,
  ⟨0x1100, 1, 0x0C, 1, .ts128, (some 0), (some 2), 0, 0, .any, 0⟩,
  ⟨0x1100, 1, 0x0D, 1, .bits16, (some 0), (some 2), 3, 0, .any, 0xfffc⟩,
  ⟨0x1100, 1, 0x0E, 1, .enum8, (some 0), none, 0, 0, .any, 0⟩,
  ⟨0x1100, 1, 0x0F, 1, .u32, (some 0), (some 2), 100, 0, .span 1 10000, 0⟩,
  ⟨0x1100, 1, 0x10, 1, .u32, (some 0), none, 0, 0, .any, 0⟩,
  ⟨0x1100, 1, 0x11, 1, .bits16, (some 0), (some 2), 31, 0, .any, 0xffe0⟩,
  ⟨0x1100, 1, 0x12, 1, .bits16, (some 0), none, 0, 0, .any, 0⟩,
  ⟨0x1101, 1, 0x01, 1, .bits32, (some 0), (some 2), 4294951167, 0, .any, 0⟩,
  ⟨0x1101, 1, 0x02, 1, .bool, (some 0), (some 2), 1, 0, .span 0 1, 0⟩,
  ⟨0x1101, 1, 0x03, 1, .bits32, (some 0), none, 0, 0, .any, 0⟩,
  ⟨0x1101, 1, 0x04, 1, (.octet 32), (some 0), none, 0, 0, .any, 0⟩,
  ⟨0x1101, 1, 0x05, 1, .u32, (some 0), none, 0, 0, .any, 0⟩,
  ⟨0x1110, 1, 0x00, 2, (.octet 8), (some 0), (some 4), 0x0F004B1EF8000000, 0, .any, 0⟩,
  ⟨0x1110, 1, 0x02, 1, (.octet 8), (some 0), (some 4), 0xE2004B1EF8000000, 0, .any, 0⟩,
  ⟨0x1110, 1, 0x03, 1, (.octet 8), (some 0), (some 4), 0x0000320000000000, 0, .any, 0⟩]

def area12_0 : List ObjRow := [
  ⟨0x1200, 1, 0x01, 1, .u16, (some 0), (some 3), 52310, 0, .span 1 65535, 0⟩,
  ⟨0x1200, 1, 0x02, 1, .bits32, (some 0), (some 3), 196608, 0, .any, 0xfffc0000⟩,
  ⟨0x1200, 1, 0x03, 1, .u32, (some 0), (some 2), 300, 0, .span 10 86400, 0⟩,
  ⟨0x1200, 1, 0x04, 1, .u8, (some 0), none, 32, 0, .any, 0⟩,
  ⟨0x1200, 1, 0x05, 1, .u16, (some 0), (some 3), 64, 0, .span 1 1024, 0⟩,
  ⟨0x1201, 1, 0x01, 1, (.octet 32), none, (some 3), 0, 0, .any, 0⟩,
  ⟨0x1201, 1, 0x02, 1, (.octet 32), none, (some 3), 0, 0, .any, 0⟩,
  ⟨0x1201, 1, 0x03, 1, (.octet 32), none, (some 3), 0, 0, .any, 0⟩,
  ⟨0x1201, 1, 0x04, 1, (.octet 32), none, (some 3), 0, 0, .any, 0⟩,
  ⟨0x1201, 1, 0x05, 1, (.octet 32), none, (some 4), 0, 0, .any, 0⟩,
  ⟨0x1202, 1, 0x01, 1, .u8, (some 0), none, 0, 0, .any, 0⟩,
  ⟨0x1202, 1, 0x02, 1, .u32, (some 0), none, 0, 0, .any, 0⟩,
  ⟨0x1202, 1, 0x03, 1, .u32, (some 0), none, 0, 0, .any, 0⟩,
  ⟨0x1202, 1, 0x04, 1, .u32, (some 0), none, 0, 0, .any, 0⟩,
  ⟨0x1202, 1, 0x05, 1, .u32, (some 0), none, 0, 0, .any, 0⟩,
  ⟨0x1202, 1, 0x06, 1, .u32, (some 0), none, 0, 0, .any, 0⟩,
  ⟨0x1210, 1, 0x01, 1, .enum8, (some 0), (some 3), 3, 0, .span 0 3, 0⟩,
  ⟨0x1210, 1, 0x02, 1, .bool, (some 0), (some 2), 1, 0, .span 0 1, 0⟩,
  ⟨0x1210, 1, 0x03, 1, .u32, (some 0), none, 0, 0, .any, 0⟩]

def area1F_0 : List ObjRow := [
  ⟨0x1F00, 1, 0x01, 1, .enum8, (some 0), none, 0, 0, .any, 0⟩,
  ⟨0x1F00, 1, 0x02, 1, .u32, (some 0), none, 0, 0, .any, 0⟩,
  ⟨0x1F00, 1, 0x03, 1, .u16, (some 0), none, 0, 0, .any, 0⟩,
  ⟨0x1F00, 1, 0x04, 1, .u32, (some 0), none, 0, 0, .any, 0⟩,
  ⟨0x1F00, 1, 0x05, 1, .ts128, (some 0), none, 0, 0, .any, 0⟩,
  ⟨0x1F00, 1, 0x06, 1, .u32, (some 0), none, 0, 0, .any, 0⟩,
  ⟨0x1F00, 1, 0x07, 1, .u32, (some 0), none, 0, 0, .any, 0⟩,
  ⟨0x1F01, 1, 0x01, 1, .u32, (some 0), (some 2), 10000, 0, .span 1000 10000000, 0⟩,
  ⟨0x1F01, 1, 0x02, 1, .u32, (some 0), (some 2), 86400, 0, .span 1 31536000, 0⟩,
  ⟨0x1F80, 1, 0x01, 1, .u32, (some 0), none, 1, 0, .any, 0⟩,
  ⟨0x1F80, 1, 0x02, 1, .u16, (some 0), none, 0, 0, .any, 0⟩,
  ⟨0x1F80, 1, 0x03, 1, .u32, (some 0), none, 0, 0, .any, 0⟩,
  ⟨0x1F80, 1, 0x04, 1, .u32, (some 0), none, 0, 0, .any, 0⟩,
  ⟨0x1F81, 1, 0x01, 1, .u32, (some 0), (some 0), 0, 0, .any, 0⟩,
  ⟨0x1F81, 1, 0x02, 1, .enum8, (some 0), none, 0, 0, .any, 0⟩,
  ⟨0x1F81, 1, 0x03, 1, .enum8, (some 0), none, 255, 0, .any, 0⟩,
  ⟨0x1F81, 1, 0x04, 1, .u8, (some 0), none, 0, 0, .any, 0⟩,
  ⟨0x1F81, 1, 0x05, 1, .u8, (some 0), none, 0, 0, .any, 0⟩,
  ⟨0x1F81, 1, 0x06, 1, .u16, (some 0), none, 0, 0, .any, 0⟩,
  ⟨0x1F81, 1, 0x07, 1, .ts128, (some 0), none, 0, 0, .any, 0⟩,
  ⟨0x1F81, 1, 0x08, 1, .ts128, (some 0), none, 0, 0, .any, 0⟩,
  ⟨0x1F81, 1, 0x09, 1, .u8, (some 0), none, 0, 0, .any, 0⟩,
  ⟨0x1F81, 1, 0x0A, 1, .u32, (some 0), none, 0, 0, .any, 0⟩,
  ⟨0x1F81, 1, 0x0B, 1, .u32, (some 0), none, 0, 0, .any, 0⟩]

def area1F_1 : List ObjRow := [
  ⟨0x1F81, 1, 0x0C, 1, .bits16, (some 0), none, 0, 0, .any, 0xfffe⟩,
  ⟨0x1F10, 1, 0x01, 1, (.octet 8), none, (some 2), 0, 0, .any, 0⟩,
  ⟨0x1F10, 1, 0x02, 1, (.octet 1024), none, (some 2), 0, 0, .any, 0⟩,
  ⟨0x1F10, 1, 0x03, 1, .u32, (some 0), none, 0, 0, .any, 0⟩,
  ⟨0x1F10, 1, 0x04, 1, (.octet 24), none, (some 2), 0, 0, .any, 0⟩,
  ⟨0x1F10, 1, 0x05, 1, .u32, (some 0), none, 0, 0, .any, 0⟩,
  ⟨0x1F10, 1, 0x06, 1, .enum8, (some 0), none, 0, 0, .any, 0⟩,
  ⟨0x1F10, 1, 0x07, 1, .enum8, (some 0), none, 0, 0, .any, 0⟩,
  ⟨0x1F11, 1, 0x01, 1, .bool, (some 0), none, 0, 0, .any, 0⟩,
  ⟨0x1F11, 1, 0x02, 1, .bool, (some 0), none, 0, 0, .any, 0⟩,
  ⟨0x1F11, 1, 0x03, 1, .u32, (some 0), none, 0, 0, .any, 0⟩,
  ⟨0x1F11, 1, 0x04, 1, .u32, (some 0), none, 0, 0, .any, 0⟩]

def area20_0 : List ObjRow := [
  ⟨0x2000, 1, 0x01, 1, .i32, (some 0), (some 2), 37, 0, .span (-1000) 1000, 0⟩,
  ⟨0x2000, 1, 0x02, 1, .enum8, (some 0), (some 2), 0, 0, .span 0 2, 0⟩,
  ⟨0x2000, 1, 0x03, 1, .ts128, (some 0), (some 2), 0, 0, .any, 0⟩,
  ⟨0x2000, 1, 0x04, 1, .enum8, (some 0), (some 2), 0, 0, .span 0 1, 0⟩,
  ⟨0x2000, 1, 0x05, 1, .u32, (some 0), (some 2), 43200, 0, .span 0 2419200, 0⟩,
  ⟨0x2000, 1, 0x06, 1, .enum8, (some 0), none, 0, 0, .any, 0⟩,
  ⟨0x2000, 1, 0x07, 1, .bits16, (some 0), (some 1), 0, 0, .any, 0xffc0⟩,
  ⟨0x2000, 1, 0x08, 1, .u32, (some 0), none, 0, 0, .any, 0⟩,
  ⟨0x2000, 1, 0x09, 1, .i32, (some 0), none, 0, 0, .any, 0⟩,
  ⟨0x2000, 1, 0x0A, 1, .bits16, (some 0), (some 2), 0, 0, .any, 0xffc0⟩,
  ⟨0x2001, 1, 0x01, 1, .bool, (some 0), (some 2), 0, 0, .span 0 1, 0⟩,
  ⟨0x2001, 1, 0x02, 1, .u32, (some 0), (some 2), 86400, 0, .span 3600 172800, 0⟩,
  ⟨0x2010, 8, 0x00, 1, .u8, (some 0), none, 14, 0, .any, 0⟩,
  ⟨0x2010, 1, 0x01, 1, .enum8, (some 0), (some 2), 1, 0, .span 0 4, 0⟩,
  ⟨0x2011, 7, 0x01, 1, .enum8, (some 0), (some 2), 0, 0, .span 0 4, 0⟩,
  ⟨0x2010, 8, 0x02, 1, .ts128, (some 0), none, 0, 0, .any, 0⟩,
  ⟨0x2010, 8, 0x03, 1, .enum8, (some 0), none, 0, 0, .any, 0⟩,
  ⟨0x2010, 8, 0x04, 1, .enum8, (some 0), none, 0, 0, .any, 0⟩,
  ⟨0x2010, 8, 0x05, 1, .bits16, (some 0), (some 1), 0, 0, .any, 0xfe00⟩,
  ⟨0x2010, 8, 0x06, 1, .bits16, (some 0), (some 2), 0, 0, .any, 0xfe00⟩,
  ⟨0x2010, 8, 0x07, 1, .u8, (some 0), (some 2), 0, 0, .span 0 15, 0⟩,
  ⟨0x2010, 8, 0x08, 1, .i64, (some 0), (some 2), 0, 0, .span (-1000000000000) 1000000000000, 0⟩,
  ⟨0x2010, 8, 0x09, 1, .ts128, (some 0), (some 2), 0, 0, .any, 0⟩,
  ⟨0x2010, 8, 0x0A, 1, .ts128, (some 0), (some 2), 0, 0, .any, 0⟩]

def area20_1 : List ObjRow := [
  ⟨0x2010, 8, 0x0B, 1, .u32, (some 0), none, 0, 0, .any, 0⟩,
  ⟨0x2010, 8, 0x0C, 1, .ts128, (some 0), none, 0, 0, .any, 0⟩,
  ⟨0x2010, 8, 0x0D, 1, .i64, (some 0), none, 0, 0, .any, 0⟩,
  ⟨0x2010, 8, 0x0E, 1, .u32, (some 0), none, 0, 0, .any, 0⟩]

def area21_0 : List ObjRow := [
  ⟨0x2100, 8, 0x00, 1, .u8, (some 0), none, 12, 0, .any, 0⟩,
  ⟨0x2100, 8, 0x01, 1, .u32, (some 0), (some 2), 10000, 0, .span 100 1000000, 0⟩,
  ⟨0x2100, 8, 0x02, 1, .u16, (some 0), (some 2), 1000, 0, .span 500 5000, 0⟩,
  ⟨0x2100, 8, 0x03, 1, .u64, (some 0), (some 2), 3276800, 0, .span 65536 6553600000, 0⟩,
  ⟨0x2100, 8, 0x04, 1, .u32, (some 0), (some 2), 16, 0, .span 1 3600, 0⟩,
  ⟨0x2100, 8, 0x05, 1, .i64, (some 0), (some 2), 100000000000, 0, .span 1000000000 200000000000, 0⟩,
  ⟨0x2100, 8, 0x06, 1, .u32, (some 0), (some 2), 2000, 0, .span 100 60000, 0⟩,
  ⟨0x2100, 8, 0x07, 1, .enum8, (some 0), none, 0, 0, .any, 0⟩,
  ⟨0x2100, 8, 0x08, 1, .i64, (some 0), none, 0, 0, .any, 0⟩,
  ⟨0x2100, 8, 0x09, 1, .bits16, (some 0), (some 1), 0, 0, .any, 0xffe0⟩,
  ⟨0x2100, 8, 0x0A, 1, .bits16, (some 0), (some 2), 0, 0, .any, 0xffe0⟩,
  ⟨0x2100, 8, 0x0B, 1, .u32, (some 0), none, 0, 0, .any, 0⟩,
  ⟨0x2100, 8, 0x0C, 1, .u32, (some 0), none, 0, 0, .any, 0⟩,
  ⟨0x2110, 8, 0x00, 1, .u8, (some 0), none, 11, 0, .any, 0⟩,
  ⟨0x2110, 8, 0x01, 1, .enum8, (some 0), none, 0, 0, .any, 0⟩,
  ⟨0x2110, 8, 0x02, 1, .enum8, none, (some 2), 0, 0, .span 0 1, 0⟩,
  ⟨0x2110, 8, 0x03, 1, .i64, (some 0), (some 2), 0, 0, .span (-200000000000) 200000000000, 0⟩,
  ⟨0x2110, 8, 0x04, 1, .i64, (some 0), none, 0, 0, .any, 0⟩,
  ⟨0x2110, 8, 0x05, 1, .u64, (some 0), none, 0, 0, .any, 0⟩,
  ⟨0x2110, 8, 0x06, 1, .u32, (some 0), none, 0, 0, .any, 0⟩,
  ⟨0x2110, 8, 0x07, 1, .u64, none, (some 2), 0, 0, .any, 0⟩,
  ⟨0x2110, 8, 0x08, 1, .u32, (some 0), (some 2), 0, 0, .any, 0xff000000⟩,
  ⟨0x2110, 8, 0x09, 1, .i64, none, (some 2), 0, 0, .any, 0⟩,
  ⟨0x2110, 8, 0x0A, 1, .i64, (some 0), none, 0, 0, .any, 0⟩]

def area21_1 : List ObjRow := [
  ⟨0x2110, 8, 0x0B, 1, .ts128, none, (some 2), 0, 0, .any, 0⟩,
  ⟨0x2120, 1, 0x01, 1, .u32, (some 0), (some 2), 5000, 0, .span 100 1000000, 0⟩,
  ⟨0x2120, 1, 0x02, 1, .bits16, (some 0), (some 2), 0, 0, .any, 0xff00⟩,
  ⟨0x2120, 1, 0x03, 1, .u64, (some 0), (some 2), 65536000000, 0, .span 65536000 65536000000000000, 0⟩,
  ⟨0x2120, 1, 0x04, 1, .u64, (some 0), none, 450359962737049, 0, .any, 0⟩,
  ⟨0x2120, 1, 0x05, 1, .u32, (some 0), none, 10066330, 0, .any, 0⟩,
  ⟨0x2121, 1, 0x01, 1, .bool, (some 0), (some 2), 1, 0, .span 0 1, 0⟩,
  ⟨0x2121, 1, 0x02, 1, .u32, (some 0), (some 2), 100000, 0, .span 100 1000000, 0⟩,
  ⟨0x2121, 1, 0x03, 1, .u32, (some 0), (some 2), 10000, 0, .span 100 1000000, 0⟩,
  ⟨0x2121, 1, 0x04, 1, .u32, (some 0), (some 2), 1000, 0, .span 100 1000000, 0⟩,
  ⟨0x2121, 1, 0x05, 1, .u32, (some 0), (some 2), 100000, 0, .span 100 1000000, 0⟩]

def area22_0 : List ObjRow := [
  ⟨0x2200, 8, 0x00, 1, .u8, (some 0), none, 37, 0, .any, 0⟩,
  ⟨0x2208, 2, 0x00, 1, .u8, (some 0), none, 24, 0, .any, 0⟩,
  ⟨0x220A, 4, 0x00, 1, .u8, (some 0), none, 52, 0, .any, 0⟩,
  ⟨0x220E, 2, 0x00, 1, .u8, (some 0), none, 66, 0, .any, 0⟩,
  ⟨0x2200, 16, 0x01, 1, .bool, (some 0), (some 2), 0, 0, .span 0 1, 0⟩,
  ⟨0x2200, 16, 0x02, 1, .enum8, (some 0), none, 0, 0, .any, 0⟩,
  ⟨0x2200, 8, 0x03, 1, .enum8, (some 0), none, 0, 0, .any, 0⟩,
  ⟨0x2208, 2, 0x03, 1, .enum8, (some 0), none, 1, 0, .any, 0⟩,
  ⟨0x220A, 4, 0x03, 1, .enum8, (some 0), none, 2, 0, .any, 0⟩,
  ⟨0x220E, 2, 0x03, 1, .enum8, (some 0), none, 3, 0, .any, 0⟩,
  ⟨0x2200, 16, 0x04, 1, .u8, (some 0), (some 2), 8, 0, .span 0 15, 0⟩,
  ⟨0x2200, 16, 0x05, 1, .enum8, (some 0), (some 2), 0, 0, .span 0 1, 0⟩,
  ⟨0x2200, 16, 0x06, 1, .enum8, (some 0), (some 2), 8, 0, .list [1, 2, 3, 4, 5, 6, 7, 8, 15], 0⟩,
  ⟨0x2200, 16, 0x07, 1, .enum8, (some 0), none, 8, 0, .any, 0⟩,
  ⟨0x2200, 16, 0x08, 1, .enum8, (some 0), none, 8, 0, .any, 0⟩,
  ⟨0x2200, 16, 0x09, 1, .bits16, (some 0), none, 0, 0, .any, 0⟩,
  ⟨0x2200, 16, 0x0A, 1, .bits32, (some 0), (some 1), 0, 0, .any, 0xffe00000⟩,
  ⟨0x2200, 16, 0x0B, 1, .bits32, (some 0), (some 2), 0, 0, .any, 0xffe00000⟩,
  ⟨0x2200, 16, 0x0C, 1, .u64, (some 0), (some 2), 50000000, 0, .span 100000 200000000000, 0⟩,
  ⟨0x2200, 16, 0x0D, 1, .u64, (some 0), (some 2), 65536000, 0, .span 65536 65536000000, 0⟩,
  ⟨0x2200, 16, 0x0E, 1, .u64, (some 0), (some 2), 13107200, 0, .span 65536 65536000000, 0⟩,
  ⟨0x2200, 16, 0x0F, 1, .u32, (some 0), (some 2), 64, 0, .span 8 1000, 0⟩,
  ⟨0x2200, 16, 0x10, 1, .u32, (some 0), (some 2), 20, 0, .span 16 3600, 0⟩,
  ⟨0x2200, 16, 0x11, 1, .u32, (some 0), (some 2), 2000, 0, .span 100 60000, 0⟩]

def area22_1 : List ObjRow := [
  ⟨0x2200, 16, 0x12, 1, .i64, (some 0), none, 0, 0, .any, 0⟩,
  ⟨0x2200, 16, 0x13, 1, .i64, (some 0), none, 0, 0, .any, 0⟩,
  ⟨0x2200, 16, 0x14, 1, .i64, (some 0), none, 0, 0, .any, 0⟩,
  ⟨0x2200, 16, 0x15, 1, .u64, (some 0), none, 0, 0, .any, 0⟩,
  ⟨0x2200, 16, 0x16, 1, .ts128, (some 0), none, 0, 0, .any, 0⟩,
  ⟨0x2200, 16, 0x17, 1, .u32, (some 0), none, 0, 0, .any, 0⟩,
  ⟨0x2200, 16, 0x18, 1, .u32, (some 0), none, 0, 0, .any, 0⟩,
  ⟨0x2200, 8, 0x20, 1, .u32, (some 0), (some 2), 1, 0, .span 1 800000000, 0⟩,
  ⟨0x2200, 8, 0x21, 1, .i64, (some 0), (some 2), 0, 0, .span (-65536000000) 65536000000, 0⟩,
  ⟨0x2200, 8, 0x22, 1, .bool, (some 0), (some 2), 0, 0, .span 0 1, 0⟩,
  ⟨0x2200, 8, 0x23, 1, .u32, (some 0), (some 2), 115200, 0, .list [9600, 19200, 38400, 57600, 115200, 230400, 460800, 921600], 0⟩,
  ⟨0x2200, 8, 0x24, 1, .u32, (some 0), none, 0, 0, .any, 0⟩,
  ⟨0x2200, 8, 0x25, 1, .u32, (some 0), none, 0, 0, .any, 0⟩,
  ⟨0x220A, 4, 0x30, 1, .u8, (some 0), (some 2), 0, 0, .span 0 255, 0⟩,
  ⟨0x220A, 4, 0x31, 1, .u8, (some 0), (some 2), 0, 0, .span 0 15, 0⟩,
  ⟨0x220A, 4, 0x32, 1, (.octet 16), (some 0), (some 2), 0, 0, .any, 0⟩,
  ⟨0x220A, 4, 0x33, 1, .u8, (some 0), (some 2), 34, 0, .span 0x17 0xFE, 0⟩,
  ⟨0x220A, 4, 0x34, 1, .u8, (some 0), none, 255, 0, .any, 0⟩,
  ⟨0x220E, 1, 0x40, 1, .u8, (some 0), (some 2), 0, 0, .span 0 15, 0⟩,
  ⟨0x220F, 1, 0x40, 1, .u8, (some 0), (some 2), 1, 0, .span 0 15, 0⟩,
  ⟨0x220E, 2, 0x41, 1, .u8, (some 0), none, 15, 0, .any, 0⟩,
  ⟨0x220E, 2, 0x42, 1, .u8, (some 0), none, 255, 0, .any, 0⟩,
  ⟨0x2280, 1, 0x01, 1, .u8, (some 0), none, 255, 0, .any, 0⟩,
  ⟨0x2280, 1, 0x02, 1, .u8, (some 0), (some 2), 255, 0, .list [0, 1, 2, 3, 4, 5, 6, 7, 8, 9, 10, 11, 12, 13, 14, 15, 0xFF], 0⟩]

def area22_2 : List ObjRow := [
  ⟨0x2280, 1, 0x03, 1, .bool, (some 0), (some 2), 0, 0, .span 0 1, 0⟩,
  ⟨0x2280, 1, 0x04, 1, .u32, (some 0), (some 2), 500, 0, .span 0 10000, 0⟩,
  ⟨0x2280, 1, 0x05, 1, .u32, (some 0), (some 2), 300, 0, .span 0 3600, 0⟩,
  ⟨0x2280, 1, 0x06, 1, .enum8, (some 0), (some 2), 8, 0, .span 1 8, 0⟩,
  ⟨0x2280, 1, 0x07, 1, .u32, (some 0), (some 2), 10, 0, .span 1 3600, 0⟩,
  ⟨0x2280, 1, 0x08, 1, .bits16, (some 0), (some 1), 0, 0, .any, 0xff80⟩,
  ⟨0x2280, 1, 0x09, 1, .bits16, (some 0), (some 2), 0, 0, .any, 0xff80⟩,
  ⟨0x2280, 1, 0x0A, 1, .u32, (some 0), none, 0, 0, .any, 0⟩,
  ⟨0x2280, 1, 0x0B, 1, .ts128, (some 0), none, 0, 0, .any, 0⟩,
  ⟨0x2280, 1, 0x0C, 1, .u8, (some 0), none, 255, 0, .any, 0⟩,
  ⟨0x2280, 1, 0x0D, 1, .enum8, (some 0), none, 0, 0, .any, 0⟩,
  ⟨0x2281, 1, 0x01, 1, .i64, (some 0), none, 0, 0, .any, 0⟩,
  ⟨0x2281, 1, 0x02, 1, .i64, (some 0), none, 0, 0, .any, 0⟩,
  ⟨0x2281, 1, 0x03, 1, .u32, (some 0), none, 0, 0, .any, 0⟩,
  ⟨0x2281, 1, 0x04, 1, .ts128, (some 0), none, 0, 0, .any, 0⟩,
  ⟨0x2282, 1, 0x01, 1, .enum8, (some 0), (some 2), 0, 0, .span 0 1, 0⟩,
  ⟨0x2282, 1, 0x02, 1, .u64, (some 0), (some 2), 5000000, 0, .span 10000 10000000000, 0⟩,
  ⟨0x2282, 1, 0x03, 1, .u8, (some 0), (some 2), 4, 0, .span 1 64, 0⟩,
  ⟨0x2282, 1, 0x04, 1, .u32, (some 0), (some 2), 16, 0, .span 1 600, 0⟩,
  ⟨0x2282, 1, 0x05, 1, .u8, (some 0), none, 255, 0, .any, 0⟩,
  ⟨0x2282, 1, 0x06, 1, .u8, (some 0), none, 255, 0, .any, 0⟩,
  ⟨0x2282, 1, 0x07, 1, .enum8, (some 0), none, 0, 0, .any, 0⟩,
  ⟨0x22C0, 8, 0x00, 1, .u8, (some 0), none, 8, 0, .any, 0⟩,
  ⟨0x22C0, 8, 0x01, 1, .bool, (some 0), (some 2), 0, 0, .span 0 1, 0⟩]

def area22_3 : List ObjRow := [
  ⟨0x22C0, 8, 0x02, 1, .u8, (some 0), (some 2), 0, 0, .span 0 7, 0⟩,
  ⟨0x22C0, 8, 0x03, 1, .i64, (some 0), (some 2), 0, 0, .span (-32768000000000) 32768000000000, 0⟩,
  ⟨0x22C0, 8, 0x04, 1, .enum8, (some 0), (some 2), 0, 0, .span 0 1, 0⟩,
  ⟨0x22C0, 8, 0x05, 1, .bits32, (some 0), (some 2), 0, 0, .any, 0⟩,
  ⟨0x22C0, 8, 0x06, 1, .bits16, (some 0), (some 2), 0, 0, .any, 0xfff0⟩,
  ⟨0x22C0, 8, 0x07, 1, .i64, (some 0), none, 0, 0, .any, 0⟩,
  ⟨0x22C0, 8, 0x08, 1, .enum8, (some 0), none, 0, 0, .any, 0⟩]

def area24_0 : List ObjRow := [
  ⟨0x2400, 1, 0x01, 1, .enum8, (some 0), (some 2), 0, 0, .span 0 2, 0⟩,
  ⟨0x2400, 1, 0x02, 1, .enum8, (some 0), none, 0, 0, .any, 0⟩,
  ⟨0x2400, 1, 0x03, 1, .u32, (some 0), (some 2), 10000000, 0, .list [10000000, 12800000, 20000000, 25000000, 40000000, 50000000, 100000000], 0⟩,
  ⟨0x2400, 1, 0x04, 1, .u32, (some 0), (some 2), 40000000, 0, .list [38400000, 40000000, 50000000], 0⟩,
  ⟨0x2400, 1, 0x05, 1, .enum8, (some 0), none, 0, 0, .any, 0⟩,
  ⟨0x2400, 1, 0x06, 1, .bits16, (some 0), (some 1), 0, 0, .any, 0xff00⟩,
  ⟨0x2400, 1, 0x07, 1, .bits16, (some 0), (some 2), 0, 0, .any, 0xff00⟩,
  ⟨0x2400, 1, 0x08, 1, .bool, (some 0), none, 0, 0, .any, 0⟩,
  ⟨0x2400, 1, 0x09, 1, .u32, (some 0), (some 2), 5000, 0, .span 100 60000, 0⟩,
  ⟨0x2400, 1, 0x0A, 1, .i64, (some 0), none, 0, 0, .any, 0⟩,
  ⟨0x2401, 1, 0x01, 1, .enum8, (some 0), (some 2), 0, 0, .span 0 1, 0⟩,
  ⟨0x2401, 1, 0x02, 1, .u32, (some 0), (some 2), 10, 0, .span 1 3600, 0⟩,
  ⟨0x2401, 1, 0x03, 1, .bool, (some 0), none, 0, 0, .any, 0⟩,
  ⟨0x2401, 1, 0x04, 1, .u32, (some 0), none, 0, 0, .any, 0⟩,
  ⟨0x2401, 1, 0x05, 1, .u64, (some 0), (some 2), 1000000, 0, .any, 0⟩,
  ⟨0x2410, 1, 0x01, 1, .enum8, (some 0), none, 0, 0, .any, 0⟩,
  ⟨0x2410, 1, 0x02, 1, .i64, (some 0), none, 0, 0, .any, 0⟩,
  ⟨0x2410, 1, 0x03, 1, .i64, (some 0), none, 0, 0, .any, 0⟩,
  ⟨0x2410, 1, 0x04, 1, .i64, (some 0), none, 0, 0, .any, 0⟩,
  ⟨0x2410, 1, 0x05, 1, .ts128, (some 0), none, 0, 0, .any, 0⟩,
  ⟨0x2410, 1, 0x06, 1, .i32, (some 0), none, 0, 0, .any, 0⟩,
  ⟨0x2410, 1, 0x07, 1, .u64, (some 0), none, 20000000000, 0, .any, 0⟩,
  ⟨0x2410, 1, 0x08, 1, .u64, (some 0), none, 5000000, 0, .any, 0⟩,
  ⟨0x2410, 1, 0x09, 1, .u64, (some 0), none, 500000000, 0, .any, 0⟩]

def area24_1 : List ObjRow := [
  ⟨0x2410, 1, 0x0A, 1, .u32, (some 0), none, 0, 0, .any, 0⟩,
  ⟨0x2410, 1, 0x0B, 1, .ts128, (some 0), none, 0, 0, .any, 0⟩,
  ⟨0x2410, 1, 0x0C, 1, .i64, (some 0), none, 0, 0, .any, 0⟩,
  ⟨0x2410, 1, 0x0D, 1, .bits16, (some 0), (some 1), 0, 0, .any, 0xff80⟩,
  ⟨0x2410, 1, 0x0E, 1, .bits16, (some 0), (some 2), 0, 0, .any, 0xff80⟩,
  ⟨0x2411, 1, 0x01, 1, .u32, (some 0), (some 2), 64, 0, .span 16 1024, 0⟩,
  ⟨0x2411, 1, 0x02, 1, .u32, (some 0), (some 2), 0, 0, .orElse 0 24 8760, 0⟩,
  ⟨0x2411, 1, 0x03, 1, .u32, (some 0), (some 2), 1350, 0, .span 16 1000000, 0⟩,
  ⟨0x2411, 1, 0x04, 1, .u32, (some 0), (some 2), 600, 0, .span 0 86400, 0⟩,
  ⟨0x2411, 1, 0x05, 1, .enum8, (some 0), (some 2), 0, 0, .span 0 1, 0⟩,
  ⟨0x2411, 1, 0x06, 1, .i64, (some 0), (some 2), 0, 0, .span (-100000000) 100000000, 0⟩,
  ⟨0x2411, 1, 0x07, 1, .u64, (some 0), (some 2), 0, 0, .any, 0⟩,
  ⟨0x2411, 1, 0x08, 1, .bool, (some 0), (some 2), 1, 0, .span 0 1, 0⟩,
  ⟨0x2411, 1, 0x09, 1, .u32, (some 0), (some 2), 64, 0, .span 8 3600, 0⟩,
  ⟨0x2411, 1, 0x0A, 1, .u32, (some 0), (some 2), 3600, 0, .span 600 86400, 0⟩,
  ⟨0x2411, 1, 0x0B, 1, .bool, none, (some 2), 0, 0, .span 0 1, 0⟩,
  ⟨0x2420, 1, 0x01, 1, .enum8, (some 0), (some 2), 0, 0, .span 0 1, 0⟩,
  ⟨0x2420, 1, 0x02, 1, .i32, (some 0), none, 0, 0, .any, 0⟩,
  ⟨0x2420, 1, 0x03, 1, .i32, (some 0), (some 1), 0, 0, .span (-55000) 150000, 0⟩,
  ⟨0x2420, 1, 0x04, 1, .u32, (some 0), none, 4294967295, 0, .any, 0⟩,
  ⟨0x2420, 1, 0x05, 1, .u32, (some 0), (some 2), 10000, 0, .span 1000 600000, 0⟩,
  ⟨0x2420, 1, 0x06, 1, .u32, (some 0), (some 2), 10000, 0, .any, 0⟩,
  ⟨0x2420, 1, 0x07, 1, .i32, (some 0), none, 0, 0, .any, 0⟩,
  ⟨0x2420, 1, 0x08, 1, .i32, (some 0), none, 0, 0, .any, 0⟩]

def area24_2 : List ObjRow := [
  ⟨0x2430, 1, 0x01, 1, .u64, (some 0), (some 2), 65536000, 0, .span 65536 65536000000000, 0⟩,
  ⟨0x2430, 1, 0x02, 1, .u32, (some 0), (some 2), 3600, 0, .span 0 2592000, 0⟩,
  ⟨0x2430, 1, 0x03, 1, .enum8, (some 0), none, 0, 0, .any, 0⟩,
  ⟨0x2430, 1, 0x04, 1, .ts128, (some 0), none, 0, 0, .any, 0⟩,
  ⟨0x2430, 1, 0x05, 1, .u32, (some 0), none, 0, 0, .any, 0⟩,
  ⟨0x2430, 1, 0x06, 1, .u64, (some 0), none, 0, 0, .any, 0⟩,
  ⟨0x2430, 1, 0x07, 1, .ts128, (some 0), none, 0, 0, .any, 0⟩,
  ⟨0x2430, 1, 0x08, 1, .u32, (some 0), none, 4294967295, 0, .any, 0⟩,
  ⟨0x2430, 1, 0x09, 1, .u32, (some 0), (some 2), 0, 0, .any, 0⟩,
  ⟨0x2430, 1, 0x0A, 1, .u32, (some 0), none, 0, 0, .any, 0⟩,
  ⟨0x2430, 1, 0x0B, 1, .u32, (some 0), none, 0, 0, .any, 0⟩,
  ⟨0x2430, 1, 0x0C, 1, .i64, (some 0), none, 0, 0, .any, 0⟩,
  ⟨0x2430, 1, 0x0D, 1, .u64, (some 0), none, 0, 0, .any, 0⟩,
  ⟨0x2430, 1, 0x0E, 1, .bits16, (some 0), (some 1), 0, 0, .any, 0xffe0⟩,
  ⟨0x2430, 1, 0x0F, 1, .bits16, (some 0), (some 2), 0, 0, .any, 0xffe0⟩,
  ⟨0x2480, 1, 0x02, 1, .enum8, (some 0), (some 2), 0, 0, .span 0 1, 0⟩,
  ⟨0x2480, 1, 0x03, 1, .enum8, (some 0), (some 2), 0, 0, .span 0 2, 0⟩,
  ⟨0x2480, 1, 0x04, 1, .u32, (some 0), (some 2), 300, 0, .span 0 7200, 0⟩,
  ⟨0x2480, 1, 0x05, 1, .u32, (some 0), (some 2), 100, 0, .span 1 10000, 0⟩,
  ⟨0x2480, 1, 0x06, 1, .enum8, (some 0), none, 0, 0, .any, 0⟩,
  ⟨0x2480, 1, 0x07, 1, .u32, (some 0), none, 0, 0, .any, 0⟩,
  ⟨0x2480, 1, 0x08, 1, .u32, (some 0), none, 0, 0, .any, 0⟩,
  ⟨0x2480, 1, 0x09, 1, .u64, (some 0), (some 2), 1000000, 0, .any, 0⟩,
  ⟨0x2480, 1, 0x0A, 1, .u32, (some 0), (some 2), 600, 0, .span 0 86400, 0⟩]

def area26_0 : List ObjRow := [
  ⟨0x2600, 40, 0x00, 1, .u8, (some 0), none, 26, 0, .any, 0⟩,
  ⟨0x2600, 40, 0x01, 1, .bool, (some 0), (some 2), 0, 0, .span 0 1, 0⟩,
  ⟨0x2600, 40, 0x02, 1, .enum8, (some 0), (some 2), 0, 0, .span 0 2, 0⟩,
  ⟨0x2600, 40, 0x03, 1, .enum8, (some 0), (some 2), 0, 0, .span 0 2, 0⟩,
  ⟨0x2600, 40, 0x04, 1, .u8, (some 0), (some 2), 0, 0, .span 0 7, 0⟩,
  ⟨0x2600, 40, 0x05, 1, .i64, (some 0), (some 2), 0, 0, .span (-65536000000) 65536000000, 0⟩,
  ⟨0x2600, 40, 0x06, 1, .u32, (some 0), (some 2), 1, 0, .span 1 1000000, 0⟩,
  ⟨0x2600, 40, 0x07, 1, .u8, (some 0), (some 2), 0, 0, .span 0 39, 0⟩,
  ⟨0x2600, 40, 0x08, 1, .u32, (some 0), (some 2), 1000000, 0, .span 2 1000000000, 0⟩,
  ⟨0x2600, 40, 0x09, 1, .u32, (some 0), (some 2), 1000, 0, .span 1 1000000, 0⟩,
  ⟨0x2600, 40, 0x0A, 1, .u32, (some 0), (some 2), 10000000, 0, .span 1 800000000, 0⟩,
  ⟨0x2600, 40, 0x0B, 1, .bool, (some 0), (some 2), 0, 0, .span 0 1, 0⟩,
  ⟨0x2600, 40, 0x0C, 1, .enum8, (some 0), none, 0, 0, .any, 0⟩,
  ⟨0x2600, 40, 0x0D, 1, .ts128, (some 0), none, 0, 0, .any, 0⟩,
  ⟨0x2600, 40, 0x0E, 1, .i64, (some 0), none, 0, 0, .any, 0⟩,
  ⟨0x2600, 40, 0x0F, 1, .bits16, (some 0), none, 0, 0, .any, 0⟩,
  ⟨0x2600, 40, 0x10, 1, .u32, (some 0), none, 0, 0, .any, 0⟩,
  ⟨0x2600, 40, 0x11, 1, .u32, (some 0), none, 0, 0, .any, 0⟩,
  ⟨0x2600, 40, 0x12, 1, .u32, (some 0), none, 0, 0, .any, 0⟩,
  ⟨0x2600, 40, 0x13, 1, .u32, (some 0), none, 0, 0, .any, 0⟩,
  ⟨0x2600, 40, 0x14, 1, .u32, (some 0), none, 0, 0, .any, 0⟩,
  ⟨0x2600, 40, 0x15, 1, .bits16, (some 0), (some 1), 0, 0, .any, 0xf800⟩,
  ⟨0x2600, 40, 0x16, 1, .bits16, (some 0), (some 2), 0, 0, .any, 0xf800⟩,
  ⟨0x2600, 40, 0x17, 1, .ts128, (some 0), none, 0, 0, .any, 0⟩]

def area26_1 : List ObjRow := [
  ⟨0x2600, 40, 0x18, 1, .u32, (some 0), none, 0, 0, .any, 0⟩,
  ⟨0x2600, 40, 0x19, 1, (.octet 512), (some 0), none, 0, 0, .any, 0⟩,
  ⟨0x2600, 40, 0x1A, 1, .u64, (some 0), none, 0, 0, .any, 0⟩,
  ⟨0x2628, 1, 0x00, 1, .u8, (some 0), none, 33, 0, .any, 0⟩,
  ⟨0x2628, 1, 0x0C, 1, .enum8, (some 0), none, 0, 0, .any, 0⟩,
  ⟨0x2628, 1, 0x17, 1, .ts128, (some 0), none, 0, 0, .any, 0⟩,
  ⟨0x2628, 1, 0x18, 1, .u32, (some 0), none, 0, 0, .any, 0⟩,
  ⟨0x2628, 1, 0x19, 1, (.octet 512), (some 0), none, 0, 0, .any, 0⟩,
  ⟨0x2628, 1, 0x20, 1, .u8, (some 0), none, 255, 0, .any, 0⟩,
  ⟨0x2628, 1, 0x21, 1, .i64, (some 0), none, 0, 0, .any, 0⟩,
  ⟨0x2660, 22, 0x00, 1, .u8, (some 0), none, 5, 0, .any, 0⟩,
  ⟨0x2660, 22, 0x01, 1, .enum8, (some 0), none, 0, 0, .any, 0⟩,
  ⟨0x2660, 22, 0x02, 1, .ts128, (some 0), none, 0, 0, .any, 0⟩,
  ⟨0x2660, 22, 0x03, 1, .u32, (some 0), none, 0, 0, .any, 0⟩,
  ⟨0x2660, 22, 0x04, 1, .u64, (some 0), none, 0, 0, .any, 0⟩,
  ⟨0x2660, 22, 0x05, 1, .bool, none, (some 2), 0, 0, .span 0 1, 0⟩,
  ⟨0x2680, 1, 0x01, 1, .u32, (some 0), (some 2), 900, 0, .orElse 0 60 86400, 0⟩,
  ⟨0x2680, 1, 0x02, 1, .u32, (some 0), (some 2), 16777216, 0, .span 1048576 268435456, 0⟩,
  ⟨0x2680, 1, 0x03, 1, .u32, (some 0), (some 2), 2000, 0, .span 100 60000, 0⟩,
  ⟨0x2680, 1, 0x04, 1, .u32, (some 0), (some 2), 60, 0, .span 1 3600, 0⟩,
  ⟨0x2680, 1, 0x05, 1, .u32, (some 0), (some 2), 3000, 0, .span 500 50000, 0⟩,
  ⟨0x2680, 1, 0x06, 1, .bool, (some 0), (some 2), 1, 0, .span 0 1, 0⟩,
  ⟨0x2680, 1, 0x07, 1, .u8, none, (some 2), 0, 0, .span 0 40, 0⟩,
  ⟨0x2680, 1, 0x08, 1, .u8, (some 0), none, 255, 0, .any, 0⟩]

def area26_2 : List ObjRow := [
  ⟨0x2680, 1, 0x09, 1, .u8, (some 0), none, 0, 0, .any, 0⟩,
  ⟨0x2680, 1, 0x0A, 1, .u32, (some 0), none, 0, 0, .any, 0⟩,
  ⟨0x2680, 1, 0x0B, 1, .u32, (some 0), none, 0, 0, .any, 0⟩,
  ⟨0x2680, 1, 0x0C, 1, .bool, (some 0), none, 0, 0, .any, 0⟩,
  ⟨0x2690, 1, 0x01, 1, .bool, (some 0), (some 2), 0, 0, .span 0 1, 0⟩,
  ⟨0x2690, 1, 0x02, 1, .u64, (some 0), (some 2), 0, 0, .aligned 64, 0⟩,
  ⟨0x2690, 1, 0x03, 1, .u32, (some 0), (some 2), 65536, 0, .pow2 4096 1073741824, 0⟩,
  ⟨0x2690, 1, 0x04, 1, .u32, (some 0), none, 0, 0, .any, 0⟩,
  ⟨0x2690, 1, 0x05, 1, .u32, (some 0), (some 1), 0, 0, .any, 0⟩,
  ⟨0x2690, 1, 0x06, 1, .u32, (some 0), (some 2), 1024, 0, .span 1 33554432, 0⟩,
  ⟨0x2690, 1, 0x07, 1, .u32, (some 0), none, 0, 0, .any, 0⟩,
  ⟨0x2690, 1, 0x08, 1, .u64, (some 0), none, 0, 0, .any, 0⟩]

def area28_0 : List ObjRow := [
  ⟨0x2800, 32, 0x00, 1, .u8, (some 0), none, 11, 0, .any, 0⟩,
  ⟨0x2800, 32, 0x01, 1, .enum8, (some 0), (some 2), 0, 0, .span 0 2, 0⟩,
  ⟨0x2800, 32, 0x02, 1, .u8, (some 0), (some 2), 0, 0, .span 0 7, 0⟩,
  ⟨0x2800, 32, 0x03, 1, .u64, (some 0), (some 2), 0, 0, .orElse 0 262144 65536000000000000, 0⟩,
  ⟨0x2800, 32, 0x04, 1, .u64, (some 0), (some 2), 0, 0, .any, 0⟩,
  ⟨0x2800, 32, 0x05, 1, .u64, (some 0), (some 2), 6553600000, 0, .span 131072 65535999999868928, 0⟩,
  ⟨0x2800, 32, 0x06, 1, .enum8, (some 0), (some 2), 0, 0, .span 0 1, 0⟩,
  ⟨0x2800, 32, 0x07, 1, .i64, (some 0), (some 2), 0, 0, .span (-65536000) 65536000, 0⟩,
  ⟨0x2800, 32, 0x08, 1, .enum8, (some 0), none, 0, 0, .any, 0⟩,
  ⟨0x2800, 32, 0x09, 1, .u32, (some 0), none, 0, 0, .any, 0⟩,
  ⟨0x2800, 32, 0x0A, 1, .u32, (some 0), none, 0, 0, .any, 0⟩,
  ⟨0x2800, 32, 0x0B, 1, .u32, (some 0), none, 0, 0, .any, 0⟩,
  ⟨0x2820, 8, 0x00, 1, .u8, (some 0), none, 5, 0, .any, 0⟩,
  ⟨0x2820, 8, 0x01, 1, .bool, (some 0), (some 2), 0, 0, .span 0 1, 0⟩,
  ⟨0x2820, 2, 0x02, 1, .u8, (some 0), (some 2), 0, 0, .span 0 3, 0⟩,
  ⟨0x2822, 2, 0x02, 1, .u8, (some 0), (some 2), 1, 0, .span 0 3, 0⟩,
  ⟨0x2824, 2, 0x02, 1, .u8, (some 0), (some 2), 2, 0, .span 0 3, 0⟩,
  ⟨0x2826, 2, 0x02, 1, .u8, (some 0), (some 2), 3, 0, .span 0 3, 0⟩,
  ⟨0x2820, 8, 0x03, 1, .u32, (some 0), (some 2), 1, 0, .span 1 16777216, 0⟩,
  ⟨0x2820, 8, 0x04, 1, .i64, (some 0), (some 2), 0, 0, .span (-65536000) 65536000, 0⟩,
  ⟨0x2820, 8, 0x05, 1, .enum8, (some 0), (some 2), 0, 0, .span 0 2, 0⟩,
  ⟨0x2828, 4, 0x00, 1, .u8, (some 0), none, 7, 0, .any, 0⟩,
  ⟨0x2828, 4, 0x01, 1, .bool, (some 0), (some 2), 0, 0, .span 0 1, 0⟩,
  ⟨0x2828, 4, 0x02, 1, .u8, (some 0), (some 2), 0, 0, .span 0 7, 0⟩]

def area28_1 : List ObjRow := [
  ⟨0x2828, 4, 0x03, 1, .u64, (some 0), (some 2), 156250000000000, 0, .span 1000000000 800000000000000, 0⟩,
  ⟨0x2828, 4, 0x04, 1, .enum8, (some 0), (some 2), 1, 0, .span 0 1, 0⟩,
  ⟨0x2828, 4, 0x05, 1, .i64, (some 0), (some 2), 0, 0, .any, 0⟩,
  ⟨0x2828, 4, 0x06, 1, .enum8, (some 0), none, 0, 0, .any, 0⟩,
  ⟨0x2828, 4, 0x07, 1, .i64, (some 0), none, 0, 0, .any, 0⟩,
  ⟨0x282C, 2, 0x00, 1, .u8, (some 0), none, 7, 0, .any, 0⟩,
  ⟨0x282C, 2, 0x01, 1, .bool, (some 0), (some 2), 0, 0, .span 0 1, 0⟩,
  ⟨0x282C, 2, 0x02, 1, .u32, (some 0), (some 2), 115200, 0, .list [9600, 19200, 38400, 57600, 115200, 230400, 460800, 921600], 0⟩,
  ⟨0x282C, 2, 0x03, 1, .u8, (some 0), (some 2), 0, 0, .span 0 31, 0⟩,
  ⟨0x282C, 2, 0x04, 1, .u32, (some 0), (some 2), 500, 0, .span 20 900, 0⟩,
  ⟨0x282C, 2, 0x05, 1, .u32, (some 0), none, 0, 0, .any, 0⟩,
  ⟨0x282C, 2, 0x06, 1, .u32, (some 0), none, 0, 0, .any, 0⟩,
  ⟨0x282C, 2, 0x07, 1, .u8, (some 0), none, 0, 0, .any, 0⟩,
  ⟨0x2830, 1, 0x01, 1, .u32, (some 0), (some 2), 100, 0, .span 2 1000000, 0⟩,
  ⟨0x2830, 1, 0x02, 1, .u16, (some 0), none, 0, 0, .any, 0⟩,
  ⟨0x2830, 1, 0x03, 1, .u32, (some 0), none, 0, 0, .any, 0⟩,
  ⟨0x2830, 1, 0x04, 1, .u32, (some 0), none, 0, 0, .any, 0⟩,
  ⟨0x2830, 1, 0x05, 1, .bits16, (some 0), (some 1), 0, 0, .any, 0xff00⟩,
  ⟨0x2830, 1, 0x06, 1, .bits16, (some 0), (some 2), 0, 0, .any, 0xff00⟩,
  ⟨0x2830, 1, 0x07, 1, .u32, (some 0), none, 0, 0, .any, 0⟩,
  ⟨0x2831, 1, 0x01, 1, .u16, (some 0), (some 0), 0, 0, .span 0 4095, 0⟩,
  ⟨0x2831, 1, 0x02, 1, .enum8, (some 0), none, 0, 0, .any, 0⟩,
  ⟨0x2831, 1, 0x03, 1, .ts128, (some 0), none, 0, 0, .any, 0⟩,
  ⟨0x2831, 1, 0x04, 1, .u32, (some 0), none, 0, 0, .any, 0⟩]

def area28_2 : List ObjRow := [
  ⟨0x2831, 1, 0x05, 1, .u32, (some 0), none, 0, 0, .any, 0⟩,
  ⟨0x2831, 1, 0x06, 1, .ts128, (some 0), none, 0, 0, .any, 0⟩,
  ⟨0x2831, 1, 0x07, 1, .u32, (some 0), none, 0, 0, .any, 0⟩,
  ⟨0x28E0, 16, 0x00, 256, (.octet 48), (some 0), (some 2), 0, 0, .any, 0⟩,
  ⟨0x2838, 1, 0x00, 1, .u8, (some 0), none, 12, 0, .any, 0⟩,
  ⟨0x2838, 1, 0x01, 1, .u32, (some 0), none, 0, 0, .any, 0⟩,
  ⟨0x2838, 1, 0x02, 1, .u16, (some 0), none, 0, 0, .any, 0⟩,
  ⟨0x2838, 1, 0x03, 1, .u64, (some 0), none, 0, 0, .any, 0⟩,
  ⟨0x2838, 1, 0x04, 1, .bits32, (some 0), none, 0, 0, .any, 0⟩,
  ⟨0x2838, 1, 0x05, 8, .ts128, (some 0), none, 0, 0, .any, 0⟩,
  ⟨0x2839, 1, 0x01, 1, .u32, (some 0), none, 0, 0, .any, 0⟩,
  ⟨0x2839, 1, 0x02, 1, .ts128, (some 0), none, 0, 0, .any, 0⟩,
  ⟨0x2839, 1, 0x03, 1, .u64, (some 0), none, 0, 0, .any, 0⟩,
  ⟨0x2839, 1, 0x04, 1, .bool, (some 0), none, 0, 0, .any, 0⟩]

def area2A_0 : List ObjRow := [
  ⟨0x2A00, 8, 0x00, 1, .u8, (some 0), none, 21, 0, .any, 0⟩,
  ⟨0x2A00, 8, 0x01, 1, .u64, (some 0), none, 0xFFFFFFFFFFFFFFFF, 0, .any, 0⟩,
  ⟨0x2A00, 8, 0x02, 1, .ts128, (some 0), none, 0, 0, .any, 0⟩,
  ⟨0x2A00, 8, 0x03, 1, .bits16, (some 0), none, 16, 0, .any, 0⟩,
  ⟨0x2A00, 8, 0x04, 1, .u64, (some 0), none, 0xFFFFFFFFFFFFFFFF, 0, .any, 0⟩,
  ⟨0x2A00, 8, 0x05, 1, .u64, (some 0), none, 0, 0, .any, 0⟩,
  ⟨0x2A00, 8, 0x06, 1, .u64, (some 0), none, 0, 0, .any, 0⟩,
  ⟨0x2A00, 8, 0x07, 1, .u64, (some 0), none, 0, 0, .any, 0⟩,
  ⟨0x2A00, 8, 0x08, 1, .u64, (some 0), none, 0, 0, .any, 0⟩,
  ⟨0x2A00, 8, 0x09, 1, .u64, (some 0), none, 0, 0, .any, 0⟩,
  ⟨0x2A00, 8, 0x0A, 1, .u64, (some 0), none, 0, 0, .any, 0⟩,
  ⟨0x2A00, 8, 0x0B, 1, .u64, (some 0), none, 0, 0, .any, 0⟩,
  ⟨0x2A00, 8, 0x0C, 1, .u64, (some 0), none, 0, 0, .any, 0⟩,
  ⟨0x2A00, 8, 0x0D, 1, .u64, (some 0), none, 0, 0, .any, 0⟩,
  ⟨0x2A00, 8, 0x0E, 1, .u64, (some 0), none, 0, 0, .any, 0⟩,
  ⟨0x2A00, 8, 0x0F, 1, .u8, (some 0), none, 255, 0, .any, 0⟩,
  ⟨0x2A00, 8, 0x10, 1, .u32, (some 0), none, 0, 0, .any, 0⟩,
  ⟨0x2A00, 8, 0x11, 1, .u32, (some 0), none, 0, 0, .any, 0⟩,
  ⟨0x2A00, 8, 0x12, 1, .u32, (some 0), none, 0, 0, .any, 0⟩,
  ⟨0x2A00, 8, 0x13, 1, .bits16, (some 0), (some 1), 0, 0, .any, 0xff80⟩,
  ⟨0x2A00, 8, 0x14, 1, .bits16, (some 0), (some 2), 0, 0, .any, 0xff80⟩,
  ⟨0x2A00, 8, 0x15, 1, .u64, (some 0), (some 2), 0xFFFFFFFFFFFFFFFF, 0, .any, 0⟩,
  ⟨0x2A20, 1, 0x01, 1, .u16, (some 0), none, 3890, 0, .any, 0⟩,
  ⟨0x2A20, 1, 0x02, 1, .u32, (some 0), (some 2), 1500, 0, .span 100 60000, 0⟩]

def area2A_1 : List ObjRow := [
  ⟨0x2A20, 1, 0x03, 1, .u64, (some 0), (some 2), 65536000000, 0, .span 65536000 65536000000000, 0⟩,
  ⟨0x2A20, 1, 0x04, 1, .u16, (some 0), (some 2), 32768, 0, .list [0x0003, 0x4000, 0x8000], 0⟩,
  ⟨0x2A20, 1, 0x05, 1, .bool, (some 0), (some 2), 1, 0, .span 0 1, 0⟩,
  ⟨0x2A20, 1, 0x06, 1, .bool, (some 0), (some 2), 0, 0, .span 0 1, 0⟩,
  ⟨0x2A20, 1, 0x07, 1, .bool, (some 0), (some 2), 1, 0, .span 0 1, 0⟩,
  ⟨0x2A20, 1, 0x08, 1, .u64, (some 0), none, 0, 0, .any, 0⟩,
  ⟨0x2A20, 1, 0x09, 1, .u64, (some 0), none, 1639, 0, .any, 0⟩,
  ⟨0x2A30, 16, 0x00, 1, .u8, (some 0), none, 3, 0, .any, 0⟩,
  ⟨0x2A30, 16, 0x01, 1, .u64, (some 0), (some 2), 6553600, 0, .span 0 65536000000, 0⟩,
  ⟨0x2A30, 16, 0x02, 1, .u64, (some 0), none, 2622, 0, .any, 0⟩,
  ⟨0x2A30, 16, 0x03, 1, .u64, (some 0), none, 128, 0, .any, 0⟩,
  ⟨0x2A40, 8, 0x00, 1, .u8, (some 0), none, 10, 0, .any, 0⟩,
  ⟨0x2A48, 8, 0x00, 1, .u8, (some 0), none, 9, 0, .any, 0⟩,
  ⟨0x2A40, 16, 0x01, 1, .u64, (some 0), (some 2), 0xFFFFFFFFFFFFFFFF, 0, .any, 0⟩,
  ⟨0x2A40, 16, 0x02, 1, .u64, (some 0), none, 0xFFFFFFFFFFFFFFFF, 0, .any, 0⟩,
  ⟨0x2A40, 16, 0x03, 1, .enum8, (some 0), none, 0, 0, .any, 0⟩,
  ⟨0x2A40, 16, 0x04, 1, .u32, (some 0), none, 0, 0, .any, 0⟩,
  ⟨0x2A40, 16, 0x05, 1, .u64, (some 0), none, 0, 0, .any, 0⟩,
  ⟨0x2A40, 16, 0x06, 1, .u64, (some 0), none, 0, 0, .any, 0⟩,
  ⟨0x2A40, 16, 0x07, 1, .u64, (some 0), none, 0, 0, .any, 0⟩,
  ⟨0x2A40, 16, 0x08, 1, .u64, (some 0), none, 0xFFFFFFFFFFFFFFFF, 0, .any, 0⟩,
  ⟨0x2A40, 16, 0x09, 1, .u64, (some 0), (some 2), 10000, 0, .span 1 1000000000, 0⟩,
  ⟨0x2A40, 8, 0x0A, 1, .u64, (some 0), (some 2), 65536, 0, .any, 0⟩]

def area30_0 : List ObjRow := [
  ⟨0x3000, 1, 0x01, 1, .bool, (some 0), (some 2), 0, 0, .span 0 1, 0⟩,
  ⟨0x3000, 1, 0x02, 1, .bits16, (some 0), (some 2), 7, 0, .any, 0xfff8⟩,
  ⟨0x3000, 1, 0x03, 1, .enum8, (some 0), (some 2), 0, 0, .span 0 2, 0⟩,
  ⟨0x3000, 1, 0x04, 1, .u8, (some 0), (some 2), 1, 0, .list [1, 2, 5, 10], 0⟩,
  ⟨0x3000, 1, 0x05, 1, .u16, (some 0), (some 2), 150, 0, .span 0 600, 0⟩,
  ⟨0x3000, 1, 0x06, 1, .u16, (some 0), (some 2), 3000, 0, .span 2000 5000, 0⟩,
  ⟨0x3000, 1, 0x07, 1, .u8, (some 0), (some 2), 4, 0, .span 1 16, 0⟩,
  ⟨0x3000, 1, 0x08, 1, .bits16, (some 0), (some 2), 0, 0, .any, 0xfffc⟩,
  ⟨0x3000, 1, 0x09, 1, .bits16, (some 0), (some 1), 0, 0, .any, 0xff00⟩,
  ⟨0x3000, 1, 0x0A, 1, .bits16, (some 0), (some 2), 0, 0, .any, 0xff00⟩,
  ⟨0x3000, 1, 0x0B, 1, .i64, (some 0), none, 0, 0, .any, 0⟩,
  ⟨0x3000, 1, 0x0C, 1, .enum8, (some 0), none, 0, 0, .any, 0⟩,
  ⟨0x3000, 1, 0x0D, 1, .u32, (some 0), none, 0, 0, .any, 0⟩,
  ⟨0x3002, 1, 0x01, 1, .u32, (some 0), (some 2), 10000000, 0, .span 1000000 25000000, 0⟩,
  ⟨0x3002, 1, 0x02, 1, (.octet 34), none, (some 2), 0, 0, .any, 0⟩,
  ⟨0x3002, 1, 0x03, 1, (.octet 32), (some 0), none, 0, 0, .any, 0⟩,
  ⟨0x3002, 1, 0x04, 1, .u32, (some 0), none, 0, 0, .any, 0⟩,
  ⟨0x3003, 1, 0x01, 1, .u8, (some 0), none, 0, 0, .any, 0⟩,
  ⟨0x3003, 1, 0x02, 1, .u32, (some 0), (some 2), 900, 0, .orElse 0 60 86400, 0⟩,
  ⟨0x3003, 1, 0x03, 1, .i64, (some 0), none, 0, 0, .any, 0⟩,
  ⟨0x3003, 1, 0x04, 1, .u64, (some 0), none, 0, 0, .any, 0⟩,
  ⟨0x3003, 1, 0x05, 1, .ts128, (some 0), none, 0, 0, .any, 0⟩,
  ⟨0x3003, 1, 0x06, 1, .ts128, (some 0), none, 0, 0, .any, 0⟩,
  ⟨0x3010, 4, 0x00, 1, .u8, (some 0), none, 11, 0, .any, 0⟩]

def area30_1 : List ObjRow := [
  ⟨0x3010, 4, 0x01, 1, .bool, (some 0), (some 2), 0, 0, .span 0 1, 0⟩,
  ⟨0x3010, 4, 0x02, 1, .i32, (some 0), (some 2), 0, 0, .span (-40920000) 40920000, 0⟩,
  ⟨0x3010, 4, 0x03, 1, .bool, (some 0), (some 2), 0, 0, .span 0 1, 0⟩,
  ⟨0x3010, 4, 0x04, 1, .i64, (some 0), (some 2), 0, 0, .span (-65536000000) 65536000000, 0⟩,
  ⟨0x3010, 4, 0x05, 1, .u32, (some 0), (some 2), 100000, 0, .span 100 1000000, 0⟩,
  ⟨0x3010, 4, 0x06, 1, .i64, (some 0), (some 2), 0, 0, .span (-65536000) 65536000, 0⟩,
  ⟨0x3010, 4, 0x07, 1, .i64, (some 0), (some 2), 0, 0, .span (-65536000) 65536000, 0⟩,
  ⟨0x3010, 4, 0x08, 1, .u16, (some 0), none, 0, 0, .any, 0⟩,
  ⟨0x3010, 4, 0x09, 1, .u8, (some 0), none, 0, 0, .any, 0⟩,
  ⟨0x3010, 4, 0x0A, 1, (.octet 256), (some 0), (some 2), 0, 0, .any, 0⟩,
  ⟨0x3010, 4, 0x0B, 1, .bool, none, (some 2), 0, 0, .span 0 1, 0⟩,
  ⟨0x3020, 1, 0x01, 1, .u32, (some 0), (some 2), 5000, 0, .span 500 50000, 0⟩,
  ⟨0x3020, 1, 0x02, 1, .u8, (some 0), (some 2), 10, 0, .span 1 64, 0⟩,
  ⟨0x3020, 1, 0x03, 1, .u16, (some 0), (some 2), 3200, 0, .span 2500 4500, 0⟩,
  ⟨0x3020, 1, 0x04, 1, .u32, (some 0), none, 0, 0, .any, 0⟩,
  ⟨0x3020, 1, 0x05, 1, .u32, (some 0), none, 0, 0, .any, 0⟩,
  ⟨0x3021, 1, 0x01, 1, .u32, (some 0), (some 2), 2000, 0, .span 500 10000, 0⟩,
  ⟨0x3021, 1, 0x02, 1, .u32, (some 0), (some 2), 10000, 0, .span 2000 30000, 0⟩,
  ⟨0x3021, 1, 0x03, 1, .u32, (some 0), (some 2), 500, 0, .span 50 5000, 0⟩,
  ⟨0x3021, 1, 0x04, 1, .u16, (some 0), (some 2), 200, 0, .span 50 500, 0⟩,
  ⟨0x3021, 1, 0x05, 1, .u16, (some 0), (some 2), 2500, 0, .span 1500 4000, 0⟩,
  ⟨0x3030, 1, 0x01, 1, .u32, (some 0), (some 2), 3000, 0, .span 2000 1000000, 0⟩,
  ⟨0x3030, 1, 0x02, 1, .u32, (some 0), (some 2), 500, 0, .span 200 100000, 0⟩,
  ⟨0x3030, 1, 0x03, 1, .u32, (some 0), (some 2), 1000, 0, .span 300 100000, 0⟩]

def area30_2 : List ObjRow := [
  ⟨0x3030, 1, 0x04, 1, .u32, (some 0), (some 2), 10000, 0, .span 1000 1000000, 0⟩,
  ⟨0x3030, 1, 0x05, 1, .u32, (some 0), (some 2), 10000, 0, .span 1000 1000000, 0⟩,
  ⟨0x3030, 1, 0x06, 1, .u32, (some 0), (some 2), 20000, 0, .span 2000 1000000, 0⟩,
  ⟨0x3030, 1, 0x07, 1, .u16, (some 0), (some 2), 200, 0, .span 0 1000, 0⟩,
  ⟨0x3030, 1, 0x08, 1, .u32, (some 0), (some 2), 5000, 0, .span 1000 1000000, 0⟩,
  ⟨0x3030, 1, 0x09, 1, .u8, (some 0), (some 2), 10, 0, .span 1 255, 0⟩,
  ⟨0x3030, 1, 0x0A, 1, .u32, (some 0), (some 2), 5000, 0, .span 100 1000000, 0⟩,
  ⟨0x3030, 1, 0x0B, 1, .u32, (some 0), (some 2), 3600, 0, .span 60 604800, 0⟩,
  ⟨0x3040, 2, 0x00, 1, .u8, (some 0), none, 23, 0, .any, 0⟩,
  ⟨0x3040, 2, 0x01, 1, .enum8, (some 0), none, 0, 0, .any, 0⟩,
  ⟨0x3040, 2, 0x02, 1, .i64, (some 0), none, 0, 0, .any, 0⟩,
  ⟨0x3040, 2, 0x03, 1, .ts128, (some 0), none, 0, 0, .any, 0⟩,
  ⟨0x3040, 2, 0x04, 1, .u64, (some 0), none, 0xFFFFFFFFFFFFFFFF, 0, .any, 0⟩,
  ⟨0x3040, 2, 0x05, 1, .u64, (some 0), none, 0, 0, .any, 0⟩,
  ⟨0x3040, 2, 0x06, 1, .u64, (some 0), none, 0, 0, .any, 0⟩,
  ⟨0x3040, 2, 0x07, 1, .u8, (some 0), none, 0, 0, .any, 0⟩,
  ⟨0x3040, 2, 0x08, 1, .u8, (some 0), none, 0, 0, .any, 0⟩,
  ⟨0x3040, 2, 0x09, 1, .bits16, (some 0), none, 0, 0, .any, 0⟩,
  ⟨0x3040, 2, 0x0A, 1, .bits16, (some 0), (some 1), 0, 0, .any, 0xffe0⟩,
  ⟨0x3040, 2, 0x0B, 1, .bits16, (some 0), (some 2), 0, 0, .any, 0xffe0⟩,
  ⟨0x3040, 2, 0x0C, 1, .u32, (some 0), none, 0, 0, .any, 0⟩,
  ⟨0x3040, 2, 0x0D, 1, .enum8, (some 0), none, 0, 0, .any, 0⟩,
  ⟨0x3040, 2, 0x0E, 1, .i64, (some 0), (some 2), 0, 0, .span (-10000000000) 10000000000, 0⟩,
  ⟨0x3040, 2, 0x0F, 1, .i64, (some 0), (some 2), 0, 0, .span (-10000000000) 10000000000, 0⟩]

def area30_3 : List ObjRow := [
  ⟨0x3040, 2, 0x10, 1, .i64, (some 0), (some 2), 0, 0, .span (-10000000000) 10000000000, 0⟩,
  ⟨0x3040, 2, 0x11, 1, .u32, (some 0), (some 2), 100000, 0, .span 10 10000000, 0⟩,
  ⟨0x3040, 2, 0x12, 1, .u32, (some 0), (some 2), 43200, 0, .span 600 604800, 0⟩,
  ⟨0x3040, 2, 0x13, 1, .bool, none, (some 2), 0, 0, .span 0 1, 0⟩,
  ⟨0x3040, 2, 0x14, 1, .u32, (some 0), none, 0, 0, .any, 0⟩,
  ⟨0x3040, 2, 0x15, 1, .u32, (some 0), none, 0, 0, .any, 0⟩,
  ⟨0x3040, 2, 0x16, 1, .u32, (some 0), none, 0, 0, .any, 0⟩,
  ⟨0x3040, 2, 0x17, 1, .enum8, (some 0), none, 0, 0, .any, 0⟩]

def area31_0 : List ObjRow := [
  ⟨0x3100, 192, 0x00, 1, .u8, (some 0), none, 9, 0, .any, 0⟩,
  ⟨0x3100, 192, 0x01, 1, .enum8, (some 0), none, 0, 0, .any, 0⟩,
  ⟨0x3100, 48, 0x02, 1, .u8, (some 0), none, 0, 0, .any, 0⟩,
  ⟨0x3130, 48, 0x02, 1, .u8, (some 0), none, 1, 0, .any, 0⟩,
  ⟨0x3160, 48, 0x02, 1, .u8, (some 0), none, 2, 0, .any, 0⟩,
  ⟨0x3190, 48, 0x02, 1, .u8, (some 0), none, 3, 0, .any, 0⟩,
  ⟨0x3100, 192, 0x03, 1, .enum8, (some 0), none, 0, 0, .any, 0⟩,
  ⟨0x3100, 192, 0x04, 1, .u8, (some 0), none, 0, 0, .any, 0⟩,
  ⟨0x3100, 192, 0x05, 1, .u16, (some 0), none, 0, 0, .any, 0⟩,
  ⟨0x3100, 192, 0x06, 1, .i32, (some 0), none, 0, 0, .any, 0⟩,
  ⟨0x3100, 192, 0x07, 1, .u32, (some 0), none, 0, 0, .any, 0⟩,
  ⟨0x3100, 192, 0x08, 1, .u32, (some 0), none, 0, 0, .any, 0⟩,
  ⟨0x3100, 192, 0x09, 1, .u32, (some 0), none, 0, 0, .any, 0⟩,
  ⟨0x31C0, 1, 0x01, 1, .bool, (some 0), (some 2), 0, 0, .span 0 1, 0⟩,
  ⟨0x31C0, 1, 0x02, 1, .u64, (some 0), (some 2), 0, 0, .aligned 64, 0⟩,
  ⟨0x31C0, 1, 0x03, 1, .u32, (some 0), (some 2), 4096, 0, .pow2 64 1048576, 0⟩,
  ⟨0x31C0, 1, 0x04, 1, .u32, (some 0), none, 0, 0, .any, 0⟩,
  ⟨0x31C0, 1, 0x05, 1, .u32, (some 0), (some 1), 0, 0, .any, 0⟩,
  ⟨0x31C0, 1, 0x06, 1, .u32, (some 0), none, 0, 0, .any, 0⟩]

def area34_0 : List ObjRow := [
  ⟨0x3400, 18, 0x00, 1, .u8, (some 0), none, 178, 0, .any, 0⟩,
  ⟨0x3400, 18, 0x01, 1, .bool, (some 0), (some 2), 0, 0, .span 0 1, 0⟩,
  ⟨0x3400, 18, 0x02, 1, .enum8, (some 0), none, 0, 0, .any, 0⟩,
  ⟨0x3400, 18, 0x03, 1, (.octet 6), (some 0), (some 2), 0, 0, .any, 0⟩,
  ⟨0x3400, 18, 0x04, 1, .u32, (some 0), (some 2), 0, 0, .any, 0⟩,
  ⟨0x3400, 18, 0x05, 1, .u8, (some 0), (some 2), 24, 0, .span 0 32, 0⟩,
  ⟨0x3400, 18, 0x06, 1, .u32, (some 0), (some 2), 0, 0, .any, 0⟩,
  ⟨0x3400, 18, 0x07, 1, (.octet 16), (some 0), (some 2), 0, 0, .any, 0⟩,
  ⟨0x3400, 18, 0x08, 1, .u8, (some 0), (some 2), 64, 0, .span 0 128, 0⟩,
  ⟨0x3400, 18, 0x09, 1, (.octet 16), (some 0), (some 2), 0, 0, .any, 0⟩,
  ⟨0x3400, 18, 0x0A, 1, .u16, (some 0), (some 2), 0, 0, .span 0 4094, 0⟩,
  ⟨0x3400, 18, 0x0B, 1, .u8, (some 0), (some 2), 0, 0, .span 0 7, 0⟩,
  ⟨0x3400, 18, 0x0C, 1, .u16, (some 0), (some 2), 1522, 0, .span 1518 9216, 0⟩,
  ⟨0x3400, 16, 0x0D, 1, .bool, (some 0), (some 2), 0, 0, .span 0 1, 0⟩,
  ⟨0x3400, 16, 0x0E, 1, .bits16, (some 0), (some 2), 0, 0, .any, 0xff00⟩,
  ⟨0x3400, 16, 0x0F, 1, .bool, (some 0), (some 2), 1, 0, .span 0 1, 0⟩,
  ⟨0x3400, 16, 0x10, 1, .u8, (some 0), (some 2), 0, 0, .span 0 3, 0⟩,
  ⟨0x3400, 16, 0x11, 1, .enum8, (some 0), none, 0, 0, .any, 0⟩,
  ⟨0x3400, 16, 0x12, 1, .enum8, (some 0), (some 2), 0, 0, .span 0 2, 0⟩,
  ⟨0x3400, 16, 0x13, 1, .bits16, (some 0), (some 2), 0, 0, .any, 0xff00⟩,
  ⟨0x3400, 16, 0x14, 1, .u32, (some 0), (some 2), 20, 0, .span 1 1000, 0⟩,
  ⟨0x3400, 16, 0x15, 1, .u32, (some 0), (some 2), 100, 0, .span 10 10000, 0⟩,
  ⟨0x3400, 16, 0x16, 1, .u32, (some 0), (some 2), 16384, 0, .span 4096 65536, 0⟩,
  ⟨0x3400, 16, 0x17, 1, .u32, (some 0), (some 2), 8192, 0, .span 0 65535, 0⟩]

def area34_1 : List ObjRow := [
  ⟨0x3400, 18, 0x18, 1, .bits16, (some 0), none, 0, 0, .any, 0xffc0⟩,
  ⟨0x3400, 18, 0x19, 1, .bits16, (some 0), (some 1), 0, 0, .any, 0xfe00⟩,
  ⟨0x3400, 18, 0x1A, 1, .bits16, (some 0), (some 2), 0, 0, .any, 0xfe00⟩,
  ⟨0x3400, 18, 0x1B, 1, .bool, (some 0), (some 2), 0, 0, .span 0 1, 0⟩,
  ⟨0x3400, 18, 0x1C, 1, .u16, (some 0), none, 0, 0, .any, 0⟩,
  ⟨0x3400, 18, 0x1D, 1, .bool, (some 0), none, 0, 0, .any, 0⟩,
  ⟨0x3400, 18, 0x20, 1, .u64, (some 0), none, 0, 0, .any, 0⟩,
  ⟨0x3400, 18, 0x21, 1, .u64, (some 0), none, 0, 0, .any, 0⟩,
  ⟨0x3400, 18, 0x22, 1, .u32, (some 0), none, 0, 0, .any, 0⟩,
  ⟨0x3400, 18, 0x23, 1, .u32, (some 0), none, 0, 0, .any, 0⟩,
  ⟨0x3400, 18, 0x24, 1, .u32, (some 0), none, 0, 0, .any, 0⟩,
  ⟨0x3400, 18, 0x25, 1, .u32, (some 0), none, 0, 0, .any, 0⟩,
  ⟨0x3400, 18, 0x26, 1, .u32, (some 0), none, 0, 0, .any, 0⟩,
  ⟨0x3400, 18, 0x27, 1, .u64, (some 0), none, 0, 0, .any, 0⟩,
  ⟨0x3400, 18, 0x28, 1, .u64, (some 0), none, 0, 0, .any, 0⟩,
  ⟨0x3400, 18, 0x29, 1, .u64, (some 0), none, 0, 0, .any, 0⟩,
  ⟨0x3400, 16, 0x2A, 1, .u32, (some 0), none, 0, 0, .any, 0⟩,
  ⟨0x3400, 16, 0x2B, 1, .u32, (some 0), none, 0, 0, .any, 0⟩,
  ⟨0x3400, 16, 0x2C, 1, .u32, (some 0), none, 0, 0, .any, 0⟩,
  ⟨0x3400, 16, 0x2D, 1, .u32, (some 0), none, 0, 0, .any, 0⟩,
  ⟨0x3400, 16, 0x2E, 1, .u32, (some 0), none, 0, 0, .any, 0⟩,
  ⟨0x3400, 16, 0x2F, 1, .u32, (some 0), none, 0, 0, .any, 0⟩,
  ⟨0x3400, 16, 0x30, 1, .u32, (some 0), none, 0, 0, .any, 0⟩,
  ⟨0x3400, 18, 0x31, 1, .u64, (some 0), none, 0, 0, .any, 0⟩]

def area34_2 : List ObjRow := [
  ⟨0x3400, 18, 0x32, 1, .u32, (some 0), none, 0, 0, .any, 0⟩,
  ⟨0x3400, 18, 0xA0, 1, .u64, (some 0), none, 0, 0, .any, 0⟩,
  ⟨0x3400, 18, 0xA1, 1, .u64, (some 0), none, 0, 0, .any, 0⟩,
  ⟨0x3400, 18, 0xA2, 1, .u32, (some 0), none, 0, 0, .any, 0⟩,
  ⟨0x3400, 18, 0xA3, 1, .u32, (some 0), none, 0, 0, .any, 0⟩,
  ⟨0x3400, 18, 0xA4, 1, .u32, (some 0), none, 0, 0, .any, 0⟩,
  ⟨0x3400, 18, 0xA5, 1, .u32, (some 0), none, 0, 0, .any, 0⟩,
  ⟨0x3400, 18, 0xA6, 1, .u32, (some 0), none, 0, 0, .any, 0⟩,
  ⟨0x3400, 18, 0xA7, 1, .u64, (some 0), none, 0, 0, .any, 0⟩,
  ⟨0x3400, 18, 0xA8, 1, .u64, (some 0), none, 0, 0, .any, 0⟩,
  ⟨0x3400, 18, 0xA9, 1, .u64, (some 0), none, 0, 0, .any, 0⟩,
  ⟨0x3400, 16, 0xAA, 1, .u32, (some 0), none, 0, 0, .any, 0⟩,
  ⟨0x3400, 16, 0xAB, 1, .u32, (some 0), none, 0, 0, .any, 0⟩,
  ⟨0x3400, 16, 0xAC, 1, .u32, (some 0), none, 0, 0, .any, 0⟩,
  ⟨0x3400, 16, 0xAD, 1, .u32, (some 0), none, 0, 0, .any, 0⟩,
  ⟨0x3400, 16, 0xAE, 1, .u32, (some 0), none, 0, 0, .any, 0⟩,
  ⟨0x3400, 16, 0xAF, 1, .u32, (some 0), none, 0, 0, .any, 0⟩,
  ⟨0x3400, 16, 0xB0, 1, .u32, (some 0), none, 0, 0, .any, 0⟩,
  ⟨0x3400, 18, 0xB1, 1, .u64, (some 0), none, 0, 0, .any, 0⟩,
  ⟨0x3400, 18, 0xB2, 1, .u32, (some 0), none, 0, 0, .any, 0⟩,
  ⟨0x3440, 16, 0x00, 1, .u8, (some 0), none, 144, 0, .any, 0⟩,
  ⟨0x3440, 16, 0x01, 8, .u32, (some 0), none, 0, 0, .any, 0⟩,
  ⟨0x3440, 16, 0x09, 8, .u32, (some 0), none, 0, 0, .any, 0⟩,
  ⟨0x3440, 16, 0x81, 16, .u32, (some 0), none, 0, 0, .any, 0⟩]

def area34_3 : List ObjRow := [
  ⟨0x3460, 16, 0x00, 1, .u8, (some 0), none, 15, 0, .any, 0⟩,
  ⟨0x3460, 16, 0x01, 1, .bool, (some 0), (some 2), 0, 0, .span 0 1, 0⟩,
  ⟨0x3460, 16, 0x02, 1, .u8, (some 0), (some 2), 0, 0, .span 0 7, 0⟩,
  ⟨0x3460, 16, 0x03, 1, .ts128, (some 0), (some 2), 0, 0, .any, 0⟩,
  ⟨0x3460, 16, 0x04, 1, .u32, (some 0), (some 2), 1000000, 0, .span 1000 1000000000, 0⟩,
  ⟨0x3460, 16, 0x05, 1, .u32, (some 0), (some 2), 10000, 0, .span 0 1000000000, 0⟩,
  ⟨0x3460, 16, 0x06, 1, .u16, (some 0), (some 2), 0, 0, .span 0 1024, 0⟩,
  ⟨0x3460, 16, 0x07, 1, .bits16, (some 0), (some 2), 255, 0, .any, 0xff00⟩,
  ⟨0x3460, 16, 0x08, 1, .bool, none, (some 2), 0, 0, .span 0 1, 0⟩,
  ⟨0x3460, 16, 0x09, 1, .bool, (some 0), none, 0, 0, .any, 0⟩,
  ⟨0x3460, 16, 0x0A, 1, .ts128, (some 0), none, 0, 0, .any, 0⟩,
  ⟨0x3460, 16, 0x0B, 1, .ts128, (some 0), none, 0, 0, .any, 0⟩,
  ⟨0x3460, 16, 0x0C, 1, .u32, (some 0), none, 0, 0, .any, 0⟩,
  ⟨0x3460, 16, 0x0D, 1, .u16, (some 0), none, 0, 0, .any, 0⟩,
  ⟨0x3460, 16, 0x0E, 1, .bits16, (some 0), none, 255, 0, .any, 0⟩,
  ⟨0x3460, 16, 0x0F, 1, .u64, (some 0), none, 0, 0, .any, 0⟩]

def area35_0 : List ObjRow := [
  ⟨0x3500, 64, 0x00, 256, .u64, (some 0), (some 2), 0, 0, .any, 0⟩]

def area38_0 : List ObjRow := [
  ⟨0x3800, 22, 0x00, 1, .u8, (some 0), none, 29, 0, .any, 0⟩,
  ⟨0x3800, 22, 0x01, 1, .bool, (some 0), (some 2), 0, 0, .span 0 1, 0⟩,
  ⟨0x3800, 16, 0x02, 1, .enum8, (some 0), (some 2), 1, 0, .span 0 4, 0⟩,
  ⟨0x3810, 4, 0x02, 1, .enum8, (some 0), (some 2), 4, 0, .span 0 4, 0⟩,
  ⟨0x3814, 2, 0x02, 1, .enum8, (some 0), (some 2), 0, 0, .span 0 4, 0⟩,
  ⟨0x3800, 22, 0x03, 1, .enum8, (some 0), (some 2), 0, 0, .span 0 2, 0⟩,
  ⟨0x3800, 22, 0x04, 1, .bool, (some 0), (some 2), 1, 0, .span 0 1, 0⟩,
  ⟨0x3800, 22, 0x05, 1, .enum8, (some 0), none, 0, 0, .any, 0⟩,
  ⟨0x3800, 22, 0x06, 1, .bool, (some 0), none, 0, 0, .any, 0⟩,
  ⟨0x3800, 22, 0x07, 1, .bool, (some 0), (some 2), 0, 0, .span 0 1, 0⟩,
  ⟨0x3800, 22, 0x08, 1, .bool, none, (some 2), 0, 0, .span 0 1, 0⟩,
  ⟨0x3800, 22, 0x09, 1, .enum8, (some 0), (some 2), 0, 0, .span 0 3, 0⟩,
  ⟨0x3800, 22, 0x0A, 1, .bits16, (some 0), (some 2), 0, 0, .any, 0xfff8⟩,
  ⟨0x3800, 22, 0x0B, 1, .u32, (some 0), (some 2), 100, 0, .span 1 1000000, 0⟩,
  ⟨0x3800, 22, 0x0C, 1, .u32, (some 0), (some 2), 12000, 0, .span 500 1000000, 0⟩,
  ⟨0x3800, 22, 0x0D, 1, .enum8, (some 0), none, 0, 0, .any, 0⟩,
  ⟨0x3800, 22, 0x0E, 1, .enum8, (some 0), none, 0, 0, .any, 0⟩,
  ⟨0x3800, 22, 0x0F, 1, .u8, (some 0), none, 0, 0, .any, 0⟩,
  ⟨0x3800, 22, 0x10, 1, .i64, (some 0), none, 0, 0, .any, 0⟩,
  ⟨0x3800, 22, 0x11, 1, .u64, (some 0), none, 0, 0, .any, 0⟩,
  ⟨0x3800, 22, 0x12, 1, .u64, (some 0), none, 0, 0, .any, 0⟩,
  ⟨0x3800, 22, 0x13, 1, .u64, (some 0), none, 0, 0, .any, 0⟩,
  ⟨0x3800, 22, 0x14, 1, .u64, (some 0), none, 0, 0, .any, 0⟩,
  ⟨0x3800, 22, 0x15, 1, .u64, (some 0), none, 0, 0, .any, 0⟩]

def area38_1 : List ObjRow := [
  ⟨0x3800, 22, 0x16, 1, .u64, (some 0), none, 0, 0, .any, 0⟩,
  ⟨0x3800, 22, 0x17, 1, .bits16, (some 0), none, 0, 0, .any, 0⟩,
  ⟨0x3800, 22, 0x18, 1, .bits16, (some 0), (some 1), 0, 0, .any, 0xfe00⟩,
  ⟨0x3800, 22, 0x19, 1, .bits16, (some 0), (some 2), 0, 0, .any, 0xfe00⟩,
  ⟨0x3800, 22, 0x1A, 1, .u32, (some 0), none, 0, 0, .any, 0⟩,
  ⟨0x3800, 22, 0x1B, 1, .u32, (some 0), none, 0, 0, .any, 0⟩,
  ⟨0x3800, 22, 0x1C, 1, .u32, (some 0), none, 0, 0, .any, 0⟩,
  ⟨0x3800, 22, 0x1D, 1, .u32, (some 0), none, 0, 0, .any, 0⟩,
  ⟨0x3870, 1, 0x01, 1, .u16, (some 0), (some 2), 46531, 0, .any, 0⟩,
  ⟨0x3870, 1, 0x02, 1, .bits16, (some 0), (some 2), 3, 0, .any, 0xfffc⟩,
  ⟨0x3870, 1, 0x03, 1, .u32, (some 0), none, 0, 0, .any, 0⟩,
  ⟨0x3870, 1, 0x04, 1, .u8, none, (some 2), 0, 0, .span 16 21, 0⟩,
  ⟨0x3870, 1, 0x05, 1, (.string 32), (some 0), (some 2), 1, 0, .any, 0⟩,
  ⟨0x3870, 1, 0x06, 1, .u32, (some 0), (some 2), 0, 0, .any, 0⟩,
  ⟨0x3870, 1, 0x07, 1, .u32, (some 0), (some 2), 5000, 0, .span 1000 100000, 0⟩,
  ⟨0x3870, 1, 0x08, 1, .u32, (some 0), (some 2), 1000, 0, .span 10 60000, 0⟩,
  ⟨0x3878, 1, 0x01, 1, .u8, (some 0), (some 2), 0, 0, .span 0 21, 0⟩,
  ⟨0x3878, 1, 0x02, 1, .bool, none, (some 2), 0, 0, .span 0 1, 0⟩,
  ⟨0x3878, 1, 0x03, 1, .enum8, (some 0), none, 0, 0, .any, 0⟩,
  ⟨0x3878, 1, 0x04, 1, .u64, (some 0), (some 2), 100000000, 0, .span 1000000 1000000000000, 0⟩,
  ⟨0x3878, 1, 0x05, 1, .u16, (some 0), (some 2), 10, 0, .span 2 40, 0⟩,
  ⟨0x3878, 1, 0x06, 1, .u16, (some 0), none, 0, 0, .any, 0⟩,
  ⟨0x3878, 1, 0x07, 1, .u16, (some 0), none, 0, 0, .any, 0⟩,
  ⟨0x3878, 1, 0x08, 1, (.octet 1024), (some 0), none, 0, 0, .any, 0⟩]

def area38_2 : List ObjRow := [
  ⟨0x3878, 1, 0x09, 1, .ts128, (some 0), none, 0, 0, .any, 0⟩,
  ⟨0x3880, 6, 0x00, 1, .u8, (some 0), none, 12, 0, .any, 0⟩,
  ⟨0x3880, 6, 0x01, 1, .enum8, (some 0), (some 2), 0, 0, .span 0 7, 0⟩,
  ⟨0x3880, 6, 0x02, 1, .enum8, (some 0), (some 2), 0, 0, .span 0 7, 0⟩,
  ⟨0x3880, 6, 0x03, 1, .u64, (some 0), (some 2), 0, 0, .any, 0⟩,
  ⟨0x3880, 6, 0x04, 1, .enum8, (some 0), (some 2), 0, 0, .span 0 1, 0⟩,
  ⟨0x3880, 6, 0x05, 1, .u8, (some 0), (some 2), 6, 0, .span 3 12, 0⟩,
  ⟨0x3880, 6, 0x06, 1, .bool, none, (some 2), 0, 0, .span 0 1, 0⟩,
  ⟨0x3880, 6, 0x07, 1, .bool, (some 0), none, 0, 0, .any, 0⟩,
  ⟨0x3880, 6, 0x08, 1, .u64, (some 0), none, 0, 0, .any, 0⟩,
  ⟨0x3880, 6, 0x09, 1, .u64, (some 0), none, 0, 0, .any, 0⟩,
  ⟨0x3880, 6, 0x0A, 1, .u64, (some 0), none, 0, 0, .any, 0⟩,
  ⟨0x3880, 6, 0x0B, 1, .u32, (some 0), none, 0, 0, .any, 0⟩,
  ⟨0x3880, 6, 0x0C, 1, .bool, none, (some 2), 0, 0, .span 0 1, 0⟩]

def area39_0 : List ObjRow := [
  ⟨0x3900, 16, 0x00, 1, .u8, (some 0), none, 3, 0, .any, 0⟩,
  ⟨0x3910, 4, 0x00, 1, .u8, (some 0), none, 4, 0, .any, 0⟩,
  ⟨0x3914, 2, 0x00, 1, .u8, (some 0), none, 2, 0, .any, 0⟩,
  ⟨0x3900, 16, 0x01, 3, (.octet 32), (some 0), (some 2), 0, 0, .any, 0⟩,
  ⟨0x3910, 4, 0x04, 1, (.octet 32), (some 0), (some 2), 0, 0, .any, 0⟩,
  ⟨0x3914, 2, 0x01, 2, (.octet 32), (some 0), (some 2), 0, 0, .any, 0⟩]

def area40_0 : List ObjRow := [
  ⟨0x4000, 1, 0x01, 1, (.octet 8), (some 0), (some 2), 0, 0, .any, 0⟩,
  ⟨0x4000, 1, 0x02, 1, .u8, (some 0), (some 2), 128, 0, .any, 0⟩,
  ⟨0x4000, 1, 0x03, 1, .u8, (some 0), (some 2), 128, 0, .any, 0⟩,
  ⟨0x4000, 1, 0x04, 1, .u16, (some 0), (some 2), 20061, 0, .any, 0⟩,
  ⟨0x4000, 1, 0x05, 1, (.octet 8), (some 0), none, 0, 0, .any, 0⟩,
  ⟨0x4000, 1, 0x06, 1, .bits16, (some 0), (some 1), 0, 0, .any, 0xe000⟩,
  ⟨0x4000, 1, 0x07, 1, .bits16, (some 0), (some 2), 0, 0, .any, 0xe000⟩,
  ⟨0x4000, 1, 0x08, 1, .u32, (some 0), (some 2), 20, 0, .span 4 1000, 0⟩,
  ⟨0x4000, 1, 0x09, 1, .enum8, (some 0), none, 0, 0, .any, 0⟩,
  ⟨0x4000, 1, 0x0A, 1, .u32, (some 0), (some 2), 60, 0, .span 0 3600, 0⟩,
  ⟨0x4010, 32, 0x00, 1, .u8, (some 0), none, 30, 0, .any, 0⟩,
  ⟨0x4010, 32, 0x01, 1, .bool, (some 0), (some 2), 0, 0, .span 0 1, 0⟩,
  ⟨0x4010, 32, 0x02, 1, .u8, (some 0), (some 2), 0, 0, .span 0 15, 0⟩,
  ⟨0x4010, 32, 0x03, 1, .enum8, (some 0), (some 2), 0, 0, .span 0 5, 0⟩,
  ⟨0x4010, 32, 0x04, 1, .u8, (some 0), (some 2), 0, 0, .any, 0⟩,
  ⟨0x4010, 32, 0x05, 1, .u8, (some 0), (some 2), 0, 0, .span 0 7, 0⟩,
  ⟨0x4010, 32, 0x06, 1, .enum8, (some 0), (some 2), 1, 0, .span 0 2, 0⟩,
  ⟨0x4010, 32, 0x07, 1, .bool, (some 0), (some 2), 1, 0, .span 0 1, 0⟩,
  ⟨0x4010, 32, 0x08, 1, .bool, (some 0), (some 2), 0, 0, .span 0 1, 0⟩,
  ⟨0x4010, 32, 0x09, 1, .bool, (some 0), (some 2), 0, 0, .span 0 1, 0⟩,
  ⟨0x4010, 32, 0x0A, 1, .i32, (some 0), (some 2), (-4), 0, .span (-7) 4, 0⟩,
  ⟨0x4010, 32, 0x0B, 1, .i32, (some 0), (some 2), 0, 0, .span (-3) 4, 0⟩,
  ⟨0x4010, 32, 0x0C, 1, .i32, (some 0), (some 2), (-4), 0, .span (-7) 6, 0⟩,
  ⟨0x4010, 32, 0x0D, 1, .i32, (some 0), (some 2), 0, 0, .span (-3) 5, 0⟩]

def area40_1 : List ObjRow := [
  ⟨0x4010, 32, 0x0E, 1, .i32, (some 0), (some 2), (-7), 0, .span (-7) 4, 0⟩,
  ⟨0x4010, 32, 0x0F, 1, .i32, (some 0), (some 2), (-3), 0, .span (-3) 4, 0⟩,
  ⟨0x4010, 32, 0x10, 1, .i32, (some 0), (some 2), (-7), 0, .span (-7) 6, 0⟩,
  ⟨0x4010, 32, 0x11, 1, .u32, (some 0), (some 2), 300, 0, .span 10 1000, 0⟩,
  ⟨0x4010, 32, 0x12, 1, .u32, (some 0), (some 2), 8388608, 0, .span 1 10000000, 0⟩,
  ⟨0x4010, 32, 0x13, 1, .u32, (some 0), (some 2), 10000, 0, .span 1 1000000, 0⟩,
  ⟨0x4010, 32, 0x14, 1, .enum8, (some 0), (some 2), 0, 0, .span 0 2, 0⟩,
  ⟨0x4010, 32, 0x15, 1, .u8, (some 0), (some 2), 0, 0, .span 0 255, 0⟩,
  ⟨0x4010, 32, 0x16, 1, .u8, (some 0), none, 248, 0, .any, 0⟩,
  ⟨0x4010, 32, 0x17, 1, .u8, (some 0), none, 254, 0, .any, 0⟩,
  ⟨0x4010, 32, 0x18, 1, .i64, (some 0), none, 0, 0, .any, 0⟩,
  ⟨0x4010, 32, 0x19, 1, .u32, (some 0), none, 0, 0, .any, 0⟩,
  ⟨0x4010, 32, 0x1A, 1, .u32, (some 0), none, 0, 0, .any, 0⟩,
  ⟨0x4010, 32, 0x1B, 1, .u32, (some 0), none, 0, 0, .any, 0⟩,
  ⟨0x4010, 32, 0x1C, 1, .u32, (some 0), none, 0, 0, .any, 0⟩,
  ⟨0x4010, 32, 0x1D, 1, .u32, (some 0), none, 0, 0, .any, 0⟩,
  ⟨0x4010, 32, 0x1E, 1, .u32, (some 0), none, 0, 0, .any, 0⟩,
  ⟨0x4040, 4, 0x00, 1, .u8, (some 0), none, 7, 0, .any, 0⟩,
  ⟨0x4040, 4, 0x01, 1, .enum8, (some 0), (some 2), 0, 0, .span 0 5, 0⟩,
  ⟨0x4040, 4, 0x02, 1, .enum8, (some 0), (some 2), 1, 0, .span 0 2, 0⟩,
  ⟨0x4040, 4, 0x03, 1, .bool, (some 0), (some 2), 0, 0, .span 0 1, 0⟩,
  ⟨0x4040, 4, 0x04, 1, .i32, (some 0), (some 2), (-4), 0, .span (-7) 4, 0⟩,
  ⟨0x4040, 4, 0x05, 1, .i32, (some 0), (some 2), (-4), 0, .span (-7) 6, 0⟩,
  ⟨0x4040, 4, 0x06, 1, .u8, (some 0), (some 2), 255, 0, .any, 0⟩]

def area40_2 : List ObjRow := [
  ⟨0x4040, 4, 0x07, 1, .u32, (some 0), none, 0, 0, .any, 0⟩,
  ⟨0x4060, 16, 0x00, 1, .u8, (some 0), none, 8, 0, .any, 0⟩,
  ⟨0x4060, 16, 0x01, 1, .bool, (some 0), (some 3), 0, 0, .span 0 1, 0⟩,
  ⟨0x4060, 16, 0x02, 1, .u8, (some 0), (some 3), 0, 1, .any, 0⟩,
  ⟨0x4060, 16, 0x03, 1, .enum8, (some 0), (some 3), 0, 0, .span 0 1, 0⟩,
  ⟨0x4060, 16, 0x04, 1, .u16, (some 0), (some 3), 0, 0, .span 0 1023, 0⟩,
  ⟨0x4060, 16, 0x05, 1, .u32, (some 0), (some 3), 0, 0, .any, 0⟩,
  ⟨0x4060, 16, 0x06, 1, .u16, (some 0), (some 3), 65535, 0, .orElse 0xFFFF 0 1023, 0⟩,
  ⟨0x4060, 16, 0x07, 1, .u32, (some 0), (some 3), 0, 0, .any, 0⟩,
  ⟨0x4060, 16, 0x08, 1, .ts128, (some 0), (some 3), 0, 0, .any, 0⟩]

def area44_0 : List ObjRow := [
  ⟨0x4400, 1, 0x01, 1, .bool, (some 0), (some 2), 0, 0, .span 0 1, 0⟩,
  ⟨0x4400, 1, 0x02, 1, .bits16, (some 0), (some 2), 0, 0, .any, 0⟩,
  ⟨0x4400, 1, 0x03, 1, .u32, (some 0), (some 2), 1000, 0, .span 10 1000000, 0⟩,
  ⟨0x4400, 1, 0x04, 1, .u32, (some 0), (some 2), 8, 0, .span 1 4000, 0⟩,
  ⟨0x4400, 1, 0x05, 1, .u32, (some 0), (some 2), 2000, 0, .span 100 60000, 0⟩,
  ⟨0x4400, 1, 0x06, 1, .u64, (some 0), none, 0, 0, .any, 0⟩,
  ⟨0x4400, 1, 0x07, 1, .u64, (some 0), none, 0, 0, .any, 0⟩,
  ⟨0x4400, 1, 0x08, 1, .u32, (some 0), none, 0, 0, .any, 0⟩,
  ⟨0x4400, 1, 0x09, 1, .u32, (some 0), none, 0, 0, .any, 0⟩,
  ⟨0x4400, 1, 0x0A, 1, .u32, (some 0), none, 0, 0, .any, 0⟩,
  ⟨0x4410, 1, 0x01, 1, .bool, (some 0), (some 2), 0, 0, .span 0 1, 0⟩,
  ⟨0x4410, 1, 0x02, 1, .bool, (some 0), (some 2), 0, 0, .span 0 1, 0⟩,
  ⟨0x4410, 1, 0x03, 1, .u16, (some 0), (some 2), 4460, 0, .span 1 65535, 0⟩,
  ⟨0x4410, 1, 0x04, 1, .u16, (some 0), (some 2), 256, 0, .span 1 1024, 0⟩,
  ⟨0x4410, 1, 0x05, 1, .u16, (some 0), (some 3), 0, 0, .span 0 1023, 0⟩,
  ⟨0x4410, 1, 0x06, 1, (.octet 1024), (some 0), (some 3), 0, 0, .any, 0⟩,
  ⟨0x4410, 1, 0x07, 1, (.octet 1024), (some 0), (some 3), 0, 0, .any, 0⟩,
  ⟨0x4410, 1, 0x08, 1, .u16, (some 0), (some 3), 0, 0, .span 0 1023, 0⟩,
  ⟨0x4410, 1, 0x09, 1, .u32, (some 0), (some 3), 86400, 0, .span 3600 2592000, 0⟩,
  ⟨0x4410, 1, 0x0A, 1, .u32, (some 0), none, 0, 0, .any, 0⟩,
  ⟨0x4410, 1, 0x0B, 1, .u64, (some 0), none, 0, 0, .any, 0⟩,
  ⟨0x4410, 1, 0x0C, 1, .u32, (some 0), none, 0, 0, .any, 0⟩,
  ⟨0x4410, 1, 0x0D, 1, .u32, (some 0), none, 0, 0, .any, 0⟩,
  ⟨0x4410, 1, 0x0E, 1, .u32, (some 0), none, 0, 0, .any, 0⟩]

def area44_1 : List ObjRow := [
  ⟨0x4410, 1, 0x0F, 1, .u32, (some 0), none, 0, 0, .any, 0⟩,
  ⟨0x4410, 1, 0x10, 1, .u32, (some 0), none, 0, 0, .any, 0⟩]

def area48_0 : List ObjRow := [
  ⟨0x4800, 1, 0x01, 1, .u32, (some 0), none, 4194304, 0, .any, 0⟩,
  ⟨0x4800, 1, 0x02, 1, .u32, (some 0), none, 0, 0, .any, 0⟩,
  ⟨0x4800, 1, 0x03, 1, .u32, (some 0), none, 0, 0, .any, 0⟩,
  ⟨0x4800, 1, 0x04, 1, .u32, (some 0), none, 0, 0, .any, 0⟩,
  ⟨0x4800, 1, 0x05, 1, .u32, (some 0), none, 0, 0, .any, 0⟩,
  ⟨0x4800, 1, 0x06, 1, .u64, (some 0), none, 0, 0, .any, 0⟩,
  ⟨0x4800, 1, 0x07, 1, .u64, (some 0), none, 0, 0, .any, 0⟩,
  ⟨0x4800, 1, 0x08, 1, .u32, (some 0), (some 2), 3600, 0, .span 60 86400, 0⟩,
  ⟨0x4800, 1, 0x09, 1, .u32, (some 0), (some 2), 100000, 0, .span 1 10000000, 0⟩,
  ⟨0x4800, 1, 0x0A, 1, .enum8, (some 0), (some 3), 0, 0, .span 0 1, 0⟩,
  ⟨0x4800, 1, 0x0B, 1, .u32, (some 0), (some 2), 4096, 0, .span 1 4194304, 0⟩,
  ⟨0x4800, 1, 0x0C, 1, .u32, (some 0), (some 2), 4096, 0, .span 1 4194304, 0⟩,
  ⟨0x4800, 1, 0x0D, 1, .u32, (some 0), (some 2), 600, 0, .span 0 86400, 0⟩,
  ⟨0x4800, 1, 0x0E, 1, .u32, (some 0), none, 0, 0, .any, 0⟩,
  ⟨0x4800, 1, 0x0F, 1, .u32, (some 0), none, 0, 0, .any, 0⟩,
  ⟨0x4800, 1, 0x10, 1, .u32, (some 0), none, 0, 0, .any, 0⟩,
  ⟨0x4800, 1, 0x11, 1, .u32, (some 0), none, 0, 0, .any, 0⟩,
  ⟨0x4800, 1, 0x12, 1, .u32, (some 0), none, 0, 0, .any, 0⟩,
  ⟨0x4800, 1, 0x13, 1, .u32, (some 0), none, 0, 0, .any, 0⟩,
  ⟨0x4800, 1, 0x14, 1, .u32, (some 0), (some 2), 4000, 0, .span 100 100000, 0⟩,
  ⟨0x4800, 1, 0x82, 1, .u32, (some 0), none, 0, 0, .any, 0⟩,
  ⟨0x4800, 1, 0x83, 1, .u32, (some 0), none, 0, 0, .any, 0⟩,
  ⟨0x4800, 1, 0x84, 1, .u32, (some 0), none, 0, 0, .any, 0⟩,
  ⟨0x4800, 1, 0x85, 1, .u32, (some 0), none, 0, 0, .any, 0⟩]

def area48_1 : List ObjRow := [
  ⟨0x4800, 1, 0x86, 1, .u64, (some 0), none, 0, 0, .any, 0⟩,
  ⟨0x4800, 1, 0x87, 1, .u64, (some 0), none, 0, 0, .any, 0⟩,
  ⟨0x4800, 1, 0x8E, 1, .u32, (some 0), none, 0, 0, .any, 0⟩,
  ⟨0x4800, 1, 0x8F, 1, .u32, (some 0), none, 0, 0, .any, 0⟩,
  ⟨0x4800, 1, 0x90, 1, .u32, (some 0), none, 0, 0, .any, 0⟩,
  ⟨0x4800, 1, 0x91, 1, .u32, (some 0), none, 0, 0, .any, 0⟩,
  ⟨0x4800, 1, 0x92, 1, .u32, (some 0), none, 0, 0, .any, 0⟩,
  ⟨0x4800, 1, 0x93, 1, .u32, (some 0), none, 0, 0, .any, 0⟩,
  ⟨0x4810, 1, 0x00, 1, .u8, (some 0), (some 3), 0, 0, .span 0 64, 0⟩,
  ⟨0x4810, 1, 0x01, 64, (.octet 20), (some 0), (some 3), 0, 0, .any, 0⟩,
  ⟨0x4880, 1, 0x01, 1, .u8, (some 0), none, 1, 0, .any, 0⟩,
  ⟨0x4881, 1, 0x01, 64, (.octet 40), (some 0), none, 0, 0, .any, 0⟩,
  ⟨0x4820, 4, 0x00, 1, .u8, (some 0), none, 6, 0, .any, 0⟩,
  ⟨0x4820, 4, 0x01, 1, .bool, (some 0), (some 2), 0, 0, .span 0 1, 0⟩,
  ⟨0x4820, 4, 0x02, 1, .enum8, (some 0), none, 0, 0, .any, 0⟩,
  ⟨0x4820, 4, 0x03, 1, .u64, (some 0), none, 0, 0, .any, 0⟩,
  ⟨0x4820, 4, 0x04, 1, .u64, (some 0), none, 0, 0, .any, 0⟩,
  ⟨0x4820, 4, 0x05, 1, .u32, (some 0), none, 0, 0, .any, 0⟩,
  ⟨0x4820, 4, 0x06, 1, .u32, (some 0), none, 0, 0, .any, 0⟩]

def area50_0 : List ObjRow := [
  ⟨0x5000, 1, 0x01, 1, .enum8, (some 0), none, 0, 0, .any, 0⟩,
  ⟨0x5000, 1, 0x02, 1, .u16, (some 0), none, 1, 0, .any, 0⟩,
  ⟨0x5000, 1, 0x03, 1, (.octet 56), none, (some 3), 0, 0, .any, 0⟩,
  ⟨0x5000, 1, 0x04, 1, (.octet 8), none, (some 3), 0, 0, .any, 0⟩,
  ⟨0x5000, 1, 0x05, 1, .u16, none, (some 3), 0, 0, .span 6 1023, 0⟩,
  ⟨0x5000, 1, 0x06, 1, .enum8, (some 0), none, 0, 0, .any, 0⟩,
  ⟨0x5000, 1, 0x07, 1, .u32, (some 0), none, 0, 0, .any, 0⟩,
  ⟨0x5000, 1, 0x08, 1, .u32, (some 0), none, 0, 0, .any, 0⟩,
  ⟨0x5000, 1, 0x09, 1, .bits16, (some 0), (some 1), 0, 0, .any, 0xfff0⟩,
  ⟨0x5000, 1, 0x0A, 1, .bits16, (some 0), (some 2), 0, 0, .any, 0xfff0⟩,
  ⟨0x5000, 1, 0x0B, 1, (.octet 24), none, (some 3), 0, 0, .any, 0⟩,
  ⟨0x5000, 1, 0x0C, 1, .u32, (some 0), (some 3), 600, 0, .span 0 86400, 0⟩,
  ⟨0x5001, 1, 0x01, 1, .u16, (some 0), (some 0), 0, 0, .span 0 1023, 0⟩,
  ⟨0x5001, 1, 0x02, 1, .enum8, (some 0), none, 0, 0, .any, 0⟩,
  ⟨0x5001, 1, 0x03, 1, .enum8, (some 0), none, 0, 0, .any, 0⟩,
  ⟨0x5001, 1, 0x04, 1, .u8, (some 0), none, 0, 0, .any, 0⟩,
  ⟨0x5001, 1, 0x05, 1, .enum8, (some 0), none, 0, 0, .any, 0⟩,
  ⟨0x5001, 1, 0x06, 1, .u32, (some 0), none, 0, 0, .any, 0⟩,
  ⟨0x5001, 1, 0x07, 1, .ts128, (some 0), none, 0, 0, .any, 0⟩,
  ⟨0x5001, 1, 0x08, 1, (.octet 16), (some 0), none, 0, 0, .any, 0⟩,
  ⟨0x5001, 1, 0x09, 1, .u64, (some 0), none, 0, 0, .any, 0⟩,
  ⟨0x5004, 1, 0x01, 1, (.octet 36), none, (some 1), 0, 0, .any, 0⟩,
  ⟨0x5004, 1, 0x02, 1, (.octet 188), (some 0), none, 0, 0, .any, 0⟩,
  ⟨0x5004, 1, 0x03, 1, (.octet 97), (some 0), none, 0, 0, .any, 0⟩]

def area50_1 : List ObjRow := [
  ⟨0x5004, 1, 0x04, 1, (.octet 1024), (some 0), (some 4), 0, 0, .any, 0⟩,
  ⟨0x5010, 1, 0x01, 1, (.octet 8), none, (some 3), 0, 0, .any, 0⟩,
  ⟨0x5010, 1, 0x02, 1, .enum8, (some 0), none, 0, 0, .any, 0⟩,
  ⟨0x5010, 1, 0x03, 1, .u32, (some 0), none, 0, 0, .any, 0⟩,
  ⟨0x5020, 1, 0x01, 1, .bits16, (some 0), (some 3), 240, 0, .any, 0xff00⟩,
  ⟨0x5020, 1, 0x02, 1, .bits16, (some 0), (some 3), 0, 0, .any, 0xfff0⟩,
  ⟨0x5020, 1, 0x03, 1, .u32, (some 0), (some 3), 1000, 0, .span 10 1000000, 0⟩,
  ⟨0x5020, 1, 0x04, 1, .bits16, (some 0), none, 0, 0, .any, 0⟩,
  ⟨0x5020, 1, 0x05, 1, .bits16, (some 0), (some 1), 0, 0, .any, 0xf800⟩,
  ⟨0x5020, 1, 0x06, 1, .bits16, (some 0), (some 2), 0, 0, .any, 0xf800⟩,
  ⟨0x5020, 1, 0x07, 1, .bits16, (some 0), (some 3), 0, 0, .any, 0xff00⟩,
  ⟨0x5020, 1, 0x08, 1, .bool, (some 0), (some 3), 0, 0, .span 0 1, 0⟩,
  ⟨0x5020, 1, 0x09, 1, .bool, none, (some 3), 0, 0, .span 0 1, 0⟩,
  ⟨0x5020, 1, 0x0A, 1, .u32, (some 0), none, 0, 0, .any, 0⟩,
  ⟨0x5020, 1, 0x0B, 1, .u8, (some 0), none, 1, 0, .any, 0⟩,
  ⟨0x5021, 1, 0x01, 16, (.octet 24), (some 0), none, 0, 0, .any, 0⟩,
  ⟨0x5030, 1, 0x01, 1, .bits16, (some 0), (some 4), 0, 0, .any, 0xfff0⟩,
  ⟨0x5030, 1, 0x02, 4, (.octet 48), (some 0), (some 3), 0, 0, .any, 0⟩,
  ⟨0x5030, 1, 0x06, 1, .enum8, (some 0), none, 0, 0, .any, 0⟩,
  ⟨0x5030, 1, 0x07, 1, .u32, (some 0), none, 0, 0, .any, 0⟩,
  ⟨0x5031, 1, 0x01, 6, .u32, (some 0), (some 3), 0, 0, .any, 0⟩]

def area54_0 : List ObjRow := [
  ⟨0x5400, 1, 0x01, 1, .enum8, (some 0), none, 0, 0, .any, 0⟩,
  ⟨0x5400, 1, 0x02, 1, .enum8, (some 0), none, 0, 0, .any, 0⟩,
  ⟨0x5400, 1, 0x03, 1, .u32, (some 0), (some 2), 10, 0, .span 1 3600, 0⟩,
  ⟨0x5400, 1, 0x04, 1, .u8, (some 0), (some 2), 3, 0, .span 2 255, 0⟩,
  ⟨0x5400, 1, 0x05, 1, .u32, (some 0), (some 2), 60, 0, .span 1 86400, 0⟩,
  ⟨0x5400, 1, 0x06, 1, .u16, none, (some 1), 0, 0, .any, 0⟩,
  ⟨0x5400, 1, 0x07, 1, .u16, none, (some 2), 0, 0, .any, 0⟩,
  ⟨0x5400, 1, 0x08, 1, .u16, (some 0), none, 0, 0, .any, 0⟩,
  ⟨0x5400, 1, 0x09, 1, .u32, (some 0), none, 0, 0, .any, 0⟩,
  ⟨0x5400, 1, 0x0A, 1, .u8, (some 0), none, 0, 0, .any, 0⟩,
  ⟨0x5400, 1, 0x0B, 1, .bits16, (some 0), (some 1), 0, 0, .any, 0xffe0⟩,
  ⟨0x5400, 1, 0x0C, 1, .bits16, (some 0), (some 2), 0, 0, .any, 0xffe0⟩,
  ⟨0x5401, 1, 0x01, 1, (.octet 32), (some 0), none, 0, 0, .any, 0⟩,
  ⟨0x5401, 1, 0x02, 1, (.octet 32), (some 0), none, 0, 0, .any, 0⟩,
  ⟨0x5401, 1, 0x03, 1, (.octet 32), (some 0), none, 0, 0, .any, 0⟩,
  ⟨0x5401, 1, 0x04, 1, (.octet 32), (some 0), (some 1), 0, 0, .any, 0⟩,
  ⟨0x5401, 1, 0x05, 1, (.octet 32), (some 0), (some 2), 0, 0, .any, 0⟩,
  ⟨0x5410, 1, 0x00, 1, .bits32, (some 0), (some 2), 0x3f, 0, .any, 0xffffffc0⟩,
  ⟨0x5410, 1, 0x01, 2, .bits32, (some 0), (some 2), 0x3a, 0, .any, 0xffffffc0⟩,
  ⟨0x5410, 1, 0x03, 1, .bits32, (some 0), (some 2), 0x3f, 0, .any, 0xffffffc0⟩,
  ⟨0x5410, 1, 0x04, 1, .bits32, (some 0), (some 2), 0x3a, 0, .any, 0xffffffc0⟩,
  ⟨0x5410, 1, 0x05, 1, .bits32, (some 0), (some 2), 0x39, 0, .any, 0xffffffc0⟩,
  ⟨0x5410, 1, 0x06, 1, .bits32, (some 0), (some 2), 0x3a, 0, .any, 0xffffffc0⟩,
  ⟨0x5410, 1, 0x08, 8, .bits32, (some 0), (some 2), 0x39, 0, .any, 0xffffffc0⟩]

def area54_1 : List ObjRow := [
  ⟨0x5410, 1, 0x10, 16, .bits32, (some 0), (some 2), 0x38, 0, .any, 0xffffffc0⟩,
  ⟨0x5410, 1, 0x20, 64, .bits32, (some 0), (some 2), 0x39, 0, .any, 0xffffffc0⟩,
  ⟨0x5410, 1, 0x60, 1, .bits32, (some 0), (some 2), 0x3a, 0, .any, 0xffffffc0⟩,
  ⟨0x5410, 1, 0x61, 1, .bits32, (some 0), (some 2), 0x39, 0, .any, 0xffffffc0⟩,
  ⟨0x5410, 1, 0x62, 2, .bits32, (some 0), (some 2), 0x38, 0, .any, 0xffffffc0⟩,
  ⟨0x5410, 1, 0x68, 22, .bits32, (some 0), (some 2), 0x38, 0, .any, 0xffffffc0⟩,
  ⟨0x5410, 1, 0x7E, 38, .bits32, (some 0), (some 2), 0x39, 0, .any, 0xffffffc0⟩,
  ⟨0x5410, 1, 0xA4, 16, .bits32, (some 0), (some 2), 0x38, 0, .any, 0xffffffc0⟩,
  ⟨0x5410, 1, 0xB4, 6, .bits32, (some 0), (some 2), 0x39, 0, .any, 0xffffffc0⟩,
  ⟨0x5410, 1, 0xBA, 2, .bits32, (some 0), (some 2), 0x38, 0, .any, 0xffffffc0⟩,
  ⟨0x5410, 1, 0xC0, 2, .bits32, (some 0), (some 2), 0x3a, 0, .any, 0xffffffc0⟩,
  ⟨0x5410, 1, 0xC2, 1, .bits32, (some 0), (some 2), 0x38, 0, .any, 0xffffffc0⟩,
  ⟨0x5410, 1, 0xC8, 1, .bits32, (some 0), (some 2), 0x3a, 0, .any, 0xffffffc0⟩,
  ⟨0x5410, 1, 0xC9, 1, .bits32, (some 0), (some 2), 0x39, 0, .any, 0xffffffc0⟩,
  ⟨0x5410, 1, 0xCA, 1, .bits32, (some 0), (some 2), 0x3a, 0, .any, 0xffffffc0⟩,
  ⟨0x5410, 1, 0xCB, 2, .bits32, (some 0), (some 2), 0x39, 0, .any, 0xffffffc0⟩,
  ⟨0x5410, 1, 0xCD, 1, .bits32, (some 0), (some 2), 0x38, 0, .any, 0xffffffc0⟩,
  ⟨0x5410, 1, 0xCE, 1, .bits32, (some 0), (some 2), 0x39, 0, .any, 0xffffffc0⟩,
  ⟨0x5410, 1, 0xD0, 4, .bits32, (some 0), (some 2), 0x3a, 0, .any, 0xffffffc0⟩,
  ⟨0x5410, 1, 0xD4, 1, .bits32, (some 0), (some 2), 0x38, 0, .any, 0xffffffc0⟩,
  ⟨0x5410, 1, 0xD5, 1, .bits32, (some 0), (some 2), 0x3a, 0, .any, 0xffffffc0⟩,
  ⟨0x5410, 1, 0xD6, 1, .bits32, (some 0), (some 2), 0x38, 0, .any, 0xffffffc0⟩,
  ⟨0x5410, 1, 0xD7, 1, .bits32, (some 0), (some 2), 0x3a, 0, .any, 0xffffffc0⟩,
  ⟨0x5410, 1, 0xD8, 1, .bits32, (some 0), (some 2), 0x38, 0, .any, 0xffffffc0⟩]

def area54_2 : List ObjRow := [
  ⟨0x5410, 1, 0xD9, 3, .bits32, (some 0), (some 2), 0x3a, 0, .any, 0xffffffc0⟩,
  ⟨0x5410, 1, 0xE0, 32, .bits32, (some 0), (some 2), 0x39, 0, .any, 0xffffffc0⟩,
  ⟨0x5440, 1, 0x00, 256, (.octet 32), (some 0), none, 0, 0, .any, 0⟩,
  ⟨0x5450, 1, 0x01, 3, .u32, (some 0), (some 2), 1000, 0, .orElse 0 10 60000, 0⟩,
  ⟨0x5450, 1, 0x04, 1, .u32, (some 0), (some 2), 0, 0, .orElse 0 10 60000, 0⟩,
  ⟨0x5420, 1, 0x01, 1, .u16, (some 0), (some 0), 0, 0, .span 0 255, 0⟩,
  ⟨0x5420, 1, 0x02, 1, .enum8, (some 0), none, 0, 0, .any, 0⟩,
  ⟨0x5420, 1, 0x03, 1, .enum8, (some 0), none, 0, 0, .any, 0⟩,
  ⟨0x5420, 1, 0x04, 1, .enum8, (some 0), none, 0, 0, .any, 0⟩,
  ⟨0x5420, 1, 0x05, 1, .u32, (some 0), none, 0, 0, .any, 0⟩,
  ⟨0x5420, 1, 0x06, 1, .u32, (some 0), none, 0, 0, .any, 0⟩,
  ⟨0x5420, 1, 0x07, 1, .ts128, (some 0), none, 0, 0, .any, 0⟩,
  ⟨0x5420, 1, 0x08, 1, .ts128, (some 0), none, 0, 0, .any, 0⟩,
  ⟨0x5420, 1, 0x09, 1, .u32, (some 0), none, 0, 0, .any, 0⟩,
  ⟨0x5420, 1, 0x0A, 1, .u32, (some 0), none, 0, 0, .any, 0⟩,
  ⟨0x5420, 1, 0x0B, 1, .u32, (some 0), none, 0, 0, .any, 0⟩,
  ⟨0x5420, 1, 0x0C, 1, .ts128, (some 0), none, 0, 0, .any, 0⟩,
  ⟨0x5420, 1, 0x0D, 1, .bits16, (some 0), none, 0, 0, .any, 0xffe0⟩,
  ⟨0x5480, 32, 0x00, 1, .u8, (some 0), none, 11, 0, .any, 0⟩,
  ⟨0x5480, 32, 0x01, 1, .bool, (some 0), (some 2), 0, 0, .span 0 1, 0⟩,
  ⟨0x5480, 32, 0x02, 1, .u8, (some 0), (some 2), 0, 0, .any, 0⟩,
  ⟨0x5480, 32, 0x03, 1, .enum8, (some 0), (some 2), 4, 0, .span 1 4, 0⟩,
  ⟨0x5480, 32, 0x04, 1, .enum8, (some 0), (some 2), 0, 0, .span 0 3, 0⟩,
  ⟨0x5480, 32, 0x05, 1, .u8, (some 0), (some 2), 0, 0, .any, 0⟩]

def area54_3 : List ObjRow := [
  ⟨0x5480, 32, 0x06, 1, .u32, (some 0), (some 2), 1000, 0, .span 0 600000, 0⟩,
  ⟨0x5480, 32, 0x07, 1, (.octet 32), (some 0), (some 2), 0, 0, .any, 0⟩,
  ⟨0x5480, 32, 0x08, 1, .u32, (some 0), none, 0, 0, .any, 0⟩,
  ⟨0x5480, 32, 0x09, 1, .ts128, (some 0), none, 0, 0, .any, 0⟩,
  ⟨0x5480, 32, 0x0A, 1, .u32, (some 0), none, 0, 0, .any, 0⟩,
  ⟨0x5480, 32, 0x0B, 1, .u32, (some 0), none, 0, 0, .any, 0⟩]

def area58_0 : List ObjRow := [
  ⟨0x5800, 1, 0x01, 1, .bool, (some 0), (some 2), 0, 0, .span 0 1, 0⟩,
  ⟨0x5800, 1, 0x02, 1, .bool, (some 0), (some 2), 0, 0, .span 0 1, 0⟩,
  ⟨0x5801, 1, 0x01, 1, .bits32, (some 2), (some 1), 0, 0, .any, 0⟩,
  ⟨0x5801, 1, 0x02, 1, .bits32, (some 2), (some 1), 0, 0, .any, 0⟩,
  ⟨0x5801, 1, 0x03, 1, .bits32, (some 0), (some 2), 0, 0, .any, 0⟩,
  ⟨0x5801, 1, 0x04, 1, .bits32, (some 0), (some 2), 0, 0, .any, 0⟩,
  ⟨0x5801, 1, 0x05, 1, .bits32, none, (some 2), 0, 0, .any, 0⟩,
  ⟨0x5801, 1, 0x06, 1, .bits32, none, (some 2), 0, 0, .any, 0⟩,
  ⟨0x5801, 1, 0x81, 1, .bits32, (some 2), none, 0, 0, .any, 0⟩,
  ⟨0x5801, 1, 0x82, 1, .bits32, (some 2), none, 0, 0, .any, 0⟩,
  ⟨0x5810, 64, 0x00, 1, .u8, (some 0), none, 133, 0, .any, 0⟩,
  ⟨0x5810, 64, 0x01, 1, .bool, (some 0), (some 2), 0, 0, .span 0 1, 0⟩,
  ⟨0x5810, 64, 0x02, 1, .u16, (some 0), (some 2), 0, 0, .any, 0⟩,
  ⟨0x5810, 64, 0x03, 1, .enum8, (some 0), (some 2), 0, 0, .span 0 1, 0⟩,
  ⟨0x5810, 64, 0x04, 1, .u32, (some 0), (some 2), 0, 0, .any, 0⟩,
  ⟨0x5810, 64, 0x05, 1, .u64, (some 2), none, 0, 0, .any, 0⟩,
  ⟨0x5810, 64, 0x85, 1, .u64, (some 2), none, 0, 0, .any, 0⟩]

def area5C_0 : List ObjRow := [
  ⟨0x5C00, 1, 0x01, 1, .bool, (some 0), (some 2), 0, 0, .span 0 1, 0⟩,
  ⟨0x5C00, 1, 0x02, 1, .enum8, (some 0), none, 0, 0, .any, 0⟩,
  ⟨0x5C00, 1, 0x03, 1, .u8, (some 0), (some 2), 128, 0, .span 0 255, 0⟩,
  ⟨0x5C00, 1, 0x04, 1, .bool, (some 0), (some 2), 0, 0, .span 0 1, 0⟩,
  ⟨0x5C00, 1, 0x05, 1, .bool, (some 0), (some 2), 0, 0, .span 0 1, 0⟩,
  ⟨0x5C00, 1, 0x06, 1, .u32, (some 0), (some 2), 10, 0, .span 0 600, 0⟩,
  ⟨0x5C00, 1, 0x07, 1, .u32, (some 0), (some 2), 1200, 0, .span 600 10000, 0⟩,
  ⟨0x5C00, 1, 0x08, 1, .u32, (some 0), (some 2), 20, 0, .span 10 1000, 0⟩,
  ⟨0x5C00, 1, 0x09, 1, .u32, (some 0), (some 2), 500, 0, .span 100 900, 0⟩,
  ⟨0x5C00, 1, 0x0A, 1, .bits16, (some 0), (some 1), 0, 0, .any, 0xe000⟩,
  ⟨0x5C00, 1, 0x0B, 1, .bits16, (some 0), (some 2), 0, 0, .any, 0xe000⟩,
  ⟨0x5C00, 1, 0x0C, 1, .bool, (some 0), none, 0, 0, .any, 0⟩,
  ⟨0x5C00, 1, 0x0D, 1, .u32, (some 0), none, 0, 0, .any, 0⟩,
  ⟨0x5C00, 1, 0x0E, 1, .ts128, (some 0), none, 0, 0, .any, 0⟩,
  ⟨0x5C00, 1, 0x0F, 1, .u32, (some 0), none, 0, 0, .any, 0⟩,
  ⟨0x5C00, 1, 0x10, 1, .enum8, (some 0), none, 0, 0, .any, 0⟩,
  ⟨0x5C00, 1, 0x11, 1, .u64, (some 0), none, 0, 0, .any, 0⟩,
  ⟨0x5C00, 1, 0x12, 1, .ts128, (some 0), none, 0, 0, .any, 0⟩,
  ⟨0x5C01, 1, 0x01, 1, .enum8, (some 0), none, 0, 0, .any, 0⟩,
  ⟨0x5C01, 1, 0x02, 1, .bits16, (some 0), none, 0, 0, .any, 0⟩,
  ⟨0x5C01, 1, 0x03, 1, .u32, (some 0), none, 0, 0, .any, 0⟩,
  ⟨0x5C01, 1, 0x04, 1, .u32, (some 0), none, 0, 0, .any, 0⟩,
  ⟨0x5C01, 1, 0x05, 1, .u32, (some 0), none, 0, 0, .any, 0⟩,
  ⟨0x5C01, 1, 0x06, 1, .u32, (some 0), none, 0, 0, .any, 0⟩]

def area5C_1 : List ObjRow := [
  ⟨0x5C01, 1, 0x07, 1, .u32, (some 0), none, 0, 0, .any, 0⟩,
  ⟨0x5C02, 1, 0x01, 1, .u64, (some 0), none, 0, 0, .any, 0⟩,
  ⟨0x5C02, 1, 0x02, 1, .u64, (some 0), none, 0, 0, .any, 0⟩,
  ⟨0x5C02, 1, 0x03, 1, (.octet 16), (some 0), none, 0, 0, .any, 0⟩,
  ⟨0x5C02, 1, 0x04, 1, .u64, (some 0), none, 0, 0, .any, 0⟩,
  ⟨0x5C02, 1, 0x05, 1, .u32, (some 0), none, 0, 0, .any, 0⟩,
  ⟨0x5C03, 1, 0x01, 1, .i64, (some 0), none, 0, 0, .any, 0⟩,
  ⟨0x5C03, 1, 0x02, 1, .i64, (some 0), none, 0, 0, .any, 0⟩,
  ⟨0x5C03, 1, 0x03, 1, .u32, (some 0), (some 2), 3000, 0, .span 0 8000, 0⟩,
  ⟨0x5C03, 1, 0x04, 1, .enum8, (some 0), none, 0, 0, .any, 0⟩,
  ⟨0x5C03, 1, 0x05, 1, .u64, (some 0), none, 0, 0, .any, 0⟩,
  ⟨0x5C04, 1, 0x01, 1, .bits32, (some 0), (some 2), 0, 0, .any, 0⟩,
  ⟨0x5C04, 1, 0x02, 1, .bits16, (some 0), (some 2), 0, 0, .any, 0xff00⟩,
  ⟨0x5C04, 1, 0x03, 1, .bits16, (some 0), (some 2), 0, 0, .any, 0xfffc⟩,
  ⟨0x5C04, 1, 0x04, 1, .u32, (some 0), none, 0, 0, .any, 0⟩,
  ⟨0x5C04, 1, 0x05, 1, .u32, (some 0), none, 0, 0, .any, 0⟩,
  ⟨0x5C04, 1, 0x06, 1, .u32, (some 0), none, 0, 0, .any, 0⟩,
  ⟨0x5C05, 1, 0x01, 1, .u32, (some 0), none, 0, 0, .any, 0⟩,
  ⟨0x5C05, 1, 0x02, 1, .u32, (some 0), none, 0, 0, .any, 0⟩,
  ⟨0x5C06, 1, 0x01, 1, .enum8, (some 0), none, 0, 0, .any, 0⟩,
  ⟨0x5C06, 1, 0x02, 1, .u32, (some 0), none, 0, 0, .any, 0⟩,
  ⟨0x5C06, 1, 0x03, 1, .u32, (some 0), none, 0, 0, .any, 0⟩,
  ⟨0x5C06, 1, 0x04, 1, .u16, (some 0), (some 2), 1024, 0, .span 128 1024, 0⟩,
  ⟨0x5C06, 1, 0x05, 1, .u32, (some 0), (some 2), 400, 0, .span 100 4000, 0⟩]

def area5C_2 : List ObjRow := [
  ⟨0x5C07, 1, 0x01, 1, .ts128, none, (some 2), 0, 0, .any, 0⟩,
  ⟨0x5C07, 1, 0x02, 1, .enum8, (some 0), none, 0, 0, .any, 0⟩]

def area60_0 : List ObjRow := [
  ⟨0x6000, 1, 0x01, 4, .enum8, (some 0), none, 0, 0, .any, 0⟩,
  ⟨0x6000, 1, 0x05, 4, .u32, (some 0), none, 0, 0, .any, 0⟩,
  ⟨0x6001, 1, 0x01, 1, .u32, (some 0), (some 2), 16, 0, .span 0 4096, 0⟩,
  ⟨0x6001, 1, 0x02, 1, .enum8, (some 0), (some 3), 1, 0, .span 0 2, 0⟩,
  ⟨0x6010, 10, 0x00, 1, .u8, (some 0), (some 2), 8, 0, .span 0 15, 0⟩,
  ⟨0x6010, 10, 0x01, 2, .u8, (some 0), (some 2), 7, 0, .span 0 15, 0⟩,
  ⟨0x6010, 10, 0x03, 1, .u8, (some 0), (some 2), 5, 0, .span 0 15, 0⟩,
  ⟨0x6010, 10, 0x04, 1, .u8, (some 0), (some 2), 14, 0, .span 0 15, 0⟩,
  ⟨0x6010, 10, 0x05, 4, .u8, (some 0), (some 2), 12, 0, .span 0 15, 0⟩,
  ⟨0x6010, 10, 0x09, 2, .u8, (some 0), (some 2), 6, 0, .span 0 15, 0⟩,
  ⟨0x6010, 10, 0x0B, 1, .u8, (some 0), (some 2), 11, 0, .span 0 15, 0⟩,
  ⟨0x6010, 10, 0x0C, 1, .u8, (some 0), (some 2), 13, 0, .span 0 15, 0⟩,
  ⟨0x6010, 10, 0x0D, 1, .u8, (some 0), (some 2), 15, 0, .span 0 15, 0⟩,
  ⟨0x6020, 1, 0x01, 1, .u32, (some 0), (some 2), 4096, 0, .span 256 65536, 0⟩,
  ⟨0x6020, 1, 0x02, 1, .u32, (some 0), none, 0, 0, .any, 0⟩,
  ⟨0x6020, 1, 0x03, 1, .u32, (some 0), none, 0, 0, .any, 0⟩,
  ⟨0x6020, 1, 0x04, 1, .u32, (some 0), none, 0, 0, .any, 0⟩,
  ⟨0x6020, 1, 0x05, 1, .u64, (some 0), none, 0, 0, .any, 0⟩,
  ⟨0x6030, 1, 0x01, 1, .bits16, (some 0), none, 0, 0, .any, 0⟩,
  ⟨0x6030, 1, 0x02, 1, .u32, (some 0), none, 0, 0, .any, 0⟩,
  ⟨0x6030, 1, 0x03, 1, .enum8, (some 0), (some 2), 2, 0, .span 0 2, 0⟩,
  ⟨0x6030, 1, 0x04, 1, .u32, (some 0), (some 2), 24, 0, .span 1 168, 0⟩,
  ⟨0x6030, 1, 0x05, 1, .u32, (some 0), none, 0, 0, .any, 0⟩,
  ⟨0x6030, 1, 0x06, 1, .u32, (some 0), none, 0, 0, .any, 0⟩]

def area60_1 : List ObjRow := [
  ⟨0x6030, 1, 0x07, 1, .u32, (some 0), none, 0, 0, .any, 0⟩,
  ⟨0x6030, 1, 0x08, 1, .u32, (some 0), none, 0, 0, .any, 0⟩]

def area64_0 : List ObjRow := [
  ⟨0x6400, 1, 0x01, 1, .u32, (some 0), none, 0, 0, .any, 0⟩,
  ⟨0x6400, 1, 0x02, 1, .enum8, (some 0), none, 0, 0, .any, 0⟩,
  ⟨0x6400, 1, 0x03, 1, .u32, (some 0), none, 0, 0, .any, 0⟩,
  ⟨0x6400, 1, 0x04, 1, .u32, (some 0), none, 0, 0, .any, 0⟩,
  ⟨0x6400, 1, 0x05, 1, (.octet 16), (some 0), none, 0, 0, .any, 0⟩,
  ⟨0x6400, 1, 0x06, 1, .u16, (some 0), none, 0, 0, .any, 0⟩,
  ⟨0x6400, 1, 0x07, 1, .u16, (some 0), none, 65535, 0, .any, 0⟩,
  ⟨0x6401, 1, 0x01, 1, .i32, (some 0), none, 0, 0, .any, 0⟩,
  ⟨0x6401, 1, 0x02, 1, .i32, (some 0), none, 0, 0, .any, 0⟩,
  ⟨0x6401, 1, 0x03, 1, .u32, (some 0), none, 0, 0, .any, 0⟩,
  ⟨0x6401, 1, 0x04, 1, .u32, (some 0), none, 0, 0, .any, 0⟩,
  ⟨0x6401, 1, 0x05, 1, .u32, (some 0), none, 0, 0, .any, 0⟩,
  ⟨0x6402, 1, 0x01, 1, .bool, none, (some 2), 0, 0, .span 0 1, 0⟩]

/-- The rows of the index area whose indices begin with the byte a (Table 2-2). -/
def area (a : Nat) : List ObjRow :=
  if a = 0x10 then area10_0 ++ area10_1
  else if a = 0x11 then area11_0
  else if a = 0x12 then area12_0
  else if a = 0x1F then area1F_0 ++ area1F_1
  else if a = 0x20 then area20_0 ++ area20_1
  else if a = 0x21 then area21_0 ++ area21_1
  else if a = 0x22 then area22_0 ++ area22_1 ++ area22_2 ++ area22_3
  else if a = 0x24 then area24_0 ++ area24_1 ++ area24_2
  else if a = 0x26 then area26_0 ++ area26_1 ++ area26_2
  else if a = 0x28 then area28_0 ++ area28_1 ++ area28_2
  else if a = 0x2A then area2A_0 ++ area2A_1
  else if a = 0x30 then area30_0 ++ area30_1 ++ area30_2 ++ area30_3
  else if a = 0x31 then area31_0
  else if a = 0x34 then area34_0 ++ area34_1 ++ area34_2 ++ area34_3
  else if a = 0x35 then area35_0
  else if a = 0x38 then area38_0 ++ area38_1 ++ area38_2
  else if a = 0x39 then area39_0
  else if a = 0x40 then area40_0 ++ area40_1 ++ area40_2
  else if a = 0x44 then area44_0 ++ area44_1
  else if a = 0x48 then area48_0 ++ area48_1
  else if a = 0x50 then area50_0 ++ area50_1
  else if a = 0x54 then area54_0 ++ area54_1 ++ area54_2 ++ area54_3
  else if a = 0x58 then area58_0
  else if a = 0x5C then area5C_0 ++ area5C_1 ++ area5C_2
  else if a = 0x60 then area60_0 ++ area60_1
  else if a = 0x64 then area64_0
  else []

/-- The row of the object of key k, none where no object has it (R11). -/
def row? (k : Nat) : Option ObjRow := (area (k / 65536)).find? (·.holds k)

end Dict

/-- The default of an object (R46): 0 where the table gives none. -/
def Od.dflt (k : Nat) : Int :=
  match Dict.row? k with
  | some r => r.dflt + (k / 256 - r.base : Nat) * r.dinc
  | none => 0

end Sys2Proof.Machine
end

