-- ==== Sys2Proof/Machine/Flags.lean ====
section
/-! DEFINITION. The computations on numbers and bit maps that the rules share: rounding, clamping, square roots, bit maps
of objects, and the conversions between TS128 values and the units the model computes in. -/

namespace Sys2Proof.Machine

/-! ### Bit maps -/

/-- The number with bit i set. -/
def setBit (n i : Nat) : Nat := n ||| (1 <<< i)

/-- The number with bit i cleared. -/
def clrBit (n i : Nat) : Nat := if n.testBit i then n - (1 <<< i) else n

/-- The bits of n that m does not have. -/
def bitsWithout (n m : Nat) : Nat := n - (n &&& m)

/-- The number with bit i as b says. -/
def putBit (n i : Nat) (b : Bool) : Nat := if b then setBit n i else clrBit n i

/-- Bits lo + w - 1 … lo of n. -/
def field (n lo w : Nat) : Nat := (n >>> lo) % 2 ^ w

/-- The place of source s in a 32-octet bit map: bit (s mod 8) of byte (s div 8), byte 0 first (R490). -/
def sourceBit (s : Nat) : Nat := (31 - s / 8) * 8 + s % 8

/-! ### Numbers -/

/-- The value kept within lo … hi. -/
def clamp (lo hi x : Int) : Int := if x < lo then lo else if hi < x then hi else x

/-- a / b rounded to the nearest integer, halves away from zero. -/
def rdiv (a b : Int) : Int :=
  if b = 0 then 0
  else
    let n := a.natAbs
    let d := b.natAbs
    let q : Int := ((2 * n + d) / (2 * d) : Nat)
    if (a < 0) = (b < 0) then q else -q

/-- a / b rounded up, for numbers that are not negative. -/
def cdiv (a b : Nat) : Nat := (a + b - 1) / b

/-- One step of the square root: the bit i is kept where the square stays at most n. -/
def sqrtBit (n r i : Nat) : Nat := if (r + 2 ^ i) * (r + 2 ^ i) ≤ n then r + 2 ^ i else r

/-- The bits of the square root from bit k - 1 down to bit 0. -/
def sqrtFrom (n : Nat) : Nat → Nat → Nat
  | 0, r => r
  | k + 1, r => sqrtFrom n k (sqrtBit n r k)

/-- The greatest number whose square is at most n, for n below 2^512. -/
def isqrt (n : Nat) : Nat := sqrtFrom n (n.log2 / 2 + 1) 0

/-- The least number whose square is at least n. -/
def csqrt (n : Nat) : Nat := let r := isqrt n; if r * r = n then r else r + 1

/-- 2^64 - 1, at which bounds saturate (SAT, chapter 7). -/
def sat64 : Nat := 0xFFFFFFFFFFFFFFFF

/-- 2^32 - 1. -/
def sat32 : Nat := 0xFFFFFFFF

/-- Nearest value of 64 bits, for a quantity an I64 object carries. -/
def toI64 (x : Int) : Int := clamp (-0x8000000000000000) 0x7FFFFFFFFFFFFFFF x

/-- The sum of a list of numbers. -/
def sumN (l : List Nat) : Nat := l.foldl (· + ·) 0

/-- The sum of a list of integers. -/
def sumI (l : List Int) : Int := l.foldl (· + ·) 0

/-- The greatest of a list of numbers, 0 where it is empty. -/
def maxN (l : List Nat) : Nat := l.foldl max 0

/-! ### Time (R87): the model computes in 2^-32 ns -/

/-- Units of 2^-32 ns to the second. -/
def second : Int := 4294967296000000000

/-- CNT ticks to the second (R562), to the millisecond and to the microsecond. -/
def ticksPerSec : Nat := 625000000
def ticksPerMs : Nat := 625000
def ticksPerUs : Nat := 625

/-- The TS128 value, as the number its 16 octets make, of a time in 2^-32 ns (R87). -/
def tsNum (x : Int) : Nat :=
  let n := x.toNat
  let ns := n / 4294967296
  ns / 1000000000 * 2 ^ 64 + ns % 1000000000 * 2 ^ 32 + n % 4294967296

/-- The time in 2^-32 ns of a TS128 value held as a number. -/
def tsTime (n : Nat) : Int :=
  ((n / 2 ^ 64 * 1000000000 + n / 2 ^ 32 % 2 ^ 32) * 2 ^ 32 + n % 2 ^ 32 : Nat)

/-- The nanosecond field of a TS128 value held as a number. -/
def tsNs (n : Nat) : Nat := n / 2 ^ 32 % 2 ^ 32

/-- A quantity in 2^-16 ns as one in 2^-32 ns. -/
def fine16 (x : Int) : Int := x * 65536

/-- A quantity in 2^-32 ns as one in 2^-16 ns, to the nearest. -/
def to16 (x : Int) : Int := rdiv x 65536

/-- An instant in 2^-16 tick as a carried time: Tick and Fine (R205). -/
def carried (x : Int) : Nat × Nat := (x.toNat / 65536, x.toNat % 65536)

/-! ### Octets -/

/-- The number that octets make, most significant first (R12). -/
def beNat (bs : List Byte) : Nat := bs.foldl (fun a b => a * 256 + b.toNat) 0

/-- The n octets of a number, most significant first. -/
def beBytes : Nat → Nat → List Byte
  | 0, _ => []
  | n + 1, v => BitVec.ofNat 8 (v / 256 ^ n) :: beBytes n v

/-- The n octets of a number, least significant first, as memory holds values (R12). -/
def leBytes : Nat → Nat → List Byte
  | 0, _ => []
  | n + 1, v => BitVec.ofNat 8 v :: leBytes n (v / 256)

/-- The 16 octets of a TS128 (R87) in a little-endian record: its seconds, nanoseconds and fraction in this order, each least
significant octet first in its place (DESIGN CHOICE, log entry 84: R12 gives no order of the fields). -/
def leTs128 (v : Nat) : List Byte := leBytes 8 (v / 2 ^ 64) ++ leBytes 4 (v / 2 ^ 32) ++ leBytes 4 v

/-- A number of w bits in two's complement, as the octets of an object value carry it. -/
def twos (w : Nat) (x : Int) : Nat := (x % (2 ^ w : Nat)).toNat

/-- The integer that w bits of two's complement stand for. -/
def untwos (w n : Nat) : Int := if n < 2 ^ (w - 1) then (n : Int) else (n : Int) - (2 ^ w : Nat)

/-- One octet of the CRC-16 of R71: polynomial 0x1021, no reflection. -/
def crcBits : Nat → Nat → Nat
  | 0, c => c
  | k + 1, c =>
    let s := c * 2
    crcBits k (if c.testBit 15 then ((s ^^^ 0x1021) % 65536) else s % 65536)

/-- One octet of CRC-32C: the polynomial 0x1EDC6F41, reflected. -/
def crc32cBits : Nat → Nat → Nat
  | 0, c => c
  | n + 1, c => crc32cBits n (if c % 2 = 1 then (c / 2) ^^^ 0x82F63B78 else c / 2)

/-- CRC-32C of octets (R448): as the name stands for it, reflected, initial value and final XOR 0xFFFFFFFF (PRESUMED, log entry 90). -/
def crc32c (bs : List Byte) : Nat := bs.foldl (fun c b => crc32cBits 8 (c ^^^ b.toNat)) 0xFFFFFFFF ^^^ 0xFFFFFFFF

/-- The CRC-16 of R71: initial value 0xFFFF, no final XOR. -/
def crc16 (bs : List Byte) : Nat := bs.foldl (fun c b => crcBits 8 (c ^^^ (b.toNat * 256))) 0xFFFF

end Sys2Proof.Machine
end

