-- ==== Sys2Proof/Machine/Operands.lean ====
section
/-! DEFINITION. Object values as octets (Table 2-1), the checks of a value (R48 checks 4, 5, 6 and 7) and the status
codes (Table 2-6). An object's value is held as one integer: a signed type as itself, a bit map and an octet string as
the number its octets make, a TS128 as the number of its 16 octets, a string as that number with an octet 01 before it,
so that its length shows. -/

namespace Sys2Proof.Machine

/-- The status codes of Table 2-6. -/
inductive Status where
  | ok | noObject | accessMode | accessDenied | typeMismatch | length | range | reservedBits | state | busy
  | stageFull | noStage | tooLate | scheduleFull | subLimit | malformed | aborted | unknownOp
  deriving DecidableEq, Repr

/-- The code of a status. -/
def Status.code : Status → Nat
  | .ok => 0 | .noObject => 1 | .accessMode => 2 | .accessDenied => 3 | .typeMismatch => 4 | .length => 5
  | .range => 6 | .reservedBits => 7 | .state => 8 | .busy => 9 | .stageFull => 10 | .noStage => 11
  | .tooLate => 12 | .scheduleFull => 13 | .subLimit => 14 | .malformed => 15 | .aborted => 16 | .unknownOp => 17

/-- The wire code of a type (Table 2-1). -/
def ObjType.wire : ObjType → Nat
  | .bool => 1 | .u8 => 2 | .u16 => 3 | .u32 => 4 | .u64 => 5 | .i32 => 6 | .i64 => 7 | .enum8 => 8
  | .bits16 => 9 | .bits32 => 10 | .ts128 => 11 | .octet _ => 14 | .string _ => 15

/-- The octets of a value of the type; of a string, the greatest number. -/
def ObjType.size : ObjType → Nat
  | .bool => 1 | .u8 => 1 | .u16 => 2 | .u32 => 4 | .u64 => 8 | .i32 => 4 | .i64 => 8 | .enum8 => 1
  | .bits16 => 2 | .bits32 => 4 | .ts128 => 16 | .octet n => n | .string n => n

/-- The length of a string held with its leading 01 octet. -/
def strLen (v : Nat) : Nat := v.log2 / 8

/-- The octets of a value (R47). -/
def ObjType.enc : ObjType → Int → List Byte
  | .i32, v => beBytes 4 (twos 32 v)
  | .i64, v => beBytes 8 (twos 64 v)
  | .string _, v => beBytes (strLen v.toNat) v.toNat
  | ty, v => beBytes ty.size v.toNat

/-- The value of octets of the right length (R47). -/
def ObjType.dec : ObjType → List Byte → Int
  | .i32, bs => untwos 32 (beNat bs)
  | .i64, bs => untwos 64 (beNat bs)
  | .string _, bs => (256 ^ bs.length + beNat bs : Nat)
  | _, bs => (beNat bs : Nat)

/-- Check 5 of R48: the length a write of the type must have. -/
def ObjType.lengthOk : ObjType → Nat → Bool
  | .string n, l => l ≤ n
  | ty, l => l == ty.size

/-- The octets a value takes in a staged set. -/
def ObjType.lenOf : ObjType → Int → Nat
  | .string _, v => strLen v.toNat
  | ty, _ => ty.size

/-- Whether the type can hold the value at all (Table 2-1; R87 for TS128). -/
def ObjType.fits : ObjType → Int → Bool
  | .bool, v => v == 0 || v == 1
  | .u8, v => 0 ≤ v && v < 256
  | .enum8, v => 0 ≤ v && v < 256
  | .u16, v => 0 ≤ v && v < 65536
  | .bits16, v => 0 ≤ v && v < 65536
  | .u32, v => 0 ≤ v && v < 4294967296
  | .bits32, v => 0 ≤ v && v < 4294967296
  | .u64, v => 0 ≤ v && v < 18446744073709551616
  | .i32, v => -2147483648 ≤ v && v < 2147483648
  | .i64, v => -9223372036854775808 ≤ v && v < 9223372036854775808
  | .ts128, v => 0 ≤ v && v < 2 ^ 128 && tsNs v.toNat < 1000000000
  | .octet n, v => 0 ≤ v && v < 256 ^ n
  | .string n, v => 1 ≤ v && strLen v.toNat ≤ n

/-- Whether the range of a row holds the value. -/
def Rng.holds : Rng → Int → Bool
  | .any, _ => true
  | .span lo hi, v => lo ≤ v && v ≤ hi
  | .list vs, v => vs.contains v
  | .orElse a lo hi, v => v == a || (lo ≤ v && v ≤ hi)
  | .pow2 lo hi, v => lo ≤ v && v ≤ hi && v == (2 ^ v.toNat.log2 : Nat)
  | .aligned n, v => v % n == 0

/-- Checks 6 and 7 of R48 for a value of the row. -/
def ObjRow.valueCheck (r : ObjRow) (v : Int) : Status :=
  if !(r.typ.fits v && r.rng.holds v) then .range
  else if v.toNat &&& r.resv ≠ 0 then .reservedBits
  else .ok

/-- Whether every access to the object is of one chip only (R53): the areas and objects marked Local. -/
def Od.isLocal (k : Nat) : Bool :=
  let i := k / 256
  let a := k / 65536
  a == 0x11 || a == 0x12 || a == 0x5C || a == 0x64            -- R53
  || a == 0x38 || a == 0x39 || a == 0x50 || a == 0x54 || a == 0x58   -- R346, R441, R497
  || (a == 0x60 && i != 0x6001)                                -- R523
  || i == 0x3002 || i == 0x3003 || (0x3010 ≤ i && i < 0x3014)    -- R287
  || ((i == 0x3040 || i == 0x3041) && 0x0D ≤ k % 256 && k % 256 ≤ 0x15)        -- R287: the position objects, R279 and R280
  || i == 0x1F10 || i == 0x1F11                                -- R539
  || k == Od.journalQueryId || k == Od.schedQueryEntry         -- R53, R313
  || i == 0x1021                                               -- Table 2-3
  || i == 0x2400 || i == 0x2401 || i == 0x2410 || i == 0x2411 || i == 0x2420   -- R200
  || (i / 8 == 0x2A00 / 8 && k % 256 == 0x0D) || k == Od.pairAlignTerm         -- R257
  || i == 0x3410 || i == 0x3411                                -- chapter 11: ports 16 and 17
  || k == Od.ntsKeCertSlot || k == Od.ntsKeCertChain || k == Od.ntsKeCertChain2   -- R414

/-! ### Numbers of units -/

/-- The main rails: VDD, VDDA_SD, VDDH_SD, VDDQ, VDDIO_18, VDDA_OUT. -/
def mainRails : Nat := 6

/-- The devices with a delay line (R204, R208, R231): channels 0 … 39, AWL_S 40, lane phase detector l at 64 + l. -/
def isDevice (dev : Nat) : Bool := decide (dev ≤ 40) || (decide (64 ≤ dev) && decide (dev < 86))

/-- The fault sources of Table 15-1: a number of it that is not reserved. -/
def isSource (n : Nat) : Bool :=
  n < 256 && n != 7 && !(100 ≤ n && n ≤ 103) && !(188 ≤ n && n ≤ 191) && !(195 ≤ n && n ≤ 199) && n != 207 &&
    !(220 ≤ n && n ≤ 223)

end Sys2Proof.Machine
end

