-- ==== Sys2Proof/Config.lean ====
section
/-! DEFINITION. What the manual leaves to the implementation or leaves open: opaque constants, so that nothing proved of
the model rests on a value of theirs. -/

namespace Sys2Proof.Config

/-- The free values: a value the manual leaves open after a command is `freeValue n` for the state's next n (log
entry 7). -/
opaque freeValue : Nat → Int

/-- SHA-256 over octets, as a number (the manual names the function and does not restate it). -/
opaque sha256 : List Byte → Nat

/-- The octets of the payload of a LOG or COPY frame, for what it carries (the manual lays these records out nowhere). -/
opaque recordOctets : List Nat → List Byte

/-- SHA-384 over octets, as a number. -/
opaque sha384 : List Byte → Nat

/-- A draw of the key-store DRBG: draw number, then length in octets. -/
opaque drbg : Nat → Nat → Nat

/-- The device identity key's private scalar (slot 0), which each chip draws for itself. -/
opaque identityKey : Nat

/-- The public point of a P-384 private scalar, 97 octets as a number. -/
opaque publicPoint : Nat → Nat

/-- HMAC-SHA256 of octets under a key, as a number. -/
opaque hmac256 : Nat → List Byte → Nat

/-- AES-256-GCM: the ciphertext and then the 16-octet tag, for a key, a 96-bit nonce, the additional data and a plaintext. -/
opaque aesGcm256 : Nat → Nat → List Byte → List Byte → List Byte

/-- An ECDSA P-384 signature, r then s, under a private scalar over octets; the nonce is of the draw named last. -/
opaque ecdsa384 : Nat → List Byte → Nat → Nat

/-- Whether an ECDSA P-384 signature over octets verifies: signer class, root key index or SignerKey, octets, signature. -/
opaque sigVerifies : Nat → Nat → List Byte → Nat → Bool

end Sys2Proof.Config
end

