-- ==== Sys2Proof/Machine/State.lean ====
section
/-! DEFINITION. The state of the block: the running values of the object dictionary, the registers the chapters describe
beside it, memory, the key store and the queue of waiting commands; and the machine right after reset. -/

namespace Sys2Proof.Machine

/-! ### Reasons to stop -/

/-- What stops the machine with a fault. -/
inductive Fault where
  /-- A command names a unit the hardware does not have (a reference above 15, a lane above 21, ...). Raised by every
  command whose unit number fails `WellFormed`; safe: the hardware has no such command. -/
  | noSuchUnit
  deriving DecidableEq, Repr

/-- Why a command is refused by the model. -/
inductive Refusal where
  /-- No meaning is written for the row of this mnemonic. Raised by `exec` alone; safe: nothing is claimed. -/
  | notModelled (mnemonic : String)
  deriving DecidableEq, Repr

/-! ### Time (chapter 3) -/

/-- One change of a scale's value or increment (R92, R132): from tick `tick` on, the value is `val` and advances by `inc`
each tick, both in 2^-72 ns, so that no dither is left out. -/
structure Mark where
  tick : Nat
  val : Nat
  inc : Nat
  deriving DecidableEq, Repr

/-- A time scale and its servo loop (R91, R109, R114, R122, R123). Phases are in 2^-32 ns, steering in 2^-32 of
0.001 ppt. -/
structure Scale where
  /-- the changes, newest first, back to the last 1,024 of INC (R132) -/
  marks : List Mark := []
  /-- TS_0 is aligned (R559) -/
  aligned : Bool := false
  /-- the Rein's integrator -/
  integ : Int := 0
  /-- the loop's steering of the last 16 s, newest first (R123) -/
  ys : List Int := []
  /-- |u| of the last 2,048 updates that computed one, newest first, with the update's number (term S) -/
  us : List (Nat × Nat) := []
  /-- updates in the present run of |u| at most LockThreshold (R114) -/
  dwell : Nat := 0
  /-- updates in the present run of |u| above four LockThreshold (R114) -/
  bad : Nat := 0
  /-- the loop is judged locked (R114) -/
  locked : Bool := false
  /-- a REFERENCE scale waits for a measurement carried after this tick (R122) -/
  await : Option Nat := none
  /-- what SlewRemaining has left, in 2^-16 ns / 125, and what the slew in progress adds to INC (R102) -/
  slew : Int := 0
  slewInc : Int := 0
  /-- the phase that a REFERENCE scale holds against a frequency reference, 2^-32 ns, none before its first u (R111, R122) -/
  phase0 : Option Int := none
  deriving DecidableEq, Repr

/-! ### Mode controller (chapter 1) -/

/-- The events the mode controller takes (Tables 1-5 and 1-6), with what each carries from its own instant. -/
inductive ModeEvent where
  /-- an armed reaction to SAFE -/
  | reactSafe
  /-- partner loss in FOLLOWER: FailoverPermit and health at its CNT time (R43, R464) -/
  | failover (permitted : Bool)
  /-- partner loss in RESYNC: SoloStart at its CNT time -/
  | partnerGone (solo : Bool)
  | keepEntered
  | wakeFromKeep
  /-- the lock, and whether R433 withheld it at its CNT time (R43) -/
  | lockDeclared (withheld : Bool)
  | refLeft (another : Bool)
  | boundCrossed
  | resyncDone
  | divergence (cause : Nat)
  | oscReady
  | warmupTimeout
  | acquireTimeout
  /-- the quiet period over, with SafeHold at its CNT time (R43) -/
  | quietOver (hold : Bool)
  /-- a host request: its code and ModeArm at its own CNT time (R36, R43) -/
  | request (code : Nat) (arm : Nat)
  deriving DecidableEq, Repr

/-- The mode controller's own registers. -/
structure ModeRegs where
  /-- events deferred by priority (R29) -/
  queue : List ModeEvent := []
  /-- the SRV cycle of the last transition -/
  cycle : Option Nat := none
  /-- tick of the last transition -/
  since : Nat := 0
  /-- LOCKED since the last CONFIGURE (R31, R115) -/
  wasLocked : Bool := false
  /-- row 4 of Table 1-6: no transition until reset -/
  loader : Bool := false
  /-- row 35 of Table 1-6 was taken and rows 11 or 12 are awaited -/
  row35 : Bool := false
  /-- KEEP was entered by row 33 -/
  keep33 : Bool := false
  /-- row 6 of Table 1-6 was taken: PROCEED is awaited -/
  restoreFailed : Bool := false
  /-- PORST_N or RESET_N low, or a brownout hold: which reset is held -/
  held : Option Nat := none
  /-- the last mode before TEST or SAFE that is neither (Tables 1-4 and 3-1, R254) -/
  before : Nat := 0
  /-- the oscillator has been ready since WARMUP began (R176) -/
  ready : Bool := false
  /-- tick from which BootDuration counts: the release of the reset -/
  bootFrom : Nat := 0
  /-- a start-up tamper withholds service (R431, R433) -/
  startTamper : Bool := false
  deriving DecidableEq, Repr

/-! ### Object access (chapter 2) -/

/-- An open OAP session (R58 to R62). -/
structure Session where
  sid : Nat
  level : Nat
  port : Nat
  clientNonce : Nat
  engineNonce : Nat
  /-- highest accepted sequence H, and the sequences of (H - 64, H] accepted -/
  high : Nat := 0
  seen : List Nat := []
  /-- consecutive tag failures -/
  tagRun : Nat := 0
  /-- next sequence the engine sends -/
  out : Nat := 1
  /-- tick of the last accepted datagram -/
  last : Nat := 0
  /-- k_c2e, k_e2c, s_c2e and s_e2c (R59) -/
  keyIn : Nat := 0
  keyOut : Nat := 0
  saltIn : Nat := 0
  saltOut : Nat := 0
  deriving DecidableEq, Repr

/-- A subscription (R66 to R68). -/
structure Sub where
  id : Nat
  owner : Req
  key : Nat
  /-- 1 ON_CHANGE, 2 PERIODIC -/
  trigger : Nat
  /-- in ms -/
  period : Nat
  /-- next NotifySeq -/
  seq : Nat := 1
  /-- value last sent, or at acceptance -/
  last : Int := 0
  /-- tick of the last NOTIFY, none before the first -/
  sent : Option Nat := none
  /-- TS_0 instant of the next NOTIFY of a PERIODIC subscription, 2^-32 ns -/
  due : Int := 0
  deriving DecidableEq, Repr

/-- A journal record (R82 to R86). -/
structure JRec where
  id : Nat
  kind : Nat
  outcome : Nat := 0
  total : Nat
  done : Nat := 0
  lastStep : Nat := 0
  start : Nat := 0
  last : Nat := 0
  origin : Nat := 0
  restartOf : Nat := 0
  detail : Nat := 0
  flags : Nat := 0
  deriving DecidableEq, Repr

/-- The object-dictionary engine's registers. -/
structure Access where
  sessions : List Session := []
  subs : List Sub := []
  nextSub : Nat := 1
  /-- HELLOs accepted in the TS_0 second named first (R58) -/
  helloSec : Nat := 0
  helloCount : Nat := 0
  staged : List Staged := []
  /-- requester that owns the staged set, none while it is EMPTY -/
  stageOwner : Option Req := none
  /-- the journal in AON SRAM, oldest first, and its copy in flash (R83, R84) -/
  journal : List JRec := []
  journalFlash : List JRec := []
  /-- values held per requester (R86): requester code times 2^32 plus object key -/
  perReq : List (Nat × Int) := []
  /-- the host SPI: CRC_ERROR, OVERRUN, the response waiting and the notifications waiting (R70 to R72) -/
  crcError : Bool := false
  overrun : Bool := false
  rsp : Option (List Byte) := none
  notes : List (List Byte) := []
  /-- level of the owner of the staged set, by which a SCHEDULED set is validated at its instant -/
  stageLevel : Nat := 0
  /-- AppOdLevel as the last CONFIGURE took it (R516) -/
  appLevel : Nat := 1
  deriving DecidableEq, Repr

/-! ### Fault collector (chapter 15) -/

/-- The record of a source (R474). Times are TS128 values as objects carry them; ticks are steady. -/
structure FRec where
  active : Bool := false
  level : Nat := 0
  count : Nat := 0
  conseq : Nat := 0
  first : Nat := 0
  last : Nat := 0
  firstDetail : Nat := 0
  lastDetail : Nat := 0
  recoveries : Nat := 0
  lastRecovery : Nat := 0
  unacked : Bool := false
  unread : Bool := false
  countRaised : Bool := false
  classRaised : Bool := false
  transient : Bool := false
  /-- ticks of the non-consequential reports of the last CountWindow -/
  recent : List Nat := []
  /-- tick from which QuietPeriod is measured: the last such report or the fall of the live bit -/
  quiet : Nat := 0
  /-- reaction entries taken in this activity (R483) -/
  taken : List Nat := []
  deriving DecidableEq, Repr

/-- A report on its way to the collector (R473). -/
structure Report where
  src : Nat
  detail : Nat
  tick : Nat
  /-- a report made again at the end of a settle window is never consequential (R485) -/
  settled : Bool := false
  /-- the reaction entries armed at its tick (R43) -/
  arms : Nat := 0
  deriving DecidableEq, Repr

/-- An open settle window (R485). -/
structure Settle where
  entry : Nat
  start : Nat
  stop : Nat
  /-- ReactConsequences at the time of the trigger -/
  set : Nat
  opId : Nat
  /-- its end has been dealt with: it stands until every report of a tick within it is processed -/
  ended : Bool := false
  deriving DecidableEq, Repr

/-- The collector's registers. -/
structure Collector where
  recs : Tab FRec := []
  /-- reports not yet released, in order of arrival -/
  queue : List Report := []
  windows : List Settle := []
  /-- tick of the newest log entry, none while the log is empty -/
  logTick : Option Nat := none
  /-- the watchdog of R482 has stopped ALIVE -/
  stopped : Bool := false
  /-- sources whose reaction has entered SAFE since entry (R487) -/
  safeBy : List Nat := []
  /-- level of ALIVE, and the tick from which its next half period runs -/
  alive : Bool := false
  aliveFrom : Nat := 0
  /-- tick from which each core's watchdog counts (R488) -/
  wdog : Tab Nat := []
  /-- tick of the last servo update (SRV_STALL, R472) -/
  lastUpdate : Nat := 0
  /-- RESET_ENGINE records to be completed at the next CONFIGURE (R486) -/
  resetOps : List Nat := []
  deriving DecidableEq, Repr

/-- The performance counters' registers. -/
structure Pmc where
  /-- tick from which each THRESHOLD counter still has to count (R491) -/
  at' : Tab Nat := []
  /-- tick at which the counters last went on after KEEP (R496) -/
  from' : Nat := 0
  deriving DecidableEq, Repr

/-! ### References and selection (chapter 4) -/

/-! ### Oscillator, Keeper and holdover (chapter 5) -/

/-- A learning point (R185): time on TS_0 in 2^-32 ns, temperature in 0.001 C, mean integrator in 0.001 ppt. -/
structure Point where
  t : Int
  temp : Int
  m : Int
  deriving DecidableEq, Repr

/-- A model stored in flash (R187). -/
structure Stored where
  cls : Nat
  freq : Nat
  offset : Int
  ageing : Int
  tempco : Int
  anchor : Nat
  anchorTemp : Int
  uy : Nat
  ua : Nat
  ut : Nat
  /-- AON count at the store, in ticks -/
  storedAt : Nat
  deriving DecidableEq, Repr

/-- An update kept for re-anchoring (R190): time on TS_0, TempInUse, the integrator in 2^-32 of 0.001 ppt. -/
structure Upd where
  t : Int
  temp : Int
  integ : Int
  ok : Bool
  deriving DecidableEq, Repr

/-- The Keeper's model as a DisagreeInterval found it (R161): its objects with their values, and its points. -/
structure ModelAt where
  objs : List (Nat × Int)
  points : List Point
  restored : Option (Nat × Nat × Nat)
  /-- TS_0 at the interval's start, 2^-32 ns -/
  t : Int
  deriving DecidableEq, Repr

/-- A pin whose level counts once it has lasted: the level it shows, the tick that level came, the level taken. -/
structure Pin where
  raw : Option Bool := none
  since : Nat := 0
  taken : Option Bool := none
  deriving DecidableEq, Repr

/-- What M0 has fitted at the end of a LearnInterval (R185): coefficients and anchor, where the fit is in use, and
uncertainties. -/
structure Refit where
  fits : Bool
  s0 : Int
  a : Int
  c : Int
  anchor : Int
  theta : Int
  uy : Nat
  ua : Nat
  ut : Nat
  deriving DecidableEq, Repr

/-- The Keeper's registers. -/
structure Keeper where
  /-- the model as the present DisagreeInterval found it -/
  modelAt : Option ModelAt := none
  points : List Point := []
  /-- U_y, U_a and U_T of a model that started RESTORED (R186, R187) -/
  restored : Option (Nat × Nat × Nat) := none
  stored : Option Stored := none
  /-- tick from which ModelStoreInterval runs: ModelTrained or the last store -/
  storeFrom : Nat := 0
  /-- what M0 has fitted and the next update writes (R185) -/
  refit : Option Refit := none
  /-- updates so far, by which S of R239 counts its 2,048 -/
  updates : Nat := 0
  /-- updates of the last AnchorWindow, newest first -/
  recent : List Upd := []
  /-- the present LearnInterval: updates, integrator sum, temperature sum, a bar to learning, its start on TS_0 -/
  n : Nat := 0
  sumInteg : Int := 0
  sumTemp : Int := 0
  barred : Bool := false
  start : Int := 0
  /-- tick at which lock was last declared -/
  lockAt : Nat := 0
  /-- ticks at which the condition of R179 first held after PORST_N and at which UNREADY_IN_SERVICE last ended (R180) -/
  ovenHeldAt : Option Nat := none
  ovenEndAt : Option Nat := none
  /-- release of PORST_N, from which OvenWarmupElapsed counts -/
  ovenFrom : Option Nat := none
  /-- OVENRDY, and whether a sample of it has been taken; ATOMLOCK, and the tick its locked level came -/
  ovenrdy : Pin := {}
  ovenSeen : Bool := false
  atomlock : Pin := {}
  atomSince : Nat := 0
  /-- tick TempExternal was last written, and whether TempStale is live -/
  extAt : Option Nat := none
  stale : Bool := true
  /-- holdover: the time on TS_0 and the temperature its growth starts from, tau at the last update (2^-32 ns), the integral of
  dT (0.001 K × 2^-32 ns), the time in DEGRADED (2^-32 ns), the uncertainties at entry -/
  base : Int := 0
  temp : Int := 0
  tau : Nat := 0
  dti : Nat := 0
  degraded : Nat := 0
  uy : Nat := 0
  ua : Nat := 0
  ut : Nat := 0
  /-- HoldoverWarning, LoFaultInHoldover and TempStaleInHoldover set in this holdover -/
  warned : Bool := false
  loNoted : Bool := false
  staleNoted : Bool := false
  /-- HoldoverState as TEST or SAFE entered from HOLDOVER goes on with it, 0 where it does not (log entry 82) -/
  hold : Nat := 0
  deriving DecidableEq, Repr

/-! ### Error bounds (chapter 7) -/

/-- What an update hands to the outputs for one scale: bound, D, BoundFlags, clockClass of the default and the telecom
profiles, OldestTermAge, CalibrationAge, CalibrationOpId, TraceRef. -/
structure ServedScale where
  bound : Nat
  declared : Nat
  flags : Nat
  clsDefault : Nat
  clsTelecom : Nat
  age : Nat
  calAge : Nat
  calOp : Nat
  trace : Nat
  /-- the reference's chain entry, and those of the upstream TLV behind D -/
  entry : Nat
  chain : List Nat
  /-- timeSource (Table 12-5) -/
  source : Nat
  deriving DecidableEq, Repr

/-- The values an update hands to the outputs (R247). -/
structure Served where
  tick : Nat
  /-- BoundTime as a TS128 value -/
  time : Nat
  unsync : Bool
  /-- TS_0 to TS_7 -/
  scales : List ServedScale
  deriving DecidableEq, Repr

/-- The EBE's registers. -/
structure Ebe where
  scales : Tab BoundReg := []
  /-- the latest two updates, newest first -/
  served : List Served := []
  /-- consecutive updates at or below NtpUnsyncLimit -/
  below : Nat := 0
  unsync : Bool := false
  /-- P stays in use after a failover (R246) -/
  pairTerm : Bool := false
  /-- the reference TS_0 followed last, 0xFF for none: OldestTermAge in ticks and what Traceable asks of it as it was left -/
  ageHeld : Nat := 0
  traceHeld : Bool := false
  refHeld : Nat := 0xFF
  /-- its chain entry, and the upstream entries -/
  entryHeld : Nat := 0
  chainHeld : List Nat := []
  /-- operation ID of the Burnish last loaded into each device (R252): AWL channels 0 to 39, AWL_S 40, lane phase detectors
  64 + d, GNSS capture detectors 96 and 97 -/
  burnishOps : Tab Nat := []
  /-- channels whose SkewReused is live (R230) -/
  skewLive : List Nat := []
  deriving DecidableEq, Repr

/-! ### Time intervals and frequency (chapter 6). Instants are in 2^-16 tick. -/

/-- An event record (Table 6-3), its Value as the number its 16 octets make, least significant first. -/
structure AwlRec where
  tick : Nat
  fine : Nat
  chan : Nat
  kind : Nat
  flags : Nat
  seq : Nat
  value : Nat
  deriving DecidableEq, Repr

/-- An event of an interval unit (R211): its instant, its side, the AwlDelay of its channel, its flags, and whether it is the first
of the unit's own channel after a loss (R217). -/
structure AwlEv where
  at' : Nat
  start : Bool
  delay : Int
  flags : Nat
  lost : Bool := false
  deriving DecidableEq, Repr

/-- A gate of the reciprocal counter (R214): its number, the first and last stamped edges on the scale (2^-32 ns), the
prescaler's count at each, the instant and flags of the last, and how many edges it has stamped. -/
structure AwlGate where
  index : Int
  t0 : Int
  t1 : Int
  c0 : Nat
  c1 : Nat
  at' : Nat
  flags : Nat
  edges : Nat
  deriving DecidableEq, Repr

/-- A capture device: AWL_0 to AWL_39, AWL_S (40), lane phase detectors 64 + d, GNSS capture detectors 96 and 97, the pair
capture detector 98. -/
structure Capture where
  /-- hits of each bin in the last Burnish loaded (R221), none before the first -/
  table : List Nat := []
  /-- its delay line is out of lock (R208) -/
  unlocked : Bool := false
  /-- selected edges counted by the prescaler since the channel was enabled -/
  seen : Nat := 0
  /-- instant of the last edge the sampler accepted (R215) -/
  lastAt : Option Nat := none
  /-- instants at which the last entries leave the front buffer and the FIFO (R216) -/
  frontAt : Nat := 0
  fifoAt : Nat := 0
  /-- an edge was lost since the last stamp (R217) -/
  lossNext : Bool := false
  /-- a loss not yet shown to the objects, to the DMA queue, to the ring (R217, R219) -/
  lossObj : Bool := false
  lossDma : Bool := false
  lossRing : Bool := false
  /-- Seq of the next record -/
  seq : Nat := 0
  /-- the interval unit: events not yet released, in order, and the one held (R211, R212) -/
  inbox : List AwlEv := []
  held : Option AwlEv := none
  /-- the gate of the reciprocal counter, the number of the first gate not yet over, and a gate without a result not yet
  shown (R214) -/
  gate : Option AwlGate := none
  gateNext : Option Int := none
  noFreq : Bool := false
  /-- the DMA queue, oldest first -/
  queue : List AwlRec := []
  /-- reference skew of the input, spare less channel, 2^-16 ns (R222) -/
  skew : Int := 0
  deriving DecidableEq, Repr

/-- The Burnish run in progress (R223, R224): the item, the step it waits to complete, its record, the tick of its last step,
the 1/1024 s of TS_0 at that step, whether it goes through the spare, and the differences of the last 1,024 edges that both
devices have stamped in this step, newest first, in 2^-16 tick: the device in parallel less the one on duty. -/
structure BurnRun where
  item : Nat
  stage : Nat
  opId : Nat
  from' : Nat
  boundary : Nat
  spare : Bool
  diffs : List Int := []
  deriving DecidableEq, Repr

/-- The Awl's registers. -/
structure Awl where
  dev : Tab Capture := []
  run : Option BurnRun := none
  /-- a run of R227, from step 2 on, while another goes on that does not use the spare -/
  second : Option BurnRun := none
  /-- item queued by BurnishNow, and the channel whose failed run holds the spare (R226) -/
  queued : Option Nat := none
  blockedBy : Option Nat := none
  /-- the rotation's next item, the tick of its last start, and the item and ID of an interrupted run (R228) -/
  next : Nat := 40
  lastStart : Nat := 0
  restartOf : Option (Nat × Nat) := none
  /-- channel the event DMA served last -/
  turn : Nat := 39
  deriving DecidableEq, Repr

/-! ### GNSS (chapter 8) -/

/-- What R286 has a solution take as it was at its epoch mark: for each IF its delay, its uncertainty and its biases, and the
allowances of R275. -/
structure GnssCal where
  delay : List Int := []
  unc : List Nat := []
  gal : List Int := []
  bds : List Int := []
  utc : Nat := 0
  tropo : Nat := 0
  multipath : Nat := 0
  iono : Nat := 0
  deriving DecidableEq, Repr

/-- A tracking loop at work (Table 8-3): discriminator (0 cross-product, 1 Costas arctangent, 2 four-quadrant arctangent, 3
early less late power), bandwidth in mHz, spacing in 0.001 chip where it has one. -/
structure Loop where
  disc : Nat
  bandwidth : Nat
  spacing : Nat
  deriving DecidableEq, Repr

/-- What a TRACK channel has latched at an epoch mark for M1 (R269), with the mark's carried time and the loops at work. -/
structure ChanLatch where
  tick : Nat
  fine : Nat
  code : Nat
  carrier : Int
  doppler : Int
  cno : Nat
  lock : Nat
  slips : Nat
  loops : List Loop
  deriving DecidableEq, Repr

/-- A channel at work: its code phase in 2^-32 chip; the ticks since which its PLL lock indicator holds or fails, and since which C/N0
lies below CnoLossThreshold (R268). -/
structure Chan where
  code : Nat := 0
  lockAt : Option Nat := none
  failAt : Option Nat := none
  lowAt : Option Nat := none
  deriving DecidableEq, Repr

/-- An epoch mark (R261): its number, tick and Fine. -/
structure EpochMark where
  number : Nat
  tick : Nat
  fine : Nat
  cal : GnssCal := {}
  deriving DecidableEq, Repr

/-- A solution record (R285): offset in 2^-32 ns, terms in 2^-16 ns. -/
structure SolRec where
  epoch : Nat
  x : Int
  status : Nat
  band : Nat
  d : Nat
  msys : Nat
  sigma : Nat
  causes : Nat
  withheld : Bool
  utc : Option Int
  leap : Option (Nat × Nat)
  deriving DecidableEq, Repr

/-- The last solution that passed the Keeper check (R283): TS_0 and offset in 2^-32 ns, and the Keeper's drift at it. -/
structure Passed where
  t : Int
  x : Int
  drift : Int
  deriving DecidableEq, Repr

/-- An antenna's registers. -/
structure Antenna where
  passed : Option Passed := none
  /-- consecutive passing solutions of each check (R281) -/
  passes : Tab Nat := []
  /-- tick since which POSITION has been live without interruption (R280) -/
  posSince : Option Nat := none
  /-- tick the present survey began, and the record of a survey begun by R280 -/
  surveyAt : Nat := 0
  surveyOp : Option Nat := none
  /-- the positions a survey has solved: their number, their sums in mm and the sum of their squares (R279) -/
  fixes : Nat := 0
  sum : Int × Int × Int := (0, 0, 0)
  squares : Nat := 0
  /-- the position fixes of the last 300 s, newest first, with their ticks (R280) -/
  recent : List (Nat × Int × Int × Int) := []
  /-- ionosphere-free code minus carrier of the last 60 s of each satellite (64 times the system, and PRN), in 2^-32 ns, newest first
  (Table 8-5) -/
  codeCarrier : Tab (List (Nat × Int)) := []
  /-- solution records on their way to the SRV island -/
  outbox : List SolRec := []
  deriving DecidableEq, Repr

/-- The GNSS baseband's registers. -/
structure Gnss where
  /-- epoch marks raised since GnssEnable, and the last 4,096 of them, newest first (R261, R285) -/
  count : Nat := 0
  marks : List EpochMark := []
  /-- GCD_0 less GCD_1 over the last 1,024 marks, 2^-16 tick, newest first -/
  diffs : List Int := []
  /-- correction of the stamps of each detector (2^-16 tick), the skew each was last handed over with (2^-16 ns), and a
  handover that awaits the next mark (R262) -/
  corr : Tab Int := []
  skews : Tab (Option Int) := []
  handover : Bool := false
  gcdAt : Nat := 0
  antennas : Tab Antenna := []
  /-- MsgSeq of each channel's next record, and the last record each wrote to M1 (R270) -/
  msgSeq : Tab Nat := []
  nav : Tab (List Byte) := []
  /-- the searches that wait, the first at work, and the tick since which it is (R266) -/
  queue : List Search := []
  searchAt : Nat := 0
  /-- the channels at work, and what each has latched last for M1 (R268, R269) -/
  chans : Tab Chan := []
  latches : Tab (Option ChanLatch) := []
  /-- the sample of each IF at the last epoch mark, as I and Q (R259) -/
  samples : Tab (Int × Int) := []
  /-- integral of KeeperPrediction - FreqNow, in 0.001 ppt update periods (R283) -/
  drift : Int := 0
  /-- tick of the last store of almanac and ephemeris, none while none is stored (R278) -/
  storedAt : Option Nat := none
  deriving DecidableEq, Repr

/-! ### Timed outputs and schedule (chapter 9) -/

/-- A timed pin beside its objects. Instants of CNT are in 1.6 ns / 2^20. -/
structure Tio where
  /-- scale time up to which the periodic generator's instants are used or passed, in 2^-32 ns -/
  pos : Int := 0
  /-- the level latch (R292) -/
  latch : Bool := false
  /-- CNT instants at which the last active interval begins and ends -/
  onAt : Int := 0
  offAt : Nat := 0
  /-- AlignPhase of the pin (R169), in 2^-32 ns -/
  align : Int := 0
  deriving DecidableEq, Repr

/-- A record for M3's event queue (R309). -/
structure CoreRec where
  tick : Nat
  occurrence : Nat
  param : Nat
  entry : Nat
  line : Nat
  flags : Nat
  deriving DecidableEq, Repr

/-- A ToD message sent for a pulse: the pulse's time, 2^-32 ns, and the bound projected for it (R299). -/
structure TodSent where
  output : Nat
  pulse : Int
  bound : Nat
  deriving DecidableEq, Repr

/-- The registers of the OUT island beside its objects. -/
structure Tugs where
  sched : Tab SchedE := []
  tio : Tab Tio := []
  /-- AlignPhase of each synthesizer, in 2^-32 ns -/
  osynAlign : Tab Int := []
  /-- M3's event queue, oldest first, and whether the next record follows a loss -/
  events : List CoreRec := []
  eventLoss : Bool := false
  /-- messages whose pulse has not come yet -/
  todSent : List TodSent := []
  /-- barriers not yet confirmed on a pair: entry's record and barrier epoch (R311) -/
  barriers : List (CoreRec × Nat) := []
  deriving DecidableEq, Repr
/-! ### Lanes (chapter 10) -/

/-- A lane's registers beside its objects. -/
structure LaneReg where
  /-- the equalisation entry it applied at its last CALIBRATING (R319), and the tick of that entry -/
  applied : Nat := 0
  calAt : Nat := 0
  /-- tick of its last passed loop check -/
  checkAt : Option Nat := none
  /-- tick of the last change of LpiRxState and of LpiTxState -/
  rxAt : Nat := 0
  txAt : Nat := 0
  /-- tick at which a wake pattern being sent ends (R339) -/
  waking : Option Nat := none
  /-- tick at which an eye scan of it began (R344) -/
  eyeAt : Option Nat := none
  /-- ticks since which its pattern checker counts bits, and since which errors are injected at a ratio (R343) -/
  patFrom : Option Nat := none
  injFrom : Option Nat := none
  /-- tick of the last frame sent, or of the last LPI refresh -/
  sentAt : Nat := 0
  refreshAt : Nat := 0
  deriving DecidableEq, Repr

/-! ### MACs (chapter 11) -/

/-- Pause of a class, received and sent (R372 to R374). -/
structure PauseReg where
  /-- tick at which the class timer expires, and the tick since which the class has been paused without interruption -/
  ends : Nat := 0
  from' : Option Nat := none
  /-- tick until which received requests are ignored -/
  ignore : Nat := 0
  /-- the engine's own XOFF: tick it began, tick it was last sent; tick until which none is sent -/
  xoff : Option Nat := none
  sentAt : Nat := 0
  withhold : Nat := 0
  deriving DecidableEq, Repr

/-- What a transmit slot holds (R360): class, insertion request, frame. -/
structure SlotFrame where
  cls : Nat := 0
  insert : Option Insert := none
  frame : List Byte := []
  deriving DecidableEq, Repr

/-- A transmit slot: what it holds, and what occurrences before a tick still send, by that tick, oldest first. -/
structure TxSlot where
  now : SlotFrame := {}
  was : List (Nat × SlotFrame) := []
  deriving DecidableEq, Repr

/-- A received frame in a port's buffer (R352): class, length, whether it lies in the shared pool. -/
structure RxHeld where
  cls : Nat
  len : Nat
  pool : Bool
  deriving DecidableEq, Repr

/-- A port's registers beside its objects. -/
structure PortReg where
  tsq : List TsqE := []
  pause : Tab PauseReg := []
  oper : Option GateCfg := none
  /-- the pending configuration (its change time stands in ConfigChangeTime), and its cycle extension -/
  next : Option GateCfg := none
  ext : Nat := 0
  slots : Tab TxSlot := []
  /-- verification: attempts made, tick of the last -/
  tries : Nat := 0
  tryAt : Nat := 0
  /-- received frames that their consumers have not taken, oldest first -/
  rx : List RxHeld := []
  /-- on a pair, the ready tick and ordinal of the message last put in order, and the ready tick of the latest preemptable frame
  (R456) -/
  ready : Nat × Nat := (0, 0)
  preReady : Nat := 0
  /-- the instant in 2^-16 tick at which the express frame last committed ends, and at which the latest preemptable frame does -/
  txUntil : Nat := 0
  preUntil : Nat := 0
  /-- tick at which the last fragment of the latest preemptable frame starts -/
  lastFrag : Nat := 0
  /-- ready tick and ordinal of the last frame committed (R456) -/
  commit : Nat × Nat := (0, 0)
  deriving DecidableEq, Repr


/-! ### Time service (chapter 12) -/

/-- The key of a security-parameter entry that a switch has replaced: slot, keyID, tick until which it is accepted
(R395). -/
structure SppOld where
  slot : Nat
  keyId : Nat
  until' : Nat
  deriving DecidableEq, Repr

/-- A master heard on a tracker's port and domain (R168): its clockIdentity, what its latest Announce says of its grandmaster in
the order of the comparison, stepsRemoved, and that Announce's tick. -/
structure Master where
  ident : Nat
  dataset : List Nat
  gm : Nat
  steps : Nat
  tick : Nat
  deriving DecidableEq, Repr

/-- A tracker (R397): the identity it follows and the masters heard; t2 - t1 of its latest Sync and a two-step Sync that awaits its Follow_Up
(sequenceId, stamp, correctionField), in 2^-32 ns; the mean path delay; its Delay_Req on the way (sequenceId, t3); the tick each
grant ends. -/
structure Trk where
  master : Option Nat := none
  /-- clockAccuracy of the master's latest Announce, and the tick of its receipt -/
  accuracy : Nat := 0xFE
  accuracyAt : Nat := 0
  heard : List Master := []
  changed : Bool := false
  diff : Option Int := none
  wait : Option (Nat × Nat × Nat × Int) := none
  delay : Option Int := none
  seq : Nat := 0
  sent : Option (Nat × Int) := none
  slot : Int := 0
  grants : Tab (Option Nat) := []
  deriving DecidableEq, Repr

/-- Transmissions of a PTP instance: intervals begun of Sync, Announce and Pdelay_Req, their sequenceIds, and the
one-second count of answers to multicast Delay_Req. -/
structure InstReg where
  sync : Option Int := none
  ann : Option Int := none
  pdelay : Option Int := none
  seqSync : Nat := 0
  seqAnn : Nat := 0
  seqPdelay : Nat := 0
  /-- transmit stamp of the latest Pdelay_Req (tick, Fine) -/
  pdelayAt : Option (Nat × Nat) := none
  second : Nat := 0
  answers : Nat := 0
  deriving DecidableEq, Repr

/-- The newest violation log entry (R412): address, source port, cause, tick. -/
structure VlogTop where
  addr : Nat
  srcPort : Nat
  cause : Nat
  tick : Nat
  deriving DecidableEq, Repr

/-- What a message of a service pipeline, of a tracker or of a late FRAME_SEND carries (R384, R388, R398): what depends on its
transmission is formed as it is sent. `i` is an instance, `dst` 0 for multicast or 1 + record, times are stamps (tick, Fine). -/
inductive Body where
  | fixed (fields : List Nat)
  | announce (i dst seq : Nat)
  | sync (i dst seq : Nat)
  | syncTwo (i dst seq : Nat)
  | followUp (i dst seq tick fine : Nat)
  | pdelayReq (i seq : Nat)
  | pdelayResp (i seq tick fine : Nat)
  | pdelayRespTwo (i seq tick fine : Nat)
  | pdelayFollow (i seq tick fine : Nat)
  | ntp (f : SvcF) (n : NtpF) (extra : List Nat)
  | trkDelay (r seq : Nat)
  | slot (n : Nat) (x : SlotFrame)
  deriving DecidableEq, Repr

/-- A message composed and not yet sent (R384, R385): its pipeline (4 where it comes of none), port and kind of frame, the keyID
it is signed under; for a launch-time frame its T as a tick, and whether it has been composed once more. -/
structure Queued where
  pipe : Nat
  port : Nat
  kind : Nat
  body : Body
  keyId : Option Nat := none
  launch : Option Nat := none
  again : Bool := false
  /-- the cycle of the CRY island at which its crypto work is done (R382) -/
  done : Nat := 0
  /-- ready tick and ordinal (R456) -/
  ready : Nat := 0
  ordinal : Nat := 0
  deriving DecidableEq, Repr

/-- The service pipelines' registers. -/
structure Svc where
  /-- pipeline of each bucket that has moved from pipeline bucket mod 4 (R380, R381) -/
  moved : Tab Nat := []
  clients : Tab (Option Client) := []
  admitted : Nat := 0
  /-- records in each set of the cache, most recently used first (R406) -/
  cache : Tab (List Nat) := []
  /-- frames that wait for a record, oldest first, by bucket -/
  waiting : Tab (List SvcReq) := []
  /-- the bucket of R407, in requests times 625,000,000, and the tick it was brought up to date; none while it is full -/
  tokens : Option (Nat × Nat) := none
  /-- notices waiting for M2 (R408) -/
  notices : List Nat := []
  vlog : Option VlogTop := none
  /-- messages composed that wait for their transmission, in this order on each port -/
  queue : List Queued := []
  /-- launch calendar: last T of each port (R385); on a standby, the launch-time frame of a port sent last, and withheld -/
  calendar : Tab Nat := []
  launched : Tab (Option Queued) := []
  /-- the instants at which the eight crypto lanes fall free, in cycles of 0.8 ns, and those at which each pipeline's waiting
  requests begin (R382) -/
  lanes : List Nat := [0, 0, 0, 0, 0, 0, 0, 0]
  crypto : Tab (List Nat) := []
  spp : Tab (Option SppOld) := []
  insts : Tab InstReg := []
  trks : Tab Trk := []
  /-- UtcOffset has been adopted or written (Table 12-5) -/
  utcKnown : Bool := false
  /-- changes of UtcOffset, newest first: the TS_0 instant (2^-32 ns) from which NTP uses the offset that follows, and the offset
  in force before it (R90) -/
  utcHist : List (Int × Int) := []
  /-- the last leap applied, 1 insertion or 2 deletion, and its LeapTime in 2^-32 ns (R129) -/
  leapDone : Nat := 0
  leapAt : Int := 0
  deriving DecidableEq, Repr
/-! ### Key store (chapter 13) -/

/-- A key-store slot (R415): type 0 EMPTY, origin, usage mask, class, TS_0 time of creation, uses made, and the key. `fills`
counts how often the slot has been filled. -/
structure Slot where
  typ : Nat := 0
  imported : Bool := false
  usage : Nat := 0
  cls : Nat := 0
  created : Nat := 0
  fills : Nat := 0
  uses : Nat := 0
  key : Nat := 0
  deriving DecidableEq, Repr

/-- A rotation in progress (R424): its slots, SwitchAt (2^-32 ns), its record, and the instant OldSlot is destroyed once the
switch is made. -/
structure Rotation where
  old : Nat
  new : Nat
  switchAt : Int
  opId : Nat
  retireAt : Option Int := none
  deriving DecidableEq, Repr

/-- What a management operation that still runs would leave behind, and what a tamper takes back (R428). -/
inductive KeyJob where
  /-- a generation or an import into a slot -/
  | fill (slot : Nat)
  /-- the statement of a requester -/
  | attest (req : Req)
  /-- step 1 of a rotation into a slot: its record, and whether the key was generated -/
  | rotate (opId slot : Nat) (generated : Bool)
  deriving DecidableEq, Repr

/-- A tamper pin (R426): its level, and since which tick it has been at its active level. -/
structure TamperPin where
  level : Bool := false
  since : Option Nat := none
  deriving DecidableEq, Repr

/-- The key store's registers. -/
structure Keys where
  slots : Tab Slot := []
  rotations : List Rotation := []
  /-- requests made of the DRBG -/
  draws : Nat := 0
  /-- the flags of an attestation statement (Table 13-2) -/
  sinceUnseal : Bool := false
  zeroised : Bool := false
  /-- a life-cycle transition in progress: its record and target (R436) -/
  lifeOp : Option (Nat × Nat) := none
  /-- the operations that run one after another, and the tick at which each is done (R419, R421, R425) -/
  jobs : List (KeyJob × Nat) := []
  pins : Tab TamperPin := []
  /-- a tamper came in KEEP (R430) -/
  inKeep : Bool := false
  deriving DecidableEq, Repr


/-! ### Pair (chapter 14) -/

/-- What the partner's latest HELLO says (Table 14-3). -/
structure Hello where
  serial : Nat
  priority : Nat
  /-- 0 NONE, 1 ACTIVE, 2 STANDBY -/
  claim : Nat
  /-- its ApplicationVersionM3 and its pipeline microcode's version match this engine's (R442) -/
  versionsMatch : Bool
  activeSince : Nat
  deriving DecidableEq, Repr

/-- A frame of a data port in the order of R456: port, ready tick, ordinal; its octets, and what it carries where a pipeline
composed it. -/
structure Held where
  port : Nat
  ready : Nat
  ordinal : Nat
  len : Nat := 0
  msg : Option Queued := none
  deriving DecidableEq, Repr

/-- A handler of M3 that runs or has returned and awaits its boundary (R458, R459): the event's epoch, its entry tick,
whether it has returned, and whether the active has counted it as an overrun. -/
structure Handler where
  epoch : Nat
  entry : Nat
  returned : Bool := false
  /-- the object writes among its actions -/
  acts : List (Nat × Int) := []
  deriving DecidableEq, Repr

/-- The active's Local quantities that enter logical state, as its log carries them once per update (Table 14-5): the Keeper's
prediction and uncertainties, LoState, TempInUse, and the SysTerm of the device in use for each reference. -/
structure ActiveTerms where
  pred : Int
  uy : Nat
  ua : Nat
  ut : Nat
  lo : Nat
  temp : Int
  sys : List (Nat × Nat)
  deriving DecidableEq, Repr

/-- A Buckle frame kept until it is acknowledged (R449): LinkSeq, Type, the fields of its payload, and the payload. -/
structure Kept where
  seq : Nat
  type : Nat
  fields : List Nat
  payload : List Byte
  deriving DecidableEq, Repr

/-- The pair replicator's registers. -/
structure Pair where
  hello : Option Hello := none
  /-- tick at which the engine began to wait for the partner's HELLO (R445) -/
  waiting : Option Nat := none
  /-- tick of the last Buckle frame with a good CRC, none before the first; the link is silent (R451) -/
  frameAt : Option Nat := none
  silent : Bool := false
  /-- level of PEER_ALIVE and tick of its last change -/
  peer : Bool := false
  peerAt : Nat := 0
  /-- At of a LEAVING frame, 2^-32 ns on TS_0 -/
  leaving : Option Int := none
  /-- partner's mode, role and measure of PAIRCLK from the latest heartbeat -/
  peerMode : Nat := 0
  peerRole : Nat := 0
  peerMeasure : Int := 0
  /-- LogHorizon, and per port the CommitHorizon (ready tick, ordinal) -/
  horizon : Nat := 0
  commit : Tab (Nat × Nat) := []
  /-- hold ring of R457, and the octets in it -/
  held : List Held := []
  /-- LinkSeq: next to send, next expected; frames sent and not acknowledged, oldest first -/
  seqOut : Nat := 0
  seqIn : Nat := 0
  unacked : List Kept := []
  /-- records logged in the present epoch, and records received since the last EPOCH_END -/
  logged' : Nat := 0
  received : Nat := 0
  /-- d of the last epoch, which the next one's is formed with (R455) -/
  last : Nat := 0
  /-- the entry tick of the logged input that is executed (R452) -/
  entry : Option Nat := none
  /-- INC records whose tick has not come: tick, scale, INC (R453) -/
  incs : List (Nat × Nat × Nat) := []
  /-- epochs whose digest this engine has formed, newest first (R455) -/
  digests : List (Nat × Nat) := []
  /-- the partner's digests, newest first -/
  theirs : List (Nat × Nat) := []
  /-- a divergence is recorded and the standby is not back in FOLLOWER (R468) -/
  diverged : Bool := false
  /-- the INC of each scale as logged, 2^-72 ns, before the trim (R453) -/
  logged : Tab Nat := []
  /-- the latest TERMS record -/
  terms : Option ActiveTerms := none
  /-- lanes whose loss of link the partner's log has reported (R136, Table 14-5) -/
  lanesDown : List Nat := []
  /-- tick of the last Burnish of the pair capture detector -/
  pcdAt : Nat := 0
  /-- the last digest exchanged matched (R464) -/
  matched : Bool := false
  /-- the log of an epoch is complete up to this epoch -/
  complete : Nat := 0
  /-- alignment loop (R460): integrator in 2^-32 of 0.001 ppt, |x_pair| of the last 2,048 updates in 2^-16 ns, updates within
  5 ps, and the mean of the partner's edges at the last update -/
  integ : Int := 0
  xs : List Nat := []
  within : Nat := 0
  measure : Int := 0
  /-- resynchronisation (R469): tick the present step began and the run began, digests matched in step 5, tick of a
  failure after which a new run waits 10 s, the interrupted run's ID -/
  stepAt : Nat := 0
  runAt : Nat := 0
  running : Bool := false
  run : Nat := 0
  failedAt : Option Nat := none
  restartOf : Nat := 0
  /-- the digest seeded by CUTOVER, and its epoch -/
  seed : Option (Nat × Nat) := none
  /-- a planned exchange (R467): At, and whether it is accepted -/
  exchange : Option (Int × Bool) := none
  /-- tick until which TAKEN goes with every heartbeat -/
  takenUntil : Nat := 0
  /-- handlers of M3 in order of entry tick -/
  handlers : List Handler := []
  deriving DecidableEq, Repr

/-! ### Power (chapter 16) -/

/-- A change of power state in progress (R500). -/
inductive Change where
  | none
  /-- blocks that answered Delay are waited for: target, tick the wait ends, deadline, blocks to ask again -/
  | waiting (target until' deadline : Nat) (blocks : List Nat)
  /-- committed, the entry or the gating runs: target -/
  | entering (target : Nat)
  /-- the steps of Table 16-4 run since a tick: target -/
  | waking (target since : Nat)
  deriving DecidableEq, Repr

/-- A burst asked of a Harness target (R518): its master, its beats, the HNS cycle at which it came. -/
structure BusReq where
  master : Nat
  beats : Nat
  since : Nat
  deriving DecidableEq, Repr

/-- The Harness (R517 to R521), by target: the requests that wait, in the order they came; the burst that holds the path, and the HNS
cycle at which its last beat ends; the master granted last. -/
structure Bus where
  waiting : Tab (List BusReq) := []
  busy : Tab (Option (BusReq × Nat)) := []
  turn : Tab Nat := []
  deriving DecidableEq, Repr

/-- The power controller's registers, and the Harness. -/
structure Power where
  bus : Bus := {}
  change : Change := .none
  /-- tick at which KEEP was committed -/
  keepAt : Nat := 0
  /-- a monitored rail is outside its range: rails, and the tick a held brownout's rails came back -/
  railsOut : List Nat := []
  railsOkAt : Option Nat := none
  /-- ticks of the last patrol scrubs of DRAM and of SRAM (R514) -/
  dramScrubAt : Nat := 0
  sramScrubAt : Nat := 0
  deriving DecidableEq, Repr

/-! ### Update (chapter 17) -/

/-- The update engine's registers (R531 to R535). -/
structure Update where
  kind : Nat := 0
  total : Nat := 0
  /-- the staging buffer: what each chunk wrote, newest first (offset, octets) -/
  data : List (Nat × List Byte) := []
  /-- ActivateAt (2^-32 ns), NoActivate and ImageVersion of the update in progress -/
  at' : Int := 0
  noActivate : Bool := false
  version : Int := 0
  /-- ImageVersion of the pipeline microcode that runs, as its STRING[24] value (R442) -/
  micro : Int := 1
  /-- the image booted is already the new one (R535) -/
  booted : Bool := false
  /-- the core that restarts into the new image, or the pipeline that takes new microcode -/
  core : Option Nat := none
  pipe : Option Nat := none
  deriving DecidableEq, Repr

/-- The engine's age (R538): ticks on the main supplies and ticks above 85 °C not yet counted as whole hours, and the tick up
to which they are counted. -/
structure Ageing where
  on' : Nat := 0
  hot : Nat := 0
  upTo : Nat := 0
  deriving DecidableEq, Repr

/-! ### The whole -/

/-- What the last command put out of the block (log entry 69). -/
inductive Msg where
  /-- a RESPONSE of a session: SessionId, sequence sent, body in the clear, the datagram's octets -/
  | response (sid seq : Nat) (body wire : List Byte)
  /-- HELLO_ACK: SessionId, EngineNonce, the datagram's octets -/
  | helloAck (sid nonce : Nat) (wire : List Byte)
  /-- CLOSE: SessionId, Reason, the datagram's octets -/
  | close (sid reason : Nat) (wire : List Byte)
  /-- a NOTIFY of a session: SessionId, sequence sent, body in the clear, the datagram's octets -/
  | notify (sid seq : Nat) (body wire : List Byte)
  /-- octets returned on the host SPI -/
  | spi (bytes : List Byte)
  /-- the outcome of a write not made through a datagram: Status and EffectiveTime -/
  | written (status effective : Nat)
  /-- ModeChange: from, to, cause (R30) -/
  | modeChange (a b cause : Nat)
  /-- the BootNoImage event of row 4 of Table 1-6 -/
  | bootNoImage
  /-- an active interval on a pin, from one CNT instant to another in 1.6 ns / 2^20, TioOutDelay taken off, and whether the pin is
  high in it -/
  | pulse (pin : Nat) (start stop : Int) (high : Bool)
  /-- a pin's level latch set or cleared: whether the pin is high from now on -/
  | latch (pin : Nat) (high : Bool)
  /-- a ToD message sent on TODOUT_j: its octets -/
  | tod (j : Nat) (bytes : List Byte)
  /-- a Buckle frame sent: Type of Table 14-3, the fields of its payload, its octets -/
  | buckle (type : Nat) (fields : List Nat) (wire : List Byte)
  /-- a transaction of the front-end SPI: select and octets sent -/
  | gfe (sel : Nat) (bytes : List Byte)
  /-- a frame of a data port: port, kind of frame, fields. Of a frame sent: class, VID (0 without a tag), length, the stamp (tick,
  Fine) of its point at the reference plane, then what it carries -/
  | frame (port kind : Nat) (fields : List Nat)
  deriving DecidableEq, Repr

/-- Everything of the block but memory and the queue. -/
structure Dev where
  /-- the steady CNT tick count of the model: 1.6 ns units since the first power-on -/
  tick : Nat := 0
  /-- the tick at which the CNT tick count last began at zero, none while it does not run (R473) -/
  cntZero : Option Nat := none
  /-- tick of the last reset, and TS_0 at it for AON carriage, in 2^-72 ns (R118) -/
  aonTs0 : Option Nat := none
  aonFrom : Nat := 0
  /-- values of the objects that differ from their defaults -/
  od : Tab Int := []
  scales : Tab Scale := []
  mode : ModeRegs := {}
  acc : Access := {}
  flt : Collector := {}
  pmc : Pmc := {}
  tugs : Tugs := {}
  lanes : Tab LaneReg := []
  ports : Tab PortReg := []
  sel : Select := {}
  awl : Awl := {}
  gnss : Gnss := {}
  keep : Keeper := {}
  ebe : Ebe := {}
  keys : Keys := {}
  pair : Pair := {}
  power : Power := {}
  update : Update := {}
  ageing : Ageing := {}
  svc : Svc := {}
  /-- the next free value: the model's own field (log entry 7) -/
  free : Nat := 0
  out : List Msg := []
  /-- for each ON_CHANGE subscription: its object's value as the last command left it, and whether it has changed since the last
  NOTIFY (R67) -/
  watch : List (Nat × Int × Bool) := []
  deriving DecidableEq, Repr

/-- The state of the block. -/
structure State where
  dev : Dev := {}
  /-- octets of DRAM and SRAM written by the block, by byte address -/
  mem : List Host.Cell := []
  /-- commands waiting, first in, first out -/
  pending : List Instr := []
  deriving DecidableEq, Repr

/-- The machine right after the first release of PORST_N: every object at its default, POWERUP (log entries 1, 3 and 72). -/
def State.reset : State := { dev := { keep := { ovenFrom := some 0 } } }

end Sys2Proof.Machine
end

