-- ==== Sys2Proof/Machine/Ops.lean ====
section
/-! DEFINITION. The operations every meaning is written over: objects, time and time scales, the operation journal,
reports to the fault collector, memory, and what the block puts out. -/

namespace Sys2Proof.Machine

/-! ### Objects -/

/-- The running value of an object. -/
def Dev.num (s : Dev) (k : Nat) : Int := Tab.get Od.dflt s.od k

/-- The running value of an object that carries no sign. -/
def Dev.nat (s : Dev) (k : Nat) : Nat := (s.num k).toNat

/-- Whether a BOOL object is true. -/
def Dev.on (s : Dev) (k : Nat) : Bool := s.num k != 0

/-- Bit i of a bit map. -/
def Dev.bit (s : Dev) (k i : Nat) : Bool := (s.nat k).testBit i

/-- The state in which an object has a value. -/
def Dev.put (s : Dev) (k : Nat) (v : Int) : Dev := { s with od := Tab.set Od.dflt s.od k v }

/-- A BOOL object set. -/
def Dev.putB (s : Dev) (k : Nat) (b : Bool) : Dev := s.put k (if b then 1 else 0)

/-- Bit i of a bit map set (a sticky or live bit). -/
def Dev.flag (s : Dev) (k i : Nat) : Dev := s.put k (setBit (s.nat k) i : Nat)

/-- Bit i of a bit map cleared. -/
def Dev.unflag (s : Dev) (k i : Nat) : Dev := s.put k (clrBit (s.nat k) i : Nat)

/-- Bit i of a bit map as b says. -/
def Dev.putBit (s : Dev) (k i : Nat) (b : Bool) : Dev := s.put k (Machine.putBit (s.nat k) i b : Nat)

/-- A U32 counter that wraps, n further. -/
def Dev.bumpBy (s : Dev) (k n : Nat) : Dev := s.put k ((s.nat k + n) % 4294967296 : Nat)

/-- A U32 counter that wraps, one further. -/
def Dev.bump (s : Dev) (k : Nat) : Dev := s.bumpBy k 1

/-- A U64 counter that wraps, n further. -/
def Dev.bump64 (s : Dev) (k n : Nat) : Dev := s.put k ((s.nat k + n) % 18446744073709551616 : Nat)

/-! Parts of the device changed. -/
def Dev.modMode (s : Dev) (f : ModeRegs → ModeRegs) : Dev := { s with mode := f s.mode }
def Dev.modAcc (s : Dev) (f : Access → Access) : Dev := { s with acc := f s.acc }
def Dev.modFlt (s : Dev) (f : Collector → Collector) : Dev := { s with flt := f s.flt }
def Dev.modTugs (s : Dev) (f : Tugs → Tugs) : Dev := { s with tugs := f s.tugs }
def Dev.modSel (s : Dev) (f : Select → Select) : Dev := { s with sel := f s.sel }
def Dev.modKeep (s : Dev) (f : Keeper → Keeper) : Dev := { s with keep := f s.keep }
def Dev.modEbe (s : Dev) (f : Ebe → Ebe) : Dev := { s with ebe := f s.ebe }
def Dev.modPair (s : Dev) (f : Pair → Pair) : Dev := { s with pair := f s.pair }
def Dev.modKeys (s : Dev) (f : Keys → Keys) : Dev := { s with keys := f s.keys }
def Dev.modPower (s : Dev) (f : Power → Power) : Dev := { s with power := f s.power }

/-- f when the condition holds. -/
def Dev.when (s : Dev) (b : Bool) (f : Dev → Dev) : Dev := if b then f s else s

/-- f for every number of the list, in order. -/
def Dev.each {α : Type} (s : Dev) (l : List α) (f : Dev → α → Dev) : Dev := l.foldl f s

/-- Something put out of the block. -/
def Dev.emit (s : Dev) (m : Msg) : Dev := { s with out := s.out ++ [m] }

/-- A free value, and the state in which the next one is another (log entry 7). -/
def Dev.fresh (s : Dev) : Int × Dev := (Config.freeValue s.free, { s with free := s.free + 1 })

/-! ### Time -/

/-- The state at tick t, with nothing put out yet: a command that comes about before the present tick comes about
now. -/
def Dev.reach (s : Dev) (t : Nat) : Dev := { s with tick := max s.tick t, out := [] }

/-- The 64-bit free-running CNT tick count (R22), 0 while it does not run. -/
def Dev.cnt (s : Dev) : Nat :=
  match s.cntZero with
  | some z => (s.tick - z) % 18446744073709551616
  | none => 0

/-- The CNT tick count at a tick of the model (R22). -/
def Dev.cntOf (s : Dev) (k : Nat) : Nat := s.cnt + k - s.tick

/-- The operating mode. -/
def Dev.md (s : Dev) : Nat := s.nat Od.opMode

/-! The codes of the modes (Table 1-4). -/
namespace Mode
def powerup : Nat := 0
def configure : Nat := 1
def calibrate : Nat := 2
def warmup : Nat := 3
def acquire : Nat := 4
def locked : Nat := 5
def holdover : Nat := 6
def freerun : Nat := 7
def follower : Nat := 8
def resync : Nat := 9
def test : Nat := 10
def safe : Nat := 11
end Mode

/-- Whether the mode is one of the list. -/
def Dev.inMode (s : Dev) (l : List Nat) : Bool := l.contains s.md

/-- A time scale's registers. -/
def Dev.scale (s : Dev) (n : Nat) : Scale := Tab.get (fun _ => {}) s.scales n

/-- A time scale's registers changed. -/
def Dev.modScale (s : Dev) (n : Nat) (f : Scale → Scale) : Dev :=
  { s with scales := Tab.set (fun _ => {}) s.scales n (f (s.scale n)) }

/-- The value of a scale at a tick, in 2^-72 ns, by the latest change at or before it; none where the tick is older than
the changes kept (R132). -/
def valAt : List Mark → Nat → Option Nat
  | [], _ => none
  | m :: ms, k => if m.tick ≤ k then some (m.val + m.inc * (k - m.tick)) else valAt ms k

/-- The INC in force at a tick, in 2^-72 ns. -/
def incAt : List Mark → Nat → Nat
  | [], _ => 0
  | m :: ms, k => if m.tick ≤ k then m.inc else incAt ms k

/-- Whether a scale is running or holding. -/
def Dev.running (s : Dev) (n : Nat) : Bool := s.nat (Od.tsState n) != 0

/-- The value of scale n at the present tick, in 2^-72 ns. -/
def Dev.val72 (s : Dev) (n : Nat) : Nat := (valAt (s.scale n).marks s.tick).getD 0

/-- The value of scale n at the present tick, in 2^-32 ns, the residue truncated (R91); on whole seconds, never
reduced to a narrower width (R88). -/
def Dev.tsNow (s : Dev) (n : Nat) : Int := (s.val72 n / 2 ^ 40 : Nat)

/-- TS_0 at the present tick as a TS128 value, zero while it is not running (R50). -/
def Dev.now0 (s : Dev) : Nat := if s.running 0 then tsNum (s.tsNow 0) else 0

/-- TS_n at tick k and Fine f (1/65536 tick), in 2^-72 ns (R131); none where the scale has no value at that tick. -/
def Dev.conv72 (s : Dev) (n k f : Nat) : Option Nat :=
  let ms := (s.scale n).marks
  (valAt ms k).map fun v => v + f * incAt ms k / 65536

/-- TS_n at tick k and Fine f (1/65536 tick) as a TS128 value, in 2^-32 ns, and whether the conversion is valid (R132): the
residue is truncated last, as at every read of a scale (R91). -/
def Dev.convert (s : Dev) (n k f : Nat) : Int × Bool :=
  match s.conv72 n k f with
  | some v => ((v / 2 ^ 40 : Nat), true)
  | none => (0, false)

/-- The state after a conversion to TS_n of tick k: one older than the changes kept is counted (R132). -/
def Dev.tooOld (s : Dev) (n k : Nat) : Dev :=
  let ms := (s.scale n).marks
  if !ms.isEmpty && (valAt ms k).isNone then
    (s.bump (Od.convTooOld n)).flag (Od.tsSticky n) Bit.tsSticky_ConvTooOld
  else s

/-- Conversion of an event's CNT time to TS_n, with a conversion too old counted (R131, R132). -/
def Dev.conv (s : Dev) (n k f : Nat) : (Int × Bool) × Dev := (s.convert n k f, s.tooOld n k)

/-- INC_nom in 2^-72 ns (R93). -/
def incNom : Nat := 0x000199999999999999999A

/-- INC for a steering value in 0.001 ppt (R93). -/
def incOf (f : Int) : Nat := (rdiv (incNom * (1000000000000000 + f)) 1000000000000000).toNat

/-- The steering value, in 0.001 ppt to the nearest, of an INC (R99). -/
def steerOf (inc : Nat) : Int := rdiv (((inc : Int) - incNom) * 1000000000000000) incNom

/-- The changes back to the last n of INC: changes of the value alone go with the INC in force at them (R132). -/
def keepChanges : Nat → List Mark → List Mark
  | _, [] => []
  | _, [m] => [m]
  | n, m :: o :: ms =>
    if m.inc = o.inc then m :: keepChanges n (o :: ms)
    else if n ≤ 1 then [m] else m :: keepChanges (n - 1) (o :: ms)

/-- A scale set to a value and an INC from the present tick on (R106, R132). -/
def Dev.mark (s : Dev) (n val inc : Nat) : Dev :=
  s.modScale n fun c => { c with marks := keepChanges 1024 (⟨s.tick, val, inc⟩ :: c.marks) }

/-- The INC of a scale in force now. -/
def Dev.inc (s : Dev) (n : Nat) : Nat := incAt (s.scale n).marks s.tick

/-- Ticks from a tick to now. -/
def Dev.since (s : Dev) (k : Nat) : Nat := s.tick - k

/-! ### References -/

/-- A reference's registers. -/
def Dev.rr (s : Dev) (m : Nat) : RefReg := Tab.get (fun _ => {}) s.sel.refs m

def Dev.modRr (s : Dev) (m : Nat) (f : RefReg → RefReg) : Dev :=
  { s with sel := { s.sel with refs := Tab.set (fun _ => {}) s.sel.refs m (f (s.rr m)) } }

/-- Whether a reference is a time reference (Table 4-1). -/
def Dev.isTimeRef (s : Dev) (m : Nat) : Bool :=
  if m < 8 then s.nat (Od.refinFreq m) == 1 && s.on (Od.todEnable m) else m < 14

/-! ### Operation journal (R82 to R86) -/

/-- Whether an outcome of Table 2-12 is final. -/
def JRec.final (r : JRec) : Bool := r.outcome != 0 && r.outcome != 1

/-- The journal without its oldest final record. -/
def dropOldestFinal : List JRec → List JRec
  | [] => []
  | r :: t => if r.final then t else r :: dropOldestFinal t

/-- Whether the journal can take a new record (R85). -/
def Dev.journalFree (s : Dev) : Bool := s.acc.journal.length < 256 || s.acc.journal.any (·.final)

/-- How many new records the journal can take (R85). -/
def Dev.journalRoom (s : Dev) : Nat := 256 - s.acc.journal.countP (!·.final)

/-- The objects that describe the journal. -/
def Dev.journalObjects (s : Dev) (last : Nat) : Dev :=
  ((s.put Od.journalCount s.acc.journal.length).put Od.journalLastOpId last).put Od.journalOldestOpId
    ((s.acc.journal.map (·.id)).foldl min last)

/-- A record opened (R82), with its operation ID; the record reads `outcome` (0 IN_PROGRESS, 1 PENDING). A full journal takes
none: whoever begins an operation looks first whether it is free (R85). -/
def Dev.jOpen (s : Dev) (kind total outcome origin detail restartOf : Nat) : Nat × Dev :=
  if !s.journalFree then (0, s) else
  let id := s.nat Od.journalNextOpId
  let r : JRec := { id, kind, outcome, total, origin, restartOf, detail, start := s.now0, last := s.now0 }
  let keep (l : List JRec) : List JRec := if l.length < 256 then l else dropOldestFinal l
  let s := { s with acc := { s.acc with
    journal := keep s.acc.journal ++ [r], journalFlash := keep s.acc.journalFlash ++ [r] } }
  (id, (s.put Od.journalNextOpId ((id + 1) % 4294967296 : Nat)).journalObjects id)

/-- The record of an ID changed by f. A change of outcome, and every step of UPDATE and LIFECYCLE, is copied to flash
(R83). -/
def Dev.jMod (s : Dev) (id : Nat) (f : JRec → JRec) : Dev :=
  if s.acc.journal.any (·.id == id) then
    let upd (r : JRec) : JRec := if r.id == id then { f r with last := s.now0 } else r
    let toFlash (r : JRec) : Bool :=
      r.id == id && ((upd r).outcome != r.outcome || r.kind == 2 || r.kind == 6)
    let copy (r : JRec) : JRec :=
      match s.acc.journal.find? (fun q => q.id == r.id && toFlash q) with
      | some q => upd q
      | none => r
    let a := { s.acc with journal := s.acc.journal.map upd, journalFlash := s.acc.journalFlash.map copy }
    ({ s with acc := a }).journalObjects id
  else s

/-- Step n of the record completed (R83). -/
def Dev.jStep (s : Dev) (id n : Nat) : Dev := s.jMod id fun r => { r with done := n, lastStep := n }

/-- The record ended with an outcome (2 COMPLETED, 3 FAILED, 4 ABORTED, 5 INTERRUPTED, 6 ABANDONED). -/
def Dev.jEnd (s : Dev) (id outcome : Nat) : Dev := s.jMod id fun r => { r with outcome }

/-- A record of kind ARMED_ACT whose steps are all done at once (R44, R107). -/
def Dev.armedAct (s : Dev) (total detail : Nat) : Dev :=
  let (id, s) := s.jOpen 7 total 0 0 detail 0
  (s.jStep id total).jEnd id 2

/-- JqOrigin of a requester (Table 2-12). -/
def Dev.origin (s : Dev) : Req → Nat
  | .spi => 6
  | .oap sid => match s.acc.sessions.find? (·.sid == sid) with
    | some x => 1 + x.level
    | none => 1
  | .app => 0
  | .log => 7

/-! ### Values held per requester (R86, R475, R313) -/

/-- The code of a requester. -/
def reqCode : Req → Nat
  | .spi => 0
  | .app => 1
  | .log => 2
  | .oap sid => 3 + sid

/-- The place of a requester's own value of an object. -/
def reqKey (q : Req) (k : Nat) : Nat := reqCode q * 16777216 + k

/-- The value a requester holds of an object that is kept per requester. -/
def Dev.mine (s : Dev) (q : Req) (k : Nat) : Int := Tab.get (fun n => Od.dflt (n % 16777216)) s.acc.perReq (reqKey q k)

/-- The values of a requester that ends are forgotten: a later one of the same code finds the defaults (R86). -/
def Dev.forgetMine (s : Dev) (q : Req) : Dev :=
  { s with acc := { s.acc with perReq := s.acc.perReq.filter fun p => p.1 / 16777216 != reqCode q } }

/-- A requester's own value of an object set. -/
def Dev.putMine (s : Dev) (q : Req) (k : Nat) (v : Int) : Dev :=
  { s with acc := { s.acc with
      perReq := Tab.set (fun n => Od.dflt (n % 16777216)) s.acc.perReq (reqKey q k) v } }

/-! ### Reports to the fault collector (R473) -/

/-- The reaction entries that are armed: ReactArm of entry r is 0 unless it is listed. -/
def Dev.arms (s : Dev) : Nat :=
  s.od.foldl (fun m p => if 0x548001 ≤ p.1 ∧ p.1 < 0x54A001 ∧ p.1 % 256 = 1 ∧ p.2 ≠ 0 then
    setBit m (p.1 / 256 - 0x5480) else m) 0

/-- A report of a tick queued for the collector. -/
def Dev.reportAt (s : Dev) (src detail tick : Nat) (settled : Bool) : Dev :=
  s.modFlt fun c => { c with
    queue := c.queue ++ [{ src, detail := detail % 4294967296, tick, settled, arms := s.arms }] }

/-- A report raised now: it waits for its release. -/
def Dev.report (s : Dev) (src detail : Nat) : Dev := s.reportAt src detail s.tick false

/-- Whether the live bit of a CONDITION source is 1. -/
def Dev.isLive (s : Dev) (src : Nat) : Bool := s.bit Od.faultLive (sourceBit src)

/-- A collector's record. -/
def Dev.frec (s : Dev) (src : Nat) : FRec := Tab.get (fun _ => {}) s.flt.recs src

/-- A collector's record changed. -/
def Dev.modFrec (s : Dev) (src : Nat) (f : FRec → FRec) : Dev :=
  { s with flt := { s.flt with recs := Tab.set (fun _ => {}) s.flt.recs src (f (s.frec src)) } }

/-- The live bit of a CONDITION source: its rise is a report (R473), its fall starts the quiet period (R474). -/
def Dev.live (s : Dev) (src detail : Nat) (b : Bool) : Dev :=
  if b then
    if s.isLive src then s else (s.flag Od.faultLive (sourceBit src)).report src detail
  else
    if s.isLive src then (s.unflag Od.faultLive (sourceBit src)).modFrec src fun r => { r with quiet := s.tick } else s

/-! ### Power changes (R501) -/

/-- Whether a block has answered Stay to a change of power state in progress: until it completes or is refused the block starts no
work that would need a Delay. -/
def Dev.stays (s : Dev) (block : Nat) : Bool :=
  match s.power.change with
  | .waiting _ _ _ blocks => !blocks.contains block
  | .entering _ => true
  | _ => false

/-! ### Performance counters (R491 to R494) -/

/-- The overflow word of a counter. -/
def pmcWord (k : Nat) : Nat := if k < 32 then Od.pmcOverflowLo else Od.pmcOverflowHi

/-- The enabled counters that select an event code. -/
def Dev.pmcOf (s : Dev) (e : Nat) : List Nat :=
  ((s.od.filter fun p => p.1 % 256 == 2 && 0x5810 ≤ p.1 / 256 && p.1 / 256 < 0x5850 && p.2 == (e : Int)).map
    fun p => p.1 / 256 - 0x5810).filter fun k => s.on (Od.pmcEnable k)

/-- A counter n further: at 2^48 it wraps and sets its overflow bit (R493). In KEEP it counts nothing (R496). -/
def Dev.pmcAdd (s : Dev) (k n : Nat) : Dev :=
  if s.nat Od.powerState = 3 then s else
  let v := s.nat (Od.pmcValue k) + n
  (s.put (Od.pmcValue k) (v % 2 ^ 48 : Nat)).when (2 ^ 48 ≤ v) (·.flag (pmcWord k) (k % 32))

/-- n events of a code (R491). -/
def Dev.pmcCount (s : Dev) (e n : Nat) : Dev := s.each (s.pmcOf e) (·.pmcAdd · n)

/-- Cycles of the island of a queue code in a number of CNT ticks: HNS at 1.0 GHz, PKT at 1.25 GHz. -/
def pmcCycles (e ticks : Nat) : Nat := if e < 0x0810 then ticks * 16 / 10 else ticks * 2

/-- The tick from which a THRESHOLD counter still has to count. -/
def Dev.pmcSince (s : Dev) (k : Nat) : Nat := max s.pmc.from' (Tab.get (fun _ => 0) s.pmc.at' k)

/-- A THRESHOLD counter has counted up to a tick. -/
def Dev.pmcMark (s : Dev) (k tick : Nat) : Dev := { s with pmc := { s.pmc with at' := Tab.set (fun _ => 0) s.pmc.at' k tick } }

/-- A queue whose occupancy was `occ` up to now: its THRESHOLD counters count the cycles past. -/
def Dev.pmcQueue (s : Dev) (e occ : Nat) : Dev :=
  s.each (s.pmcOf e) fun s k =>
    let from' := s.pmcSince k
    let s := if s.nat (Od.pmcThreshold k) < occ then s.pmcAdd k (pmcCycles e (s.tick - from')) else s
    s.pmcMark k s.tick

/-! ### Memory -/

/-- One octet of memory, none where nothing has written it. -/
def readByte (m : List Host.Cell) (a : Nat) : Option Byte := Tab.find? m a

/-- One octet of memory written. -/
def writeByte (m : List Host.Cell) (a : Nat) (b : Byte) : List Host.Cell := Tab.insert (Tab.erase m a) a b

/-- Octets written from an address upwards. -/
def writeBytes (m : List Host.Cell) (a : Nat) : List Byte → List Host.Cell
  | [] => m
  | b :: bs => writeBytes (writeByte m a b) (a + 1) bs

/-- Memory lists each address once, rising. -/
def Memory.wf (m : List Host.Cell) : Bool := Tab.rising m

/-! ### The state -/

/-- The device changed, the rest of the state as it stands. -/
def State.onDev (s : State) (f : Dev → Dev) : State := { s with dev := f s.dev }

end Sys2Proof.Machine
end

