-- ==== Sys2Proof/Machine/Harness.lean ====
section
/-! DEFINITION. The Harness (R517 to R521): which master reaches which target, the burst that holds a target's path, the requests that
wait for it, their arbitration, and what becomes of them when their master is reset.

The requests are those of the paths that the model holds: the Awl event DMA and the record reads of the service pipelines. What
the management cores ask for comes of their software (log entry 66). -/

namespace Sys2Proof.Machine

/-- Whether a target is one that Table 16-9 allows a master. M3 reaches target 7 from supervisor mode, as its supervisor is part of
the engine's firmware. -/
def busReach (master target : Nat) : Bool :=
  match master with
  | 0 | 4 => target < 10
  | 1 => target ≤ 5
  | 2 => target ≤ 5 || target == 7
  | 3 => target ≤ 2 || target == 7
  | 5 | 6 | 7 | 8 => [0, 1, 3, 4, 5, 7].contains target
  | 9 | 10 => target ≤ 5 || target == 9
  | 11 => [0, 1, 2, 5].contains target
  | 12 => [0, 1, 5].contains target
  | 13 => target ≤ 5
  | _ => false

/-- The present HNS cycle, of 1 ns. -/
def Dev.hnsNow (s : Dev) : Nat := s.tick * 16 / 10

/-- The DRAM channel of an address: with both fitted they alternate every 4 KiB (R513). -/
def Dev.dramTarget (s : Dev) (a : Nat) : Nat := if s.bit Od.dramChannels 1 then a / 4096 % 2 else 0

def Dev.busWaiting (s : Dev) (t : Nat) : List BusReq := Tab.get (fun _ => []) s.power.bus.waiting t

def Dev.busBusy (s : Dev) (t : Nat) : Option (BusReq × Nat) := Tab.get (fun _ => none) s.power.bus.busy t

/-- A target with the burst on its path, the requests that wait, and the master granted last. -/
def Dev.setBus (s : Dev) (t : Nat) (b : Option (BusReq × Nat)) (l : List BusReq) : Dev :=
  s.modPower fun p => { p with bus := {
    waiting := Tab.set (fun _ => []) p.bus.waiting t l
    busy := Tab.set (fun _ => none) p.bus.busy t b
    turn := match b with
      | some (r, _) => Tab.set (fun _ => 0) p.bus.turn t r.master
      | none => p.bus.turn } }

/-- Whether a master comes before another at a target: by HarnessPriority, and at equal priority by whose turn is next. -/
def Dev.busBefore (s : Dev) (t a b : Nat) : Bool :=
  let pa := s.nat (Od.harnessPriority t a)
  let pb := s.nat (Od.harnessPriority t b)
  let place (m : Nat) : Nat := (m + 13 - Tab.get (fun _ => 0) s.power.bus.turn t) % 14
  decide (pb < pa) || (pa == pb && decide (place a < place b))

/-- The request a target grants at a cycle (R520): one that has waited HarnessStarveLimit, else the oldest of the master that comes
first. Its queue holds 32 (R519). -/
def Dev.busPick (s : Dev) (t c : Nat) : Option BusReq :=
  let l := (s.busWaiting t).take 32
  match l.find? fun r => r.since + s.nat Od.harnessStarveLimit ≤ c with
  | some r => some r
  | none =>
    match l with
    | [] => none
    | r :: rest =>
      let m := rest.foldl (fun m x => if s.busBefore t x.master m then x.master else m) r.master
      l.find? (·.master == m)

/-- The path of a target is free at a cycle: the next burst takes it and holds it until its last beat, one beat a cycle (DESIGN CHOICE,
log entry 91). -/
def Dev.busGrant (s : Dev) (t c : Nat) : Dev :=
  match s.busPick t c with
  | some r => s.setBus t (some (r, c + r.beats)) ((s.busWaiting t).erase r)
  | none => s.setBus t none (s.busWaiting t)

/-- The bursts of a target that have ended by now, each followed by the next grant. -/
def Dev.busRun : Nat → Dev → Nat → Dev
  | 0, s, _ => s
  | n + 1, s, t =>
    match s.busBusy t with
    | some (_, e) => if e ≤ s.hnsNow then Dev.busRun n (s.busGrant t e) t else s
    | none => s

/-- A target brought up to now. -/
def Dev.busUpdate (s : Dev) (t : Nat) : Dev := Dev.busRun ((s.busWaiting t).length + 1) s t

/-- One burst asked of a target: granted at once where the path is free. A target the master does not reach answers with an error
response (R517). -/
def Dev.busAsk (s : Dev) (master t beats : Nat) : Dev :=
  if !busReach master t then s.bump Od.harnessDenied
  else
    let s := s.busUpdate t
    let r : BusReq := { master, beats, since := s.hnsNow }
    match s.busBusy t with
    | none => s.setBus t (some (r, s.hnsNow + beats)) []
    | b => s.setBus t b (s.busWaiting t ++ [r])

/-- What becomes of the requests of a master that is reset (R521): a burst in progress is finished towards its target, with strobes
cleared, and the requests not yet granted are retired. What a core or the GNSS engine had asked for is open (free values, log
entry 66). -/
def Dev.retireMaster (s : Dev) (master : Nat) : Dev :=
  let s := s.each (List.range 10) (·.busUpdate ·)
  let waits := sumN ((List.range 10).map fun t => ((s.busWaiting t).filter (·.master == master)).length)
  let inBurst := (List.range 10).any fun t => (s.busBusy t).any (·.1.master == master)
  let s := s.each (List.range 10) fun s t =>
    if (s.busWaiting t).any (·.master == master) then s.setBus t (s.busBusy t) ((s.busWaiting t).filter (·.master != master)) else s
  let own := master < 4 || master == 11
  let (x, s) := if own then s.fresh else (0, s)
  let (y, s) := if own then s.fresh else (0, s)
  let s := s.bumpBy Od.harnessRetired (waits + x.toNat % 65)
  if inBurst ∨ y % 2 = 1 then ((s.bump Od.harnessBurstAborts).pmcCount 0x0320 1).report 216 master else s

end Sys2Proof.Machine
end

