-- ==== Sys2Proof/Machine/Link.lean ====
section
/-! DEFINITION. What the active engine of a pair sends over the Buckle link (chapter 14): frames, and the input log. -/

namespace Sys2Proof.Machine

/-! ### The pair's input log (R449, R452) -/

/-- The epoch of a time on TS_0 (2^-32 ns). -/
def epochOf (t : Int) : Nat := (t * 1024 / second).toNat

/-- Octets of each field of a Buckle frame's payload (Tables 14-3, 14-4), none where the manual lays it out nowhere. In HELLO the
versions stand between RoleClaim and ActiveSince as 24 octets each (DESIGN CHOICE, log entry 90). -/
def buckleWidths (type : Nat) : List Nat :=
  match type with
  | 0x01 => [4, 1, 1, 24, 24, 16]
  | 0x02 => [1, 1, 1, 8] ++ ((List.range 16).map fun _ => [8, 4]).flatten ++ [8]
  | 0x11 => [8, 4, 16]
  | 0x12 => [8, 16]
  | 0x20 => [4, 4]
  | 0x21 => [4]
  | 0x31 => [8, 16]
  | 0x40 => [16, 1]
  | 0x41 => [16]
  | 0x42 => [16]
  | 0x43 => [16, 1]
  | _ => []

/-- The payload of a Buckle frame. -/
def bucklePayload (type : Nat) (fields : List Nat) : List Byte :=
  if buckleWidths type = [] then Config.recordOctets (type :: fields)
  else ((buckleWidths type).zip fields).flatMap fun p => beBytes p.1 p.2

/-- A Buckle frame (Table 14-2). -/
def buckleOctets (type flags seq epoch : Nat) (payload : List Byte) : List Byte :=
  let b := beBytes 1 type ++ beBytes 1 flags ++ beBytes 2 payload.length ++ beBytes 4 seq ++ beBytes 8 epoch ++ payload
  b ++ beBytes 4 (crc32c b)

/-- A Buckle frame sent, under a LinkSeq where its type counts there. -/
def Dev.buckle (s : Dev) (type : Nat) (fields : List Nat) (flags seq : Nat) (payload : List Byte) : Dev :=
  s.emit (.buckle type fields (buckleOctets type flags seq (epochOf (s.tsNow 0)) payload))

/-- A Buckle frame sent that counts in no LinkSeq. -/
def Dev.tell (s : Dev) (type : Nat) (fields : List Nat) : Dev := s.buckle type fields 0 0 (bucklePayload type fields)

/-- KiB that kept frames take. -/
def keptUse (l : List Kept) : Nat := min 32768 (((l.map fun e => 20 + e.payload.length).sum + 1023) / 1024)

/-- A Buckle frame that counts in LinkSeq: it is kept until it is acknowledged. -/
def Dev.sendSeq (s : Dev) (type : Nat) (fields : List Nat) : Dev :=
  let s := s.pmcQueue 0x0860 (keptUse s.pair.unacked)
  let n := s.pair.seqOut
  let e : Kept := { seq := n, type, fields, payload := bucklePayload type fields }
  let p := { s.pair with seqOut := (n + 1) % 4294967296, unacked := s.pair.unacked ++ [e] }
  ({ s with pair := p }.put Od.retransmitBufferUse (keptUse p.unacked)).buckle type fields 0 n e.payload

/-- Whether this engine is the active of a pair whose partner follows or is brought up to follow. -/
def Dev.leads (s : Dev) : Bool := s.nat Od.pairRole == 1 && (s.nat Od.pairState == 2 || s.nat Od.pairState == 4)

/-- An input entered into the log by the active engine of a pair: kind of Table 14-5, entry tick and its content. -/
def Dev.logInput (s : Dev) (kind : Nat) (fields : List Nat) : Dev :=
  if s.leads then { s with pair := { s.pair with logged' := s.pair.logged' + 1 } }.sendSeq 0x10 (kind :: s.cnt :: fields)
  else s

end Sys2Proof.Machine
end

