-- ==== Sys2Proof/Machine/Keeper.lean ====
section
/-! DEFINITION. The Keeper as the servo and the mode controller use it: temperature in use, prediction, re-anchoring,
holdover growth and the holdover timer (R183 to R198). -/

namespace Sys2Proof.Machine

/-! ### Class defaults (Table 5-3), by the class driving TSYN: 0 LO_XTAL, 1 LO_OCXO, 2 LO_ATOM -/

def classUy : Nat → Nat | 0 => 20000000000 | 1 => 100000000 | _ => 50000
def floorUy : Nat → Nat | 0 => 1000000 | 1 => 10000 | _ => 1000
def classUa : Nat → Nat | 0 => 5000000 | 1 => 500000 | _ => 50000
def classUt : Nat → Nat | 0 => 500000000 | 1 => 1000000 | _ => 10000
def classUn : Nat → Nat | 0 => 1000 | 1 => 50 | _ => 5
/-- LearnWindow in hours when it is 0. -/
def classWindow : Nat → Nat | 0 => 168 | _ => 720

/-- The class driving TSYN. -/
def Dev.loClass (s : Dev) : Nat := s.nat Od.loSourceActive

/-- The frequency of the oscillator of a class. -/
def Dev.loFreq (s : Dev) (c : Nat) : Nat := if c = 0 then s.nat Od.xtalFrequency else s.nat Od.loFrequency

/-- HoldoverNoiseCoef, or the default of the class (R186). -/
def Dev.noiseCoef (s : Dev) : Nat :=
  let u := s.nat Od.holdoverNoiseCoef
  if u = 0 then classUn s.loClass else u

/-! ### Temperature (R184) -/

/-- TempInUse, TempExternalAge and TempStale at an update. With the external sensor TempInUse is its last valid value, stale or
not: the last written, or the default of TempExternal. -/
def Dev.takeTemp (s : Dev) : Dev :=
  let age := match s.keep.extAt with
    | some k => min sat32 (s.since k / ticksPerMs)
    | none => sat32
  let s := s.put Od.tempExternalAge age
  if s.nat Od.tempSource = 0 then
    { s.put Od.tempInUse (s.num Od.tempOnChip) with keep := { s.keep with stale := false } }
  else
    let stale := s.nat Od.tempStaleLimit < age
    let s := (s.put Od.tempInUse (s.num Od.tempExternal)).when stale (·.flag Od.keeperSticky Bit.keeperSticky_TempStale)
    { s with keep := { s.keep with stale } }

/-! ### What enters the bound from the Keeper -/

/-- The active's Local quantities where this engine follows it and they have come (R246, Table 14-5). -/
def Dev.theirs (s : Dev) : Option ActiveTerms := if s.md = Mode.follower then s.pair.terms else none

/-- U_y, U_a and U_T in force for the bound: a follower computes the active's. -/
def Dev.uncs (s : Dev) : Nat × Nat × Nat :=
  match s.theirs with
  | some x => (x.uy, x.ua, x.ut)
  | none => (s.nat Od.modelFreqUnc, s.nat Od.modelAgeingUnc, s.nat Od.modelTempUnc)

/-- LoState as the bound counts it. -/
def Dev.boundLo (s : Dev) : Nat := s.theirs.elim (s.nat Od.loState) (·.lo)

/-- TempInUse as the bound counts it. -/
def Dev.boundTemp (s : Dev) : Int := s.theirs.elim (s.num Od.tempInUse) (·.temp)

/-! ### Prediction (R183) -/

/-- keeper_prediction at a time on TS_0 in 2^-32 ns, in 0.001 ppt. -/
def Dev.predict (s : Dev) (t : Int) : Int :=
  let day := 86400 * second
  let dt := t - tsTime (s.nat Od.modelAnchorTime)
  let dT := if s.on Od.tempCompEnable then s.num Od.tempInUse - s.num Od.modelAnchorTemp else 0
  rdiv (s.num Od.modelOffset * day * 1000 + s.num Od.modelAgeing * dt * 1000 + s.num Od.modelTempCoef * dT * day)
    (day * 1000)

/-! ### Learning held off and re-anchoring (R180, R190) -/

/-- Whether R180 holds learning off. -/
def Dev.settling (s : Dev) : Bool :=
  let h := s.nat Od.ovenSettleTime * ticksPerSec
  s.loClass == 1 && [s.keep.ovenHeldAt, s.keep.ovenEndAt].any fun k => k.any fun k => decide (s.since k < h)

/-- The model re-anchored on the updates kept, or AnchorShort. -/
def Dev.reanchor (s : Dev) : Dev :=
  let us := s.keep.recent.filter (·.ok)
  let n : Int := us.length
  if us.length < 128 then s.flag Od.keeperSticky Bit.keeperSticky_AnchorShort
  else
    let newest := (us.head?.map (·.t)).getD 0
    let oldest := (us.getLast?.map (·.t)).getD 0
    ((s.put Od.modelAnchorTime (tsNum ((newest + oldest) / 2))).put Od.modelAnchorTemp
        (rdiv (sumI (us.map (·.temp))) n)).put Od.modelOffset (rdiv (sumI (us.map (·.integ))) (n * 4294967296))

/-! ### Holdover growth (R193) -/

/-- U_f of the active class. -/
def Dev.faultUnc (s : Dev) : Nat :=
  match s.loClass with
  | 1 => s.nat Od.ovenUnreadyUnc
  | 2 => s.nat Od.atomUnlockUnc
  | _ => 0

/-- 2^-32 ns to the second, as a number. -/
def secondN : Nat := 4294967296000000000

/-- H in 2^-16 ns, rounded up, for a time tau in 2^-32 ns, an integral of dT in 0.001 K × 2^-32 ns and a time in DEGRADED in
2^-32 ns. -/
def growth (uy ua ut un uf tau dti degraded : Nat) : Nat :=
  let d := 2 * 86400 * 1000000 * secondN * secondN * 1000
  let n1 := uy * tau * 65536 * (d / (1000000 * secondN))
  let n2 := ua * tau * tau * 65536 * (d / (2 * 86400 * 1000000 * secondN * secondN))
  let n3 := ut * dti * 65536 * (d / (1000000 * 1000 * secondN))
  let n4 := csqrt (cdiv ((un * 65536) * (un * 65536) * (tau * tau * tau) * d * d)
    (1000000000000 * secondN * secondN * secondN))
  let n5 := uf * degraded * 65536 * (d / (1000000 * secondN))
  min sat64 (cdiv (n1 + n2 + n3 + n4 + n5) d)

/-- TempStale is live. -/
def Dev.tempStale (s : Dev) : Bool := s.keep.stale && s.nat Od.tempSource == 1

/-- dT of R193, in 0.001 K. -/
def Dev.excursion (s : Dev) : Nat :=
  let d := (s.boundTemp - s.keep.temp).natAbs
  if s.tempStale then max d (s.nat Od.tempStaleExcursion) else d

/-- tau of R193 in 2^-32 ns. -/
def Dev.holdTau (s : Dev) : Nat := (s.tsNow 0 - s.keep.base).toNat

/-- HoldoverState, or how TEST or SAFE entered from HOLDOVER goes on with it: 0 none, 1 running, 2 exceeded (log entry 82). -/
def Dev.holding (s : Dev) : Nat := if s.nat Od.holdoverState = 0 then s.keep.hold else s.nat Od.holdoverState

/-- H at j updates beyond the present one, with dT and LoState as they are now (R194). -/
def Dev.growthIn (s : Dev) (j : Nat) : Nat :=
  let k := s.keep
  let t := j * (secondN / 128)
  if s.boundLo = 4 then sat64
  else growth k.uy k.ua k.ut s.noiseCoef s.faultUnc (s.holdTau + t) (k.dti + s.excursion * t)
    (k.degraded + if s.boundLo = 3 then t else 0)

/-- R193 at an update in HOLDOVER: dT and LoState count for the time since the update before. -/
def Dev.holdGrowth (s : Dev) : Dev :=
  let k := s.keep
  let t := s.holdTau - k.tau
  let deg := if s.boundLo = 3 then t else 0
  let hot := s.tempStale && k.ut * s.excursion * t != 0 && !k.staleNoted
  let bad := s.faultUnc * deg != 0 && !k.loNoted
  let s := { s with keep := { k with
    tau := k.tau + t, dti := k.dti + s.excursion * t, degraded := k.degraded + deg
    staleNoted := k.staleNoted || hot, loNoted := k.loNoted || bad } }
  let s := s.when hot (·.flag Od.holdoverSticky Bit.holdoverSticky_TempStaleInHoldover)
  let s := s.when bad (·.flag Od.holdoverSticky Bit.holdoverSticky_LoFaultInHoldover)
  (s.put Od.holdoverGrowth (s.growthIn 0)).put Od.holdoverElapsed (min sat32 (s.holdTau / secondN))

/-- The least j in lo + 1 … lo + 2^n at which f reaches the limit, when it does at lo + 2^n. -/
def bisect (f : Nat → Nat) (limit : Nat) : Nat → Nat → Nat
  | 0, lo => lo + 1
  | n + 1, lo => if limit ≤ f (lo + 2 ^ n) then bisect f limit n lo else bisect f limit n (lo + 2 ^ n)

/-- The holdover timer (R194, R195) for a rest of the bound. -/
def Dev.holdTimer (s : Dev) (rest : Nat) : Dev :=
  let limit := s.nat Od.holdoverLimit
  let f (j : Nat) : Nat := min sat64 (rest + s.growthIn j)
  let span := 2 ^ 39    -- 2^32 s of updates
  let x := if limit ≤ f 0 then some 0 else if limit ≤ f span then some (bisect f limit 39 0) else none
  match x with
  | some j =>
    let left := j / 128
    let s := (s.put Od.holdoverLimitTime
      (tsNum (s.tsNow 0 + (j * (secondN / 128) : Nat)))).put Od.holdoverRemaining left
    if j ≤ s.nat Od.holdoverWarnLead * 128 ∧ s.keep.warned = false then
      { s.flag Od.holdoverSticky Bit.holdoverSticky_HoldoverWarning with keep := { s.keep with warned := true } }
    else s
  | none => (s.put Od.holdoverLimitTime 0).put Od.holdoverRemaining sat32

/-- Growth starts from here: H is 0, with the uncertainties now in force. -/
def Dev.startGrowth (s : Dev) : Dev :=
  let (uy, ua, ut) := s.uncs
  let s := s.modKeep fun k => { k with
    base := s.tsNow 0, temp := s.boundTemp, tau := 0, dti := 0, degraded := 0
    warned := false, loNoted := false, staleNoted := false, uy, ua, ut }
  s.put Od.holdoverGrowth (s.growthIn 0)

/-- Entry to HOLDOVER (R192). -/
def Dev.startHoldover (s : Dev) : Dev :=
  ((((s.put Od.holdoverState 1).put Od.holdoverEntryTime s.now0).put Od.tempEntry
    s.boundTemp).bump Od.holdoverCount).startGrowth

/-- The mode leaves HOLDOVER (R198). -/
def Dev.endHoldover (s : Dev) : Dev := s.put Od.holdoverState 0

/-- LoFail is declared (R182): detail 0 frequency, 1 no edge, 2 TSYN lock. -/
def Dev.loFailed (s : Dev) (detail : Nat) : Dev :=
  let s := (s.put Od.loState 4).flag Od.loSticky Bit.loSticky_LoFail
  let s := s.when (detail == 2) fun s => (s.flag Od.loSticky Bit.loSticky_TsynLockLost).putB Od.tsynLocked false
  (s.put Od.holdoverGrowth (sat64 : Nat)).live 0 detail true

/-- What the AON monitor measures (R182): an offset of more than 1,000 ppm is LoFail. -/
def Dev.loMeasured (s : Dev) (lo : Int) : Dev :=
  let s := s.put Od.loMeasuredOffset lo
  if 1000000000000 < lo.natAbs ∧ s.nat Od.loState ≠ 4 then s.loFailed 0 else s

end Sys2Proof.Machine
end

