-- ==== Sys2Proof/Machine/Schedule.lean ====
section
/-! DEFINITION. The schedule table and the timed pins as the other blocks move them: what a step of a scale, a stop of a
scale and a hold of the outputs do to entries, generators and pulses (R288 to R307). -/

namespace Sys2Proof.Machine

/-! ### Entries (Table 9-1) -/

/-- A field of an entry's 48 octets. -/
def entryField (v off size : Nat) : Nat := v / 256 ^ (48 - off - size) % 256 ^ size

def entryAction (v : Nat) : Nat := entryField v 0 1
def entryScale (v : Nat) : Nat := entryField v 1 1
def entryTarget (v : Nat) : Nat := entryField v 2 2
def entryFlags (v : Nat) : Nat := entryField v 4 2
def entryArg (v : Nat) : Nat := entryField v 6 2
def entryTime (v : Nat) : Int := tsTime (entryField v 8 16)
/-- Period and Width, in 2^-16 ns. -/
def entryPeriod (v : Nat) : Nat := entryField v 24 8
def entryWidth (v : Nat) : Nat := entryField v 32 8
def entryParam (v : Nat) : Nat := entryField v 44 4

/-- How many occurrences the entry has, none where it is endless (Table 9-1, Count). -/
def entryCount (v : Nat) : Option Nat :=
  let c := entryField v 40 4
  if entryPeriod v = 0 then some (if c = 0 then 1 else c) else if c = 0 then none else some c

/-- Time of occurrence k, in 2^-32 ns. -/
def entryAt (v k : Nat) : Int := entryTime v + (k * entryPeriod v * 65536 : Nat)

/-- The occurrences of an entry at or before a scale value, as a count from occurrence 0. -/
def entryReached (v : Nat) (now : Int) : Nat :=
  if now < entryTime v then 0
  else
    let p := entryPeriod v * 65536
    let n := if p = 0 then (entryCount v).getD 1 else (now - entryTime v).toNat / p + 1
    match entryCount v with
    | some c => min n c
    | none => n

/-- A schedule entry's registers. -/
def Dev.sched (s : Dev) (e : Nat) : SchedE := Tab.get (fun _ => {}) s.tugs.sched e

def Dev.modSched (s : Dev) (e : Nat) (f : SchedE → SchedE) : Dev :=
  { s with tugs := { s.tugs with sched := Tab.set (fun _ => {}) s.tugs.sched e (f (s.sched e)) } }

/-- The entries that are not free, by ascending number. -/
def Dev.entries (s : Dev) : List Nat := (s.tugs.sched.filter (fun p => p.2.state != 0)).map (·.1)

/-- The time at which an entry falls due next, in 2^-32 ns: of a COMMIT entry, the set's instant. -/
def Dev.entryDue (s : Dev) (e : Nat) : Int :=
  let v := s.nat (Od.schedEntry e)
  entryAt v (s.sched e).next

/-- The state of an entry whose `next` occurrence is reached: DONE after the last one (R304). -/
def stateAfter (v next : Nat) (x : SchedE) : Nat :=
  match entryCount v with
  | some c => if c ≤ next then 2 else x.state
  | none => x.state

/-- What a setting of a scale to `new` does to one ARMED entry of it (R306): passed pulses and frames are skipped, other
actions are owed one late run. -/
def Dev.passEntry (s : Dev) (new : Int) (e : Nat) : Dev :=
  let v := s.nat (Od.schedEntry e)
  let x := s.sched e
  let r := entryReached v new
  if r ≤ x.next then s
  else
    let p := r - x.next
    let drops := entryAction v == 1 || entryAction v == 4
    let lost := if drops then p else p - 1
    let s := s.modSched e fun y =>
      { y with next := r, skipped := y.skipped + lost, late := !drops,
               state := if drops then stateAfter v r y else y.state }
    s.when (0 < lost) (·.flag Od.schedSticky Bit.schedSticky_Skipped)

/-! ### Timed pins -/

/-- A pin's registers. -/
def Dev.tio (s : Dev) (n : Nat) : Tio := Tab.get (fun _ => {}) s.tugs.tio n

def Dev.modTio (s : Dev) (n : Nat) (f : Tio → Tio) : Dev :=
  { s with tugs := { s.tugs with tio := Tab.set (fun _ => {}) s.tugs.tio n (f (s.tio n)) } }

/-- The pins. -/
def pins : List Nat := List.range 32

/-- The pins whose function is OUTPUT. -/
def Dev.outputs (s : Dev) : List Nat := pins.filter fun n => s.nat (Od.tioFunction n) == 2

/-- The present CNT instant in 1.6 ns / 2^20. -/
def Dev.fineNow (s : Dev) : Nat := s.tick * 1048576

/-- The CNT instant, in 1.6 ns / 2^20, at which scale n has a value in 2^-32 ns: the inverse of R131 under the INC in
force. -/
def Dev.instantOf (s : Dev) (n : Nat) (t : Int) : Int :=
  match (s.scale n).marks.head? with
  | some m => (m.tick : Int) * 1048576 + rdiv ((t * 2 ^ 40 - m.val) * 1048576) (max 1 m.inc)
  | none => s.fineNow

/-- The CNT tick count at which scale n has a value. -/
def Dev.tickAt (s : Dev) (n : Nat) (t : Int) : Nat := ((s.instantOf n t + 1048575) / 1048576).toNat

/-- An active interval in progress on a pin is cut short (R292, R303, R307). -/
def Dev.cutPulse (s : Dev) (n : Nat) : Dev :=
  if s.fineNow < (s.tio n).offAt then
    ((s.modTio n fun x => { x with offAt := s.fineNow }).bump (Od.tioTruncated n)).flag Od.schedSticky
      Bit.schedSticky_Truncated
  else s

/-- Whether an active interval is in progress on a driven pin: a pulse, or its latch. -/
def Dev.pinActive (s : Dev) (p : Nat) : Bool := (s.tio p).latch || decide (s.fineNow < (s.tio p).offAt)

/-- A step, or a setting at one tick, of scale n from `old` to `new`, both in 2^-32 ns, as the schedule and the periodic
generators see it (R306). -/
def Dev.acrossStep (s : Dev) (n : Nat) (old new : Int) : Dev :=
  if old < new then
    let s := s.each (s.entries.filter fun e =>
        (s.sched e).state == 1 && entryScale (s.nat (Od.schedEntry e)) == n) (·.passEntry new ·)
    s.each (s.outputs.filter fun p => s.nat (Od.tioTimeScale p) == n)
      fun s p => s.modTio p fun x => { x with pos := max x.pos new }
  else s

/-- A scale that becomes STOPPED orphans its entries (R307). -/
def Dev.orphanScale (s : Dev) (n : Nat) : Dev :=
  s.each (s.entries.filter fun e =>
      (s.sched e).state == 1 && entryScale (s.nat (Od.schedEntry e)) == n)
    fun s e => s.modSched e fun x => { x with state := 3, late := false }

/-! ### Hold and resumption of the outputs (R292) -/

/-- Whether the outputs run in a mode (Table 1-4); in TEST they are as configured for test. -/
def outputsRun (m : Nat) : Bool :=
  m == Mode.acquire || m == Mode.locked || m == Mode.holdover || m == Mode.freerun || m == Mode.follower ||
    m == Mode.test

/-- TioState of a pin for a mode. -/
def tioStateIn (m : Nat) : Nat := if outputsRun m then 1 else if m == Mode.safe then 3 else 2

/-- Whether this engine drives an output of a bit mask of shared outputs: a shared output is high-impedance while the role is
not ACTIVE, an independent one is driven by both engines (R444; log entry 35). -/
def Dev.drivesNet (s : Dev) (shared i : Nat) : Bool := !(s.nat shared).testBit i || s.nat Od.pairRole == 1

/-- Every output held low or muted: pulses in progress are cut short. -/
def Dev.holdOutputs (s : Dev) (m : Nat) : Dev :=
  let s := s.each s.outputs fun s n => (s.cutPulse n).put (Od.tioState n) (tioStateIn m)
  s.each (List.range 4) fun s i => s.put (Od.osynState i) 0

/-- AlignPhase of a synthesizer, in 2^-32 ns. -/
def Dev.osynAlignPhase (s : Dev) (i : Nat) : Int := Tab.get (fun _ => 0) s.tugs.osynAlign i

/-- OsynState of a synthesizer that runs with no phase left to remove: ALIGNED, or FREE where it has no alignment. -/
def Dev.osynRest (s : Dev) (i : Nat) : Nat := if s.nat (Od.osynAlign i) = 1 then 1 else 3

/-- A synthesizer starts at its aligned phase (R295), with no phase left to remove. -/
def Dev.startOsyn (s : Dev) (i : Nat) : Dev :=
  if s.on (Od.osynEnable i) then (s.put (Od.osynState i) (s.osynRest i)).put (Od.osynPhaseError i) 0
  else s.put (Od.osynState i) 0

/-- The outputs resume: each generator begins with the first whole pulse after the resumption, latched pins are driven at
once, synthesizers start aligned. -/
def Dev.resumeOutputs (s : Dev) (m : Nat) : Dev :=
  let s := s.each s.outputs fun s n =>
    (s.put (Od.tioState n) (tioStateIn m)).modTio n fun x =>
      { x with pos := max x.pos (s.tsNow (s.nat (Od.tioTimeScale n))) }
  s.each (List.range 4) (·.startOsyn ·)

/-- A change of phase of a synthesizer by d, in 2^-32 ns, to be removed at SlopeLimit (R295): it never jumps. -/
def Dev.pullOsyn (s : Dev) (i : Nat) (d : Int) : Dev :=
  if s.nat (Od.osynState i) = 0 then s
  else
    -- half a period of OsynFreq (µHz) in 2^-32 ns bounds the residual (R130)
    let per : Int := rdiv (second * 1000000) (max 1 (s.num (Od.osynFreq i)))
    let e := fine16 (s.num (Od.osynPhaseError i)) + d
    let r := (e + per / 2) % per - per / 2
    (s.put (Od.osynPhaseError i) (to16 r)).put (Od.osynState i) (if to16 r = 0 then s.osynRest i else 2)

/-- A step of scale n by d as the synthesizers on it see it (R130, R295). -/
def Dev.stepOsyns (s : Dev) (n : Nat) (d : Int) : Dev :=
  s.each ((List.range 4).filter fun i => s.nat (Od.osynTimeScale i) == n) (·.pullOsyn · d)

end Sys2Proof.Machine
end

