-- ==== Sys2Proof/Machine/Frontend.lean ====
section
/-! DEFINITION. The GNSS front-ends and channels as the other blocks move them: scripts and transactions (R263, R264),
channels that stop, and what the Keeper check keeps (R283). -/

namespace Sys2Proof.Machine

def Dev.modGnss (s : Dev) (f : Gnss → Gnss) : Dev := { s with gnss := f s.gnss }

/-- An antenna's registers. -/
def Dev.antenna (s : Dev) (a : Nat) : Antenna := Tab.get (fun _ => {}) s.gnss.antennas a

def Dev.modAntenna (s : Dev) (a : Nat) (f : Antenna → Antenna) : Dev :=
  s.modGnss fun g => { g with antennas := Tab.set (fun _ => {}) g.antennas a (f (s.antenna a)) }

/-- The last passed solutions after TS_0 has moved by d. -/
def Dev.movePassed (s : Dev) (d : Int) : Dev :=
  s.each [0, 1] fun s a => s.modAntenna a fun x =>
    { x with passed := x.passed.map fun p => { p with t := p.t + d, x := p.x - d } }

/-- No solution has passed since CONFIGURE. -/
def Dev.forgetPassed (s : Dev) : Dev := s.each [0, 1] fun s a => s.modAntenna a fun x => { x with passed := none }

/-- The channels of an IF (R267). -/
def ifChannels (k : Nat) : List Nat := (List.range 48).map (k * 48 + ·)

/-- IfChannelsTracking of an IF. -/
def Dev.countTracking (s : Dev) (k : Nat) : Dev :=
  s.put (Od.ifChannelsTracking k) ((ifChannels k).filter fun c => s.nat (Od.chState c) == 3).length

/-! ### Searches (R265, R266) -/

/-- Band of a signal of Table 8-2: 0 L1, 1 L5 (R265). -/
def sigBand (sig : Nat) : Nat := sig % 2

/-- Whether a channel may track a signal: that of its IF's band (R258, R265). -/
def channelTakes (c sig : Nat) : Bool := decide (sig < 6) && c / 48 % 2 == sigBand sig

/-- The satellite numbers of a signal's system (R265). -/
def svKnown (sig sv : Nat) : Bool :=
  match sig / 2 with
  | 0 => decide (1 ≤ sv) && decide (sv ≤ 32)
  | 1 => decide (1 ≤ sv) && decide (sv ≤ 36)
  | _ => decide (19 ≤ sv) && decide (sv ≤ 63)

/-- The queue takes a search: of a signal and satellite of R265, for a channel of its band that runs none and is not at work, up to
64. An IDLE channel passes to SEARCH. -/
def Dev.queueSearch (s : Dev) (q : Search) : Dev :=
  if s.gnss.queue.length < 64 ∧ channelTakes q.ch q.sig ∧ svKnown q.sig q.sv ∧ s.on (Od.ifEnable (q.ch / 48)) ∧
      s.nat (Od.chState q.ch) ≠ 2 ∧ s.nat (Od.chState q.ch) ≠ 3 ∧ !s.gnss.queue.any (·.ch == q.ch) then
    let s := s.modGnss fun g => { g with
      queue := g.queue ++ [q], searchAt := if g.queue.isEmpty then s.tick else g.searchAt }
    ((s.put (Od.chState q.ch) (if s.nat (Od.chState q.ch) = 4 then 4 else 1)).put (Od.chSignal q.ch) q.sig).put (Od.chSv q.ch) q.sv
  else s

def Dev.queueSearches (s : Dev) (qs : List Search) : Dev := s.each qs (·.queueSearch ·)

/-- The search of a channel for what it had, from its last Doppler. -/
def Dev.searchAgain (s : Dev) (c : Nat) : Dev :=
  s.queueSearch { ch := c, sig := s.nat (Od.chSignal c), sv := s.nat (Od.chSv c), doppler := s.num (Od.chDoppler c) }

/-- The searches of channels leave the queue. -/
def Dev.dropSearches (s : Dev) (f : Nat → Bool) : Dev :=
  s.modGnss fun g =>
    let q := g.queue.filter fun q => !f q.ch
    { g with queue := q, searchAt := if q.head? = g.queue.head? then g.searchAt else s.tick }

/-- The channels of an IF that are not IDLE go to a state: IDLE, or SEARCH, to reacquire what they had. -/
def Dev.stopChannels (s : Dev) (k st : Nat) : Dev :=
  let cs := (ifChannels k).filter fun c => s.nat (Od.chState c) != 0
  let s := (s.dropSearches fun c => c / 48 == k).each cs fun s c => s.put (Od.chState c) st
  (if st = 0 then s else s.each cs (·.searchAgain ·)).countTracking k

/-- Every channel IDLE. -/
def Dev.idleChannels (s : Dev) : Dev := s.each [0, 1, 2, 3] fun s k => s.stopChannels k 0

/-- One front-end transaction. -/
def Dev.gfeSend (s : Dev) (sel : Nat) (bs : List Byte) : Dev := (s.bump Od.gfeTransfers).emit (.gfe sel bs)

/-- The transactions of a script, none where a Len is above 32: a Len octet, then as many octets, to a Len of 0. -/
def scriptOf : Nat → List Byte → Option (List (List Byte))
  | 0, _ => some []
  | _ + 1, [] => some []
  | n + 1, l :: bs =>
    let len := l.toNat
    if len = 0 then some []
    else if 32 < len then none
    else (scriptOf n (bs.drop len)).map (bs.take len :: ·)

/-- The script of IF k is played: its channels stop and reacquire afterwards. -/
def Dev.playScript (s : Dev) (k : Nat) : Dev :=
  let t := (scriptOf 256 (beBytes 256 (s.nat (Od.gfeScript k)))).getD []
  (s.stopChannels k 1).each t fun s bs => s.gfeSend k bs

def Dev.playScripts (s : Dev) : Dev := s.each [0, 1, 2, 3] (·.playScript ·)

/-- M1 stores almanac and ephemeris in flash (R278). -/
def Dev.storeAlmanac (s : Dev) : Dev := s.modGnss fun g => { g with storedAt := some s.tick }

/-- RESET_BLOCK of the GNSS baseband (Table 15-3). -/
def Dev.gnssRestart (s : Dev) : Dev := s.idleChannels.playScripts

end Sys2Proof.Machine
end

