-- ==== Sys2Proof/Machine/Lanes.lean ====
section
/-! DEFINITION. The serial lanes (chapter 10): types and entries, the states of Table 10-3, latencies, sleep, patterns and the
eye scan. -/

namespace Sys2Proof.Machine

/-- A lane's registers. -/
def Dev.lane (s : Dev) (l : Nat) : LaneReg := Tab.get (fun _ => {}) s.lanes l

def Dev.modLane (s : Dev) (l : Nat) (f : LaneReg → LaneReg) : Dev :=
  { s with lanes := Tab.set (fun _ => {}) s.lanes l (f (s.lane l)) }

/-! ### Types (Table 10-1) -/

/-- The types a lane may run. -/
def laneTypes (l : Nat) : List Int := if l < 16 then [0, 1, 2, 3] else if l < 20 then [4] else [0, 1]

/-- The FEC modes a type allows. -/
def fecModes (pcs : Int) : List Int := if pcs = 1 then [0, 1] else if pcs = 2 then [0, 1, 2] else if pcs = 3 then [2] else [0]

/-- Rate code of a type. -/
def rateCode (pcs : Nat) : Nat := if pcs = 0 then 1 else if pcs = 1 then 2 else if pcs = 4 then 4 else 3

/-- UI of a type in ns, as a fraction. -/
def uiOf (pcs : Nat) : Nat × Nat :=
  if pcs = 0 then (4, 5) else if pcs = 1 then (32, 330) else if pcs = 4 then (32, 900) else (32, 825)

/-- The lanes that change state together with a lane (R316), lowest first. -/
def Dev.laneGroup (s : Dev) (l : Nat) : List Nat :=
  if l < 16 ∧ s.nat (Od.lanePcs l) = 3 then [l / 4 * 4, l / 4 * 4 + 1, l / 4 * 4 + 2, l / 4 * 4 + 3] else [l]

/-- The lane that controls a lane's group. -/
def Dev.laneHead (s : Dev) (l : Nat) : Nat := (s.laneGroup l).headD l

/-! ### Equalisation entries (R320 to R322) -/

/-- Octet i of an entry. -/
def eqByte (e i : Nat) : Nat := e / 256 ^ (31 - i) % 256

/-- A signed octet of an entry. -/
def eqInt (e i : Nat) : Int := untwos 8 (eqByte e i)

/-- The signed 32-bit field of an entry at an offset. -/
def eqLatency (e off : Nat) : Int := untwos 32 (e / 256 ^ (28 - off) % 2 ^ 32)

/-- Whether an entry write passes the checks of R321. -/
def eqValid (r e : Nat) : Bool :=
  let b := eqByte e
  let i := eqInt e
  let inside (x lo hi : Int) : Bool := decide (lo ≤ x) && decide (x ≤ hi)
  b 0 == 1 && b 1 == r && decide (b 2 < 8) && decide (b 3 ≤ 3) && inside (i 4) (-8) 0 && inside (i 5) (-24) 0 &&
    decide (24 ≤ b 6) && decide (b 6 ≤ 64) && inside (i 7) (-32) 0 && decide (b 8 ≤ 15) && decide (b 9 ≤ 31) &&
    decide (b 10 ≤ 31) && b 11 == 0 && [12, 13, 14, 15, 16].all (fun k => inside (i k) (-64) 63) &&
    [17, 18, 19, 28, 29].all (fun k => b k == 0) &&
    decide ((i 4).natAbs + (i 5).natAbs + b 6 + (i 7).natAbs ≤ 64) &&
    e % 65536 == crc16 (beBytes 30 (e / 65536))

/-- Whether an entry is present: its Valid bit is set. -/
def eqPresent (e : Nat) : Bool := (eqByte e 2).testBit 0

/-- The stored entry of a lane's current rate. -/
def Dev.eqStored (s : Dev) (l : Nat) : Nat := s.nat (Od.eqEntry l (rateCode (s.nat (Od.lanePcs l))))

/-- EqPending of a lane (R322). -/
def Dev.eqPending (s : Dev) (l : Nat) : Dev :=
  let p := s.eqStored l != (s.lane l).applied
  (s.putBit (Od.laneLive l) 5 p).when p (·.flag (Od.laneSticky l) Bit.laneSticky_EqPending)

/-! ### Latencies (R327 to R330) -/

/-- The latencies of a lane, for the entry it applied. -/
def Dev.laneLatency (s : Dev) (l : Nat) : Dev :=
  let e := (s.lane l).applied
  let (n, d) := uiOf (s.nat (Od.lanePcs l))
  let slip := rdiv (s.nat (Od.rxSlip l) * n * 65536 : Nat) d
  let tx := s.num (Od.laneTxFixed l) + eqLatency e 20
  let rx := s.num (Od.laneRxFixed l) + slip + eqLatency e 24 + s.num (Od.laneDeskew l)
  (s.put (Od.laneTxLatency l) tx.toNat).put (Od.laneRxLatency l) rx.toNat

/-- RxSlip recorded: a bit position of 0 to 65, of 1000BASE-X 0 to 19 (R328). -/
def Dev.recordSlip (s : Dev) (l slip : Nat) : Dev :=
  let slip := min slip (if s.nat (Od.lanePcs l) = 0 then 19 else 65)
  let changed := s.nat (Od.rxSlip l) != slip
  ((s.put (Od.rxSlip l) slip).when changed (·.flag (Od.laneSticky l) Bit.laneSticky_RxSlipChanged)).laneLatency l

/-- PortMode and the timestamp terms of the port a data or management lane carries (R348, Table 11-3): by the lane's type
while the lane is not OFF. -/
def Dev.portFollows (s : Dev) (l : Nat) : Dev :=
  if 16 ≤ l ∧ l < 20 then s
  else
    let p := if l < 16 then l else l - 4
    let pcs := s.nat (Od.lanePcs l)
    let mode := if s.nat (Od.laneState l) = 0 then 0 else if pcs = 3 ∧ l % 4 ≠ 0 then 5 else pcs + 1
    let s := s.put (Od.portMode p) mode
    if 16 ≤ p then s
    else match mode with
      | 1 => (s.put (Od.portTsSysTerm p) 13108).put (Od.portRandomSigma p) 328
      | 2 => (s.put (Od.portTsSysTerm p) 3933).put (Od.portRandomSigma p) 128
      | 3 => (s.put (Od.portTsSysTerm p) 2622).put (Od.portRandomSigma p) 128
      | 4 => (s.put (Od.portTsSysTerm p) 3277).put (Od.portRandomSigma p) 128
      | _ => s

/-! ### Patterns (R342, R343) -/

/-- The line rate of a type in bits, four ticks long (Table 10-1). -/
def bitsOf (pcs : Nat) : Nat := if pcs = 0 then 8 else if pcs = 1 then 66 else if pcs = 4 then 180 else 165

/-- The bits of a lane since a tick. -/
def Dev.bitsSince (s : Dev) (l k : Nat) : Nat := s.since k * bitsOf (s.nat (Od.lanePcs l)) / 4

/-- The errors injected at a ratio on a lane and not yet in PatInjected. -/
def Dev.injectedSince (s : Dev) (l : Nat) : Nat :=
  match (s.lane l).injFrom with
  | some k => s.bitsSince l k / 10 ^ s.nat (Od.patInjectRate (l - 16))
  | none => 0

/-- PatBits, PatErrors and PatInjected of pattern lane i now: what the objects hold and what has been checked and injected since. In
the near-end serial loop the errors are those injected (R343). -/
def Dev.patNow (s : Dev) (i : Nat) : Nat × Nat × Nat :=
  let l := 16 + i
  let inj := s.injectedSince l
  let wrap (x : Nat) : Nat := x % 18446744073709551616
  match (s.lane l).patFrom with
  | some k =>
    (wrap (s.nat (Od.patBits i) + s.bitsSince l k),
      wrap (s.nat (Od.patErrors i) + if s.nat (Od.laneLoop l) = 1 then inj else 0), wrap (s.nat (Od.patInjected i) + inj))
  | none => (s.nat (Od.patBits i), s.nat (Od.patErrors i), wrap (s.nat (Od.patInjected i) + inj))

/-- The objects take what has been counted up to now, and the counts go on from here as the modes and the lock now have it. -/
def Dev.patSettle (s : Dev) (i : Nat) : Dev :=
  let (b, e, n) := s.patNow i
  let s := ((s.put (Od.patBits i) b).put (Od.patErrors i) e).put (Od.patInjected i) n
  s.modLane (16 + i) fun r => { r with
    patFrom := if s.on (Od.patLocked i) then some s.tick else none
    injFrom := if s.nat (Od.patTxMode i) ≠ 0 ∧ s.nat (Od.patInjectMode i) = 1 then some s.tick else none }

/-! ### States (Table 10-3) -/

/-- Patterns of a pair or management lane off (R342). -/
def Dev.patternsOff (s : Dev) (l : Nat) : Dev :=
  if 16 ≤ l then
    let s := s.patSettle (l - 16)
    (((s.put (Od.patTxMode (l - 16)) 0).put (Od.patRxMode (l - 16)) 0).put (Od.patLocked (l - 16)) 0).patSettle (l - 16)
  else s

/-- An eye scan of the lane is ABORTED (R344). -/
def Dev.eyeAbort (s : Dev) (l : Nat) : Dev :=
  if (s.lane l).eyeAt.isSome then
    ((s.put Od.eyeScanState 3).put Od.eyeScanTime s.now0).modLane l fun r => { r with eyeAt := none }
  else s

/-- One lane in a state, with what leaving its former state entails (R334, R342, R344). -/
def Dev.laneTo (s : Dev) (l st : Nat) : Dev :=
  let was := s.nat (Od.laneState l)
  let s := s.put (Od.laneState l) st
  let s := if was = 3 ∧ st ≠ 3 then (s.put (Od.lpiTxState l) 0).put (Od.lpiRxState l) 0 else s
  let s := if (was = 4 ∨ was = 5) ∧ st ≠ 4 ∧ st ≠ 5 then s.patternsOff l else s
  let s := if was = 5 ∧ st ≠ 5 then s.put (Od.laneLoop l) 0 else s
  let s := if was = 6 ∧ st ≠ 6 then s.live (126 + l) 0 false else s
  if 3 ≤ st ∧ st ≤ 5 then s else s.eyeAbort l

/-- Every lane of a group in a state. -/
def Dev.lanesTo (s : Dev) (l st : Nat) : Dev := s.each (s.laneGroup l) (·.laneTo · st)

/-- Row 1: the lane is OFF. -/
def Dev.laneOff (s : Dev) (l : Nat) : Dev :=
  s.each (s.laneGroup l) fun s m => ((s.laneTo m 0).put (Od.laneLinkUp m) 0).portFollows m

/-- Rows 2 and 3: CALIBRATING, with the entry of the rate taken (R319, R325). -/
def Dev.laneCalibrate (s : Dev) (l : Nat) : Dev :=
  s.each (s.laneGroup l) fun s m =>
    let s := ((s.laneTo m 1).put (Od.laneLinkUp m) 0).portFollows m
    (s.modLane m fun r => { r with applied := s.eqStored m, calAt := s.tick }).eqPending m

/-- The enabled lanes start at the entry to CALIBRATE. -/
def Dev.startLanes (s : Dev) : Dev :=
  s.each (List.range 22) fun s l =>
    if s.on (Od.laneEnable l) ∧ s.nat (Od.laneState l) = 0 ∧ s.laneHead l = l then s.laneCalibrate l else s

/-- Rows 4 to 6 for a loop delay measured on each lane of the group (R332), 3 ms or more after the entry (R325); a lane without an entry
needs no sequence. -/
def Dev.laneCalibrated (s : Dev) (l : Nat) (delays : List Nat) : Dev :=
  if s.nat (Od.laneState l) ≠ 1 ∨ s.laneHead l ≠ l then s
  else
    let g := s.laneGroup l
    let measured := s.each (g.zip delays) fun s p => s.put (Od.loopDelayMeasured p.1) p.2
    let missing := g.any fun m => !eqPresent (s.lane m).applied
    let early := s.since (s.lane l).calAt < 3 * ticksPerMs
    let off (m : Nat) : Bool :=
      s.nat Od.loopCheckTolerance * 65536 <
        (measured.num (Od.loopDelayMeasured m) - s.num (Od.loopDelayFactory m)).natAbs * 1000000
    if missing then
      s.each g fun s m => ((s.laneTo m 6).flag (Od.laneSticky m) Bit.laneSticky_EqMissing).live (126 + m) 0 true
    else if early then s
    else if g.any off then
      measured.each g fun s m => ((s.laneTo m 6).flag (Od.laneSticky m) Bit.laneSticky_LoopCheckFail).live (126 + m) 1 true
    else
      let s := measured.each g fun s m => (s.modLane m fun r => { r with checkAt := some s.tick }).laneLatency m
      s.lanesTo l (if s.on (Od.laneDrain l) then 4 else 2)

/-- Row 7, and a link up in DRAINED or LOOP. -/
def Dev.laneUp (s : Dev) (l : Nat) (slips : List Nat) (deskew : Int) : Dev :=
  let st := s.nat (Od.laneState l)
  if st = 2 ∨ st = 4 ∨ st = 5 then
    let g := s.laneGroup l
    let s := if 1 < g.length then s.put (Od.laneDeskew l) deskew else s
    let s := s.each g fun s m =>
      ((s.put (Od.laneLinkUp m) 1).recordSlip m (slips.getD (m - l) 0)).flag (Od.laneSticky m) Bit.laneSticky_LinkUp
    if st = 2 then (s.lanesTo l 3).logInput 9 [l, 3] else s
  else s

/-- Row 8, and a link down in DRAINED or LOOP. -/
def Dev.laneDown (s : Dev) (l : Nat) : Dev :=
  let st := s.nat (Od.laneState l)
  let g := s.laneGroup l
  let down (s : Dev) : Dev :=
    s.each g fun s m => (s.put (Od.laneLinkUp m) 0).flag (Od.laneSticky m) Bit.laneSticky_LinkDown
  if st = 3 then
    (((s.each g fun s m => s.bump (Od.linkDowns m)).lanesTo l 2).report (104 + l) 0 |> down).logInput 9 [l, 2]
  else if st = 4 ∨ st = 5 then down s
  else s

/-- Every loop removed as TEST is left (row 24 of Table 1-6): row 12 leads to DOWN. -/
def Dev.removeLoops (s : Dev) : Dev :=
  let s := s.each (List.range 22) fun s l => if s.nat (Od.laneState l) = 5 then s.laneTo l 2 else s.put (Od.laneLoop l) 0
  s.each [16, 17, 18, 19, 20, 21] (·.patternsOff ·)

/-! ### Sleep (Tables 10-5 and 10-6) -/

/-- LpiRxState and LpiTxState of a lane. -/
def Dev.rxLpi (s : Dev) (l st : Nat) : Dev :=
  let s := (s.put (Od.lpiRxState l) st).modLane l fun r => { r with rxAt := s.tick }
  if st = 0 then s else s.eyeAbort l

def Dev.txLpi (s : Dev) (l st : Nat) : Dev := (s.put (Od.lpiTxState l) st).modLane l fun r => { r with txAt := s.tick }

/-- Loss of signal on an UP lane, by the state of its receive direction (rows 3 and 4, and row 8 of Table 10-3). -/
def Dev.laneSignalLost (s : Dev) (l : Nat) : Dev :=
  match s.nat (Od.lpiRxState l) with
  | 0 => s.laneDown l
  | 1 => if (s.nat (Od.lpiEnable l)).testBit 2 then s.rxLpi l 2 else s.laneDown l
  | _ => s

/-- Row 7 of Table 10-5. -/
def Dev.rxTimeout (s : Dev) (l : Nat) : Dev :=
  let st := s.nat (Od.lpiRxState l)
  let t := s.since (s.lane l).rxAt
  if (st = 2 ∧ s.nat Od.rxQuietMax * ticksPerMs ≤ t) ∨ (st = 3 ∧ ticksPerMs ≤ t) then
    (s.flag (Od.laneSticky l) Bit.laneSticky_RxQuietTimeout).laneDown l
  else s

/-- The port a lane carries. -/
def portOfLane (l : Nat) : Nat := if l < 16 then l else l - 4

/-- Ticks of LpiWakeTime, rounded up. -/
def Dev.lpiWake (s : Dev) (l : Nat) : Nat := cdiv (s.nat (Od.lpiWakeTime l) * 10) 16

/-- Whether a FRAME_SEND of a port falls due within LpiWakeTime + 1 µs of its lane. -/
def Dev.frameSendSoon (s : Dev) (l : Nat) : Bool :=
  s.entries.any fun e =>
    let v := s.nat (Od.schedEntry e)
    (s.sched e).state == 1 && entryAction v == 4 && entryTarget v == portOfLane l &&
      decide (s.entryDue e ≤ s.tsNow (entryScale v) + (s.nat (Od.lpiWakeTime l) + 1000 : Nat) * 2 ^ 32)

/-- Row 1 of Table 10-6. -/
def Dev.txIdle (s : Dev) (l : Nat) : Dev :=
  let e := s.nat (Od.lpiEnable l)
  if s.nat (Od.laneState l) = 3 ∧ s.nat (Od.lpiTxState l) = 0 ∧ e.testBit 0 ∧ !s.frameSendSoon l ∧
      s.nat (Od.lpiIdleTime l) * ticksPerUs ≤ s.since (s.lane l).sentAt then
    (s.txLpi l (if e.testBit 1 then 2 else 1)).bump (Od.lpiTxEntries l)
  else s

/-- Row 3 of Table 10-6. -/
def Dev.txTrigger (s : Dev) (l : Nat) : Dev :=
  if (s.nat (Od.lpiTxState l) = 1 ∨ s.nat (Od.lpiTxState l) = 2) ∧ s.nat Od.powerState ≠ 2 then s.txLpi l 3 else s

/-- Row 5 of Table 10-6. -/
def Dev.txAwake (s : Dev) (l : Nat) : Dev :=
  if s.nat (Od.lpiTxState l) = 3 ∧ s.lpiWake l ≤ s.since (s.lane l).txAt then s.txLpi l 0 else s

/-- Rows 2 and 4 of Table 10-6, as power state QUIET is entered and left. -/
def Dev.quietLanes (s : Dev) : Dev :=
  s.each ((List.range 16).filter fun l => s.nat (Od.laneState l) == 3 && s.nat (Od.lpiTxState l) != 2) (·.txLpi · 2)

def Dev.unquietLanes (s : Dev) : Dev :=
  s.each ((List.range 22).filter fun l => s.nat (Od.lpiTxState l) == 2) (·.txLpi · 3)

/-! ### Time on the wire (R359, R385) -/

/-- The time of n octets at a port's MAC rate, in 2^-16 tick, rounded up. -/
def Dev.wireTime (s : Dev) (p n : Nat) : Nat :=
  cdiv (n * match s.nat (Od.portMode p) with
    | 1 => 3276800
    | 2 => 327680
    | 3 => 131072
    | _ => 32768) 10

/-- A launch time for a port from its calendar: ServiceLaunchDelay ahead at least, and past the frame of the last T, each taken at
the length of MaxFrame (R385; DESIGN CHOICE, log entry 88). -/
def Dev.launchTime (s : Dev) (p : Nat) : Nat × Dev :=
  let gap := s.wireTime p (s.nat (Od.maxFrame p) + 20) / 65536 + 1
  let t := max (s.tick + s.nat Od.serviceLaunchDelay * ticksPerUs) (Tab.get (fun _ => 0) s.svc.calendar p + gap)
  (t, { s with svc := { s.svc with calendar := Tab.set (fun _ => 0) s.svc.calendar p t } })

/-! ### Eye scan (R345) -/

/-- The longest run of `true`. -/
def longestRun (l : List Bool) : Nat :=
  (l.foldl (fun (p : Nat × Nat) b => if b then (p.1 + 1, max p.2 (p.1 + 1)) else (0, p.2)) (0, 0)).2

/-- The lane of the scan in progress, and the tick it began. -/
def Dev.eyeRun (s : Dev) : Option (Nat × Nat) :=
  (List.range 22).findSome? fun l => (s.lane l).eyeAt.map fun k => (l, k)

/-- A scan is complete with the counts of its 1,024 cells, each of EyeDwellBits decisions. -/
def Dev.eyeDone (s : Dev) (map : List Byte) : Dev :=
  match s.eyeRun with
  | none => s
  | some (l, k) =>
    if s.bitsSince l k < 1024 * s.nat Od.eyeDwellBits then s
    else
    let s := s.modLane l fun r => { r with eyeAt := none }
    let map := (map ++ List.replicate 1024 0).take 1024
    let cell (r c : Nat) : Bool := (map[64 * r + c]?).getD 0 == 0
    let cols := longestRun ((List.range 64).map fun c => cell 7 c && cell 8 c)
    let rows := longestRun ((List.range 16).map fun r => cell r 32)
    let s := (s.put Od.eyeMap (beNat map : Nat)).put Od.eyeWidth (cols * 1000 / 64 : Nat)
    ((s.put Od.eyeHeight (rows * s.nat Od.eyeVStep : Nat)).put Od.eyeScanState 2).put Od.eyeScanTime s.now0

end Sys2Proof.Machine
end

