-- ==== Sys2Proof/Machine/Scales.lean ====
section
/-! DEFINITION. How a time scale is steered, set and stepped, and how DERIVED scales follow TS_0 (R91 to R108, R115,
R120, R121). -/

namespace Sys2Proof.Machine

/-! ### The increment -/

/-- IncNow and IncNowFrac show an INC (R92). -/
def Dev.showInc (s : Dev) (n inc : Nat) : Dev :=
  (s.put (Od.incNow n) (inc / 16777216 : Nat)).put (Od.incNowFrac n) (inc % 16777216 : Nat)

/-- Whether scale n follows TS_0 by the formula of R120: it runs, and no software has taken its INC (R95, R97). -/
def Dev.follows (s : Dev) (n : Nat) : Bool := s.nat (Od.incOwner n) == 5 && s.running n

/-- The scales that follow TS_0. -/
def Dev.derivedScales (s : Dev) : List Nat := (List.range 8).filter s.follows

/-- INC of DERIVED scale n for an INC of TS_0 (R120). -/
def Dev.derivedInc (s : Dev) (n inc0 : Nat) : Nat :=
  ((inc0 : Int) + rdiv (inc0 * s.num (Od.derivedRate n)) 1000000000000000).toNat

/-- The value of R120 for DERIVED scale n, given TS_0, both in 2^-72 ns. -/
def Dev.derivedValue (s : Dev) (n v0 : Nat) : Nat :=
  let d : Int := v0 - tsTime (s.nat (Od.derivedAnchor n)) * 2 ^ 40
  (tsTime (s.nat (Od.derivedStart n)) * 2 ^ 40 + d + rdiv (d * s.num (Od.derivedRate n)) 1000000000000000).toNat

/-- Scale n advances by `inc` from the present tick on (R93, R132). -/
def Dev.setIncOne (s : Dev) (n inc : Nat) : Dev :=
  let s := s.showInc n inc
  if s.running n && s.inc n != inc then s.mark n (s.val72 n) inc else s

/-- Scale n advances by `inc` from the present tick on; DERIVED scales follow TS_0. -/
def Dev.setInc (s : Dev) (n inc : Nat) : Dev :=
  let s := s.setIncOne n inc
  if n = 0 then s.each s.derivedScales fun s m => s.setIncOne m (s.derivedInc m inc) else s

/-- Steering of scale n: FreqSteer, the total FreqNow and INC (R93, R102, R109). -/
def Dev.steer (s : Dev) (n : Nat) (f total : Int) : Dev :=
  ((s.put (Od.freqSteer n) f).put (Od.freqNow n) total).setInc n (incOf total)

/-! ### Settings and steps -/

/-- Scale n takes a value in 2^-72 ns at the present tick and keeps its INC; what the setting passes is treated as R306
says, and the measurements kept of a reference stay those of the reference (their offset is against the scale). -/
def Dev.setOne (s : Dev) (n new : Nat) : Dev :=
  let old := s.tsNow n
  let s := s.mark n new (s.inc n)
  let now := s.tsNow n
  let s := s.modScale n fun c => { c with phase0 := c.phase0.map (· - (now - old)) }
  (s.acrossStep n old now).stepOsyns n (now - old)

/-- The measurements kept of every reference, and the solutions of R283, after TS_0 has moved by d (2^-32 ns). -/
def Dev.shiftMeas (s : Dev) (d : Int) : Dev :=
  let move (r : RefReg) : RefReg := { r with meas := r.meas.map fun m => { m with x := m.x - d } }
  let x := { s.sel with refs := s.sel.refs.map fun p => (p.1, move p.2) }
  { s with sel := x }.movePassed d

/-- The offset absorbed by a Stitch is no longer pulled. -/
def Dev.clearStitch (s : Dev) : Dev :=
  { s.put Od.stitchRemaining 0 with sel := { s.sel with stitch := 0 } }

/-- TS_0 has moved by d: the references are measured against it where it stands now. An offset absorbed from a time reference
ends (R106); one kept against a frequency reference moves with the scale, for its loop goes on holding the phase it held
(R111, R164; log entry 79). -/
def Dev.movedBy (s : Dev) (d : Int) : Dev :=
  let s := s.shiftMeas d
  let n := s.nat Od.selectedRef
  if n < 16 ∧ !s.isTimeRef n then
    let o := s.sel.stitch - d
    { s.put Od.stitchRemaining (toI64 (to16 o)) with sel := { s.sel with stitch := o } }
  else s.clearStitch

/-- A setting that is no step (R115, R122): DERIVED scales move with TS_0. -/
def Dev.setTs (s : Dev) (n new : Nat) : Dev :=
  let old := s.tsNow n
  let s := s.setOne n new
  if n = 0 then
    let s := s.movedBy (s.tsNow 0 - old)
    s.each s.derivedScales fun s m => s.setOne m (s.derivedValue m new)
  else s

/-- What R106 lists for scale n, whose value becomes `new`. -/
def Dev.stepOne (s : Dev) (n new : Nat) : Dev :=
  let old := s.tsNow n
  let s := s.setOne n new
  let now := s.tsNow n
  (((s.bump (Od.stepCount n)).put (Od.lastStepTime n) (tsNum now)).put (Od.lastStepSize n)
    (toI64 (to16 (now - old)))).flag (Od.tsSticky n) Bit.tsSticky_Stepped

/-- A step of scale n to a value in 2^-72 ns (R106 to R108). -/
def Dev.stepTs (s : Dev) (n new : Nat) : Dev :=
  let old := s.tsNow n
  let s := (s.stepOne n new).armedAct 3 0
  if n = 0 then
    let s := s.movedBy (s.tsNow 0 - old)
    s.each s.derivedScales fun s m => s.stepOne m (s.derivedValue m new)
  else s

/-! ### Starts and stops -/

/-- Scale n starts at a value in 2^-72 ns with an INC (R118, R122): a forward step onto it for what waits on the scale
(R304, R306). -/
def Dev.startTs (s : Dev) (n val inc : Nat) : Dev :=
  let s := (s.put (Od.tsState n) 1).modScale n fun c => { c with marks := [], slew := 0, slewInc := 0, phase0 := none }
  let s := (s.mark n val inc).showInc n inc
  s.acrossStep n 0 (s.tsNow n)

/-- Scale n stops: its entries are orphaned (R307). -/
def Dev.stopTs (s : Dev) (n : Nat) : Dev :=
  ((s.put (Od.tsState n) 0).modScale n fun c => { c with marks := [] }).orphanScale n

/-! ### DERIVED scales -/

/-- 1 ps in 2^-72 ns, rounded down: the tolerance of R120. -/
def psTolerance : Nat := 2 ^ 72 / 1000

/-- The realignment of R120 at a second boundary of TS_0. Only a scale that software has released can be further from the
formula than the tolerance (R96): its realignment is a setting (log entry 79). -/
def Dev.realign (s : Dev) (n : Nat) : Dev :=
  let v := s.derivedValue n (s.val72 0)
  let s := if psTolerance < ((v : Int) - s.val72 n).natAbs then s.setOne n v else s.mark n v (s.inc n)
  s.setIncOne n (s.derivedInc n (s.inc 0))

/-- The parameters a write leaves behind for a RUNNING DERIVED scale. -/
structure Derived where
  rate : Int
  anchor : Nat
  start : Nat
  deriving DecidableEq, Repr

/-- The parameters in force of scale n. -/
def Dev.derivedNow (s : Dev) (n : Nat) : Derived :=
  ⟨s.num (Od.derivedRate n), s.nat (Od.derivedAnchor n), s.nat (Od.derivedStart n)⟩

def Dev.putDerived (s : Dev) (n : Nat) (d : Derived) : Dev :=
  ((s.put (Od.derivedRate n) d.rate).put (Od.derivedAnchor n) d.anchor).put (Od.derivedStart n) d.start

/-- How far a write of anchor or start would move a RUNNING DERIVED scale, in 2^-72 ns (R121). -/
def Dev.derivedMove (s : Dev) (n : Nat) (d : Derived) : Nat :=
  (((s.putDerived n d).derivedValue n (s.val72 0) : Int) - s.val72 n).natAbs

/-- Whether a write of the parameters is a step that StepPermit does not allow (R121). -/
def Dev.derivedRefused (s : Dev) (n : Nat) (d : Derived) (moved : Bool) : Bool :=
  s.follows n && moved && psTolerance < s.derivedMove n d && !s.bit Od.stepPermit n

/-- An accepted write of the parameters; `moved` where it writes anchor or start (R121). While software has the INC of a DERIVED
scale the parameters are kept and move nothing (R97; log entry 79). -/
def Dev.writeDerived (s : Dev) (n : Nat) (d : Derived) (moved : Bool) : Dev :=
  if !s.follows n then s.putDerived n d
  else if moved then
    let changed := d ≠ s.derivedNow n
    let far := psTolerance < s.derivedMove n d
    let s := s.putDerived n d
    if far then ((s.stepOne n (s.derivedValue n (s.val72 0))).armedAct 3 0).setIncOne n (s.derivedInc n (s.inc 0))
    else
      let s := s.mark n (s.derivedValue n (s.val72 0)) (s.derivedInc n (s.inc 0))
      (s.showInc n (s.inc n)).when changed (·.flag (Od.tsSticky n) Bit.tsSticky_DerivedReanchored)
  else if d.rate = s.num (Od.derivedRate n) then s
  else
    let s := s.putDerived n ⟨d.rate, s.now0, tsNum (s.tsNow n)⟩
    (s.setIncOne n (s.derivedInc n (s.inc 0))).flag (Od.tsSticky n) Bit.tsSticky_DerivedReanchored

end Sys2Proof.Machine
end

