-- ==== Sys2Proof/Machine/Bound.lean ====
section
/-! DEFINITION. The Error Bound Engine (R235 to R256): the terms of every reference, their combination for every scale, the
values an update hands to the outputs and the quality derived from them. -/

namespace Sys2Proof.Machine

/-! ### References -/

/-- SelectedRef, none at 0xFF. -/
def Dev.selected (s : Dev) : Option Nat :=
  let m := s.nat Od.selectedRef
  if m < 16 then some m else none

/-- Whether a reference may head a Traceable chain by what it declares (R251): ToD's TraceableToUtc or timeTraceable. -/
def Dev.declaresTrace (s : Dev) (m : Nat) : Bool := m == 8 || m == 9 || (s.rr m).traceable

/-! ### Units -/

/-- A rate in 0.001 ppt over a time in CNT ticks, in 2^-16 ns, rounded up. -/
def drift (rate ticks : Nat) : Nat := cdiv (rate * ticks * 16 * 65536) 10000000000000000

/-- Sum of bounds that saturates at SAT (R236). -/
def satAdd (a b : Nat) : Nat := min sat64 (a + b)

/-! ### Terms (Table 7-1) -/

/-- The terms of a bound; `base` is L of R244 or B_last of R243. -/
structure Terms where
  base : Nat := 0
  d : Nat := 0
  msys : Nat := 0
  a : Nat := 0
  s : Nat := 0
  o : Nat := 0
  h : Nat := 0
  f : Nat := 0
  i : Nat := 0
  w : Nat := 0
  p : Nat := 0
  sigma : Nat := 0
  deriving DecidableEq, Repr

/-- B of R241, for CoverageFactor c in 0.001. -/
def Terms.total (c : Nat) (t : Terms) : Nat :=
  if [t.base, t.d, t.msys, t.a, t.s, t.o, t.h, t.f, t.i, t.w, t.p, t.sigma].any (sat64 ≤ ·) then sat64
  else min sat64 (cdiv (c * t.sigma +
    1000 * (t.base + t.d + t.msys + t.a + t.s + t.o + t.h + t.f + t.i + t.w + t.p)) 1000)

/-- Whole hours on TS_0 since a time (DEDUCED, log entry 15). -/
def Dev.hoursSince (s : Dev) (ts : Nat) : Nat := ((s.tsNow 0 - tsTime ts) / (3600 * second)).toNat

/-- 1.0 ps and 0.05 ps for each hour, plus `extra` in 0.001 ps, in 2^-16 ns rounded up (R230). -/
def sysTermOf (hours extra : Nat) : Nat := cdiv ((1000 + 50 * hours + extra) * 65536) 1000000

/-- SysTerm of AWL channel n (R230). -/
def Dev.awlSysTerm (s : Dev) (n : Nat) : Nat :=
  let spare := s.nat Od.spareState == 1 && s.nat Od.spareFor == n
  sysTermOf (s.hoursSince (s.nat (if spare then Od.spareLastBurnish else Od.lastBurnish n)))
    ((if spare then 500 else 0) + if s.ebe.skewLive.contains n then 5000 else 0)

/-- LpdSysTerm of detector d (R232). -/
def Dev.lpdTerm (s : Dev) (d : Nat) : Nat := sysTermOf (s.hoursSince (s.nat (Od.lpdLastBurnish d))) 0

/-- D of a reference, RefDeclaredUnc where its declaration is unknown (R240). -/
def Dev.declaredOf (s : Dev) (m : Nat) : Nat := (s.rr m).declared.getD (s.nat (Od.refDeclaredUnc m))

/-- SysTerm of this engine's device in use for a reference, 0 where it has none. -/
def Dev.deviceTerm (s : Dev) (m : Nat) : Nat :=
  if m < 8 then s.awlSysTerm (32 + m)
  else if m < 10 then 0
  else if m < 14 then s.lpdTerm (s.nat (Od.ptpPort m))
  else s.lpdTerm (s.nat (Od.synceLane m))

/-- SysTerm as the bound counts it: in FOLLOWER the active's, where its log gives it. -/
def Dev.sysTermFor (s : Dev) (m : Nat) : Nat :=
  match s.theirs.bind fun x => Tab.find? x.sys m with
  | some v => v
  | none => s.deviceTerm m

/-- Msys of a reference (Table 7-1). -/
def Dev.measSysOf (s : Dev) (m : Nat) : Nat :=
  if m < 8 then satAdd (s.sysTermFor m) (s.nat (Od.refinDelayUnc m))
  else if m < 10 then (s.rr m).msys
  else if m < 14 then satAdd (s.sysTermFor m) (s.nat (Od.portTsSysTerm (s.nat (Od.ptpPort m))))
  else s.sysTermFor m

def Dev.asymOf (s : Dev) (m : Nat) : Nat :=
  if 10 ≤ m ∧ m < 14 then s.nat (Od.portAsymAllowance (s.nat (Od.ptpPort m))) else 0

/-- 1.2 ps in 2^-16 ns, rounded up: the random term of a stamp (R230; DEDUCED, log entry 17). -/
def stampSigma : Nat := 79

def Dev.sigmaOf (s : Dev) (m : Nat) : Nat :=
  if m < 8 then stampSigma
  else if m < 10 then (s.rr m).sigma
  else if m < 14 then
    let g := s.nat (Od.portRandomSigma (s.nat (Od.ptpPort m)))
    csqrt (2 * g * g)
  else stampSigma

/-- a of R241 in ticks: the largest age of D and of the latest measurement. -/
def Dev.ageOf (s : Dev) (m : Nat) : Nat :=
  let r := s.rr m
  max (s.since r.declaredAt) (s.since ((r.meas.head?.map (·.tick)).getD 0))

/-- W of R241. -/
def Dev.staleOf (s : Dev) (m : Nat) : Nat :=
  drift s.uncs.1 (s.ageOf m - s.nat Od.staleGrace * ticksPerMs)

/-- I: growth over an update period and 1.6 µs. -/
def Dev.intervalTerm (s : Dev) : Nat := cdiv (s.uncs.1 * 7814100 * 65536) 1000000000000000

/-- S: the largest |u| of the last 2,048 updates. -/
def Dev.servoTerm (s : Dev) (n : Nat) : Nat :=
  cdiv (maxN (((s.scale n).us.filter fun e => s.keep.updates < e.1 + 2048).map (·.2))) 65536

/-- The terms a time reference brings (Table 7-3). -/
def Dev.timeTerms (s : Dev) (n m : Nat) : Terms :=
  { d := s.declaredOf m, msys := s.measSysOf m, a := s.asymOf m, s := s.servoTerm n, i := s.intervalTerm,
    w := s.staleOf m, sigma := s.sigmaOf m }

/-- What the EBE keeps for a scale. -/
def Dev.ebr (s : Dev) (n : Nat) : BoundReg := Tab.get (fun _ => {}) s.ebe.scales n

def Dev.modEbr (s : Dev) (n : Nat) (f : BoundReg → BoundReg) : Dev :=
  { s with ebe := { s.ebe with scales := Tab.set (fun _ => {}) s.ebe.scales n (f (s.ebr n)) } }

/-- Bound_n less I and P at the last update, SAT where it was SAT (R243, R244). -/
def Dev.boundRest (s : Dev) (n : Nat) : Nat :=
  let b := s.nat (Od.bound n)
  if b = sat64 then sat64 else b - s.nat (Od.termInterval n) - s.nat (Od.termPairAlign n)

/-- The terms a frequency reference brings: B_last, F, S and I (R243). -/
def Dev.freqTerms (s : Dev) (n m : Nat) : Terms :=
  { base := (s.ebr n).last, f := drift (s.nat (Od.freqRefUnc m)) (s.since (s.ebr n).lastAt),
    s := s.servoTerm n, i := s.intervalTerm }

/-! ### Entry to holdover and to a frequency reference -/

/-- L latched when scale n comes to hold (R244). -/
def Dev.latchBound (s : Dev) (n : Nat) : Dev :=
  s.modEbr n fun e => { e with latched := s.boundRest n, lastAt := s.tick }

/-- B_last and the instant of its update, the last one before the present, kept as a frequency reference comes to steer scale n (R243). -/
def Dev.latchLast (s : Dev) (n : Nat) : Dev :=
  s.modEbr n fun e => { e with last := s.boundRest n, lastAt := s.flt.lastUpdate }

/-! ### TS_0 (Table 7-3) -/

/-- The mode, in FOLLOWER the active partner's, in TEST and SAFE the one before entry (R254). -/
def Dev.servedMode (s : Dev) : Nat :=
  if s.md = Mode.follower then s.nat Od.shadowMode
  else if s.inMode [Mode.test, Mode.safe] then s.mode.before else s.md

/-- Who steers TS_0, in FOLLOWER at the active partner (R242, R246): 2 SERVO, 3 KEEPER. -/
def Dev.boundOwner (s : Dev) : Nat :=
  let o := s.nat (Od.incOwner 0)
  if o = 4 then
    let m := s.nat Od.shadowMode
    if m = Mode.acquire ∨ m = Mode.locked then 2 else if m = Mode.holdover ∨ m = Mode.freerun then 3 else 0
  else o

/-- P of R246. -/
def Dev.pairTermNow (s : Dev) : Nat :=
  if s.md = Mode.follower ∨ s.ebe.pairTerm then s.nat Od.pairAlignTerm else 0

/-- H is SAT (R182, R239). -/
def Dev.growthSat (s : Dev) : Bool :=
  s.boundLo == 4 || (s.holding != 0 && s.nat Od.holdoverGrowth == sat64)

/-- The first row of Table 7-3. -/
def Dev.noBound0 (s : Dev) : Bool :=
  s.growthSat || s.nat (Od.incOwner 0) == 0 || s.md == Mode.resync || s.md == Mode.freerun ||
    (s.md == Mode.follower && s.nat Od.shadowMode == Mode.freerun) || !(s.scale 0).aligned

/-- The terms in use for TS_0, none where its bound is SAT or SoftwareBound. -/
def Dev.terms0 (s : Dev) : Option Terms :=
  let o := s.boundOwner
  if s.noBound0 || o == 0 || o == 1 then none
  else if o = 2 then
    match s.selected with
    | some m =>
      let p := s.pairTermNow
      if s.isTimeRef m then
        some { s.timeTerms 0 m with o := cdiv s.sel.stitch.natAbs 65536, p }
      else some { s.freqTerms 0 m with p }
    | none => none
  else if s.holding = 0 then none
  else
    some { base := (s.ebr 0).latched, h := s.nat Od.holdoverGrowth, i := s.intervalTerm, p := s.pairTermNow }

/-- The terms in use for scale n of TS_1 … TS_7 (Table 7-4), and what a holding scale grows by. -/
def Dev.termsOf (s : Dev) (n : Nat) : Option Terms :=
  if s.nat (Od.tsSource n) = 3 ∧ s.running n then
    let m := s.nat (Od.tsReference n)
    if s.nat (Od.tsState n) = 2 then
      let t := s.since (s.ebr n).lastAt
      let age := s.uncs.2.1
      some { base := satAdd (s.ebr n).latched (drift (s.nat (Od.freqTolerance m)) t +
               cdiv (drift age t * t) (2 * 86400 * ticksPerSec)), i := s.intervalTerm }
    else if s.isTimeRef m then some (s.timeTerms n m)
    else some (s.freqTerms n m)
  else none

/-- Bound_n (R241, R242, Table 7-4); Bound_0 of the same update is in its object. -/
def Dev.boundOf (s : Dev) (n : Nat) : Nat :=
  let c := s.nat Od.coverageFactor
  if n = 0 then
    match s.terms0 with
    | some t => t.total c
    | none =>
      if s.noBound0 then sat64
      else if s.nat (Od.incOwner 0) = 1 then s.nat (Od.softwareBound 0) else sat64
  else
    match s.nat (Od.tsSource n) with
    | 2 => if s.nat (Od.bound 0) = sat64 then sat64 else satAdd (s.nat (Od.bound 0)) 66
    | 3 => match s.termsOf n with
      | some t => t.total c
      | none => sat64
    | 4 => s.nat (Od.softwareBound n)
    | _ => sat64

/-- The term objects of scale n (Table 7-8): a term not in use reads 0, and H reads SAT whenever it is SAT (R239). -/
def Dev.putTerms (s : Dev) (n : Nat) (t : Terms) : Dev :=
  s.each [(Od.termDeclared n, t.d), (Od.termMeasSys n, t.msys), (Od.termAsym n, t.a), (Od.termServo n, t.s),
    (Od.termStitch n, t.o), (Od.termHoldover n, if n = 0 ∧ s.growthSat then sat64 else t.h), (Od.termFreqRef n, t.f),
    (Od.termInterval n, t.i), (Od.termStale n, t.w), (Od.termPairAlign n, t.p), (Od.randomSigma n, t.sigma)]
    fun s p => s.put p.1 p.2

/-- The reference that heads the chain of scale n under its present owner, and whether the scale holds. -/
def Dev.traceOf (s : Dev) (n : Nat) : Option Nat × Bool :=
  if n = 0 then
    match s.boundOwner with
    | 2 => (s.selected, false)
    | 3 => (if s.ebe.refHeld < 16 then some s.ebe.refHeld else none, true)
    | _ => (none, false)
  else if s.nat (Od.tsSource n) = 3 ∧ s.running n then (some (s.nat (Od.tsReference n)), s.nat (Od.tsState n) == 2)
  else (none, false)

/-- BoundFlags of scale n with bound b (R251). -/
def Dev.flagsOf (s : Dev) (n b : Nat) : Nat :=
  let (m, holds) := s.traceOf n
  let exceeded := n == 0 && s.holding == 2
  let trace := match m with
    | some m =>
      if holds then !exceeded && (if n = 0 then s.ebe.traceHeld else s.isTimeRef m && s.declaresTrace m)
      else s.isTimeRef m && s.nat (Od.qlEffective m) ≤ 3 && s.declaresTrace m
    | none => false
  let freq := match m with
    | some m => !holds && !s.isTimeRef m
    | none => false
  let bit (i : Nat) (c : Bool) : Nat := if c then 2 ^ i else 0
  bit 0 trace + bit 1 holds + bit 2 (holds && exceeded) + bit 3 freq + bit 4 (b == sat64) +
    bit 5 (n == 0 && (s.md == Mode.follower || s.ebe.pairTerm))

/-- Age, in s, and operation ID of the oldest calibration in use for a reference (R252): a Burnish by its time on TS_0, and of a
PTP port beside it the timestamp calibration that ended with the loop check of its lane (log entry 83). -/
def Dev.calibrationOf (s : Dev) (m : Nat) : Nat × Nat :=
  let dev : Nat × Nat :=
    if m < 8 then
      if s.nat Od.spareState == 1 && s.nat Od.spareFor == 32 + m then (40, Od.spareLastBurnish)
      else (32 + m, Od.lastBurnish (32 + m))
    else if m < 10 then
      let g := s.nat Od.gcdOnDuty
      (96 + g, if g = 0 then Od.gcdLastBurnish0 else Od.gcdLastBurnish1)
    else
      let d := if m < 14 then s.nat (Od.ptpPort m) else s.nat (Od.synceLane m)
      (64 + d, Od.lpdLastBurnish d)
  let age := ((s.tsNow 0 - tsTime (s.nat dev.2)) / second).toNat
  let port := if 10 ≤ m ∧ m < 14 then
      match (s.lane (s.nat (Od.ptpPort m))).checkAt with
      | some k => s.since k / ticksPerSec
      | none => 0
    else 0
  if age < port then (min sat32 port, 0) else (min sat32 age, Tab.get (fun _ => 0) s.ebe.burnishOps dev.1)

/-! ### What the chain of a scale holds (Table 7-6) -/

/-- The kind of the reference in a TraceRef: 1 REFIN, 2 GNSS, 3 PTP, 4 SYNCE. -/
def refKind (m : Nat) : Nat := if m < 8 then 1 else if m < 10 then 2 else if m < 14 then 3 else 4

/-- A chain entry as the number of its 16 octets. -/
def chainEntry (kind index eql hops identity ps : Nat) : Nat :=
  ((((kind * 256 + index) * 256 + eql) * 256 + hops) * 2 ^ 64 + identity) * 2 ^ 32 + ps

/-- The entry of a reference, its contribution still 0: a PTP reference's identity is that of the tracked master. -/
def Dev.refEntry (s : Dev) (m : Nat) : Nat :=
  let id := if refKind m = 3 then ((Tab.get (fun _ => {}) s.svc.trks (m - 10)).master).getD 0 else 0
  chainEntry (refKind m) m (s.nat (Od.qlEffective m)) 1 id 0

/-- The reference TS_0 follows, as the update before a holdover leaves it: what L holds stays behind it (R244, R250 to R252). -/
def Dev.noteRef (s : Dev) (m : Nat) : Dev :=
  s.modEbe fun e => { e with
    refHeld := m, ageHeld := s.ageOf m, traceHeld := s.isTimeRef m && s.declaresTrace m, entryHeld := s.refEntry m
    chainHeld := (s.rr m).chain }

/-- timeSource of a scale (Table 12-5). -/
def Dev.timeSource (s : Dev) (n : Nat) : Nat :=
  let m := s.nat (Od.traceRef n)
  if n ≠ 0 then 0xA0
  else if s.nat (Od.incOwner 0) = 1 ∧ s.nat (Od.timeOrigin 0) = 2 then 0x60
  else if s.boundOwner = 3 ∧ s.nat Od.loSourceActive = 2 then 0x10
  else if 16 ≤ m then 0xA0
  else if refKind m = 2 then 0x20
  else if refKind m = 3 then 0x40
  else if refKind m = 1 ∧ s.on (Od.todEnable m) then 0x39
  else 0xA0

/-- BoundFlags and TraceRef of one scale (R251, R561). -/
def Dev.showFlags (s : Dev) (n : Nat) : Dev :=
  let b := s.nat (Od.bound n)
  if n ≠ 0 ∧ s.nat (Od.tsSource n) = 2 then
    let f := s.nat (Od.boundFlags 0)
    (s.put (Od.boundFlags n) (Machine.putBit f 4 (b == sat64) : Nat)).put (Od.traceRef n) (s.num (Od.traceRef 0))
  else (s.put (Od.boundFlags n) (s.flagsOf n b)).put (Od.traceRef n) ((s.traceOf n).1.getD 0xFF)

/-- The bound objects of one scale at an update (R239, R251, R252, R561). -/
def Dev.boundUpdate (s : Dev) (n : Nat) : Dev :=
  let b := s.boundOf n
  let terms := if n = 0 then s.terms0 else s.termsOf n
  let s := (s.putTerms n (terms.getD {})).put (Od.bound n) b
  let s := (s.put (Od.boundTime n) s.now0).when (b == sat64) (·.flag (Od.boundSticky n) Bit.boundSticky_Saturated)
  let s := s.when ((terms.getD {}).w != 0) (·.flag (Od.boundSticky n) Bit.boundSticky_StaleWidened)
  let (m, holds) := s.traceOf n
  let s := match terms, m with
    | some _, some r =>
      s.when (!holds && s.isTimeRef r && (s.rr r).declared.isNone)
        (·.flag (Od.boundSticky n) Bit.boundSticky_DeclaredFallback)
    | _, _ => s
  let s := match m with
    | some r =>
      let (age, op) := s.calibrationOf r
      let ticks := if n = 0 ∧ holds then s.ebe.ageHeld else s.ageOf r
      let s := s.when (n == 0 && !holds) (·.noteRef r)
      let s := s.put (Od.oldestTermAge n) (min sat32 (ticks / ticksPerMs) : Nat)
      let s := (s.put (Od.calibrationAge n) age).put (Od.calibrationOpId n) op
      let up := if n = 0 ∧ holds then s.ebe.chainHeld else (s.rr r).chain
      s.when (6 < up.length) (·.flag (Od.boundSticky n) Bit.boundSticky_ChainTruncated)
    | none => s
  s.showFlags n

/-! ### References (R245, Table 7-11) -/

/-- The bound objects of a reference at an update. -/
def Dev.refBoundUpdate (s : Dev) (m : Nat) : Dev :=
  if s.on (Od.refEnable m) then
    let time := s.isTimeRef m
    let d := if time then s.declaredOf m else sat64
    let r := s.rr m
    let src : Nat :=
      if s.nat (Od.refDeclaredUnc m) = sat64 then 0 else 5
    let s := if r.declared.isNone ∨ time = false then
        (s.put (Od.refDeclaredIn m) (sat64 : Nat)).put (Od.refDeclaredSource m) (if time then src else 0)
      else s.put (Od.refDeclaredIn m) (r.declared.getD 0)
    let s := s.put (Od.refDeclaredAge m) (if r.declared.isNone then 0 else min sat32 (s.since r.declaredAt / ticksPerMs))
    let t : Terms := { d, msys := s.measSysOf m, a := s.asymOf m, sigma := s.sigmaOf m }
    (((s.put (Od.refMeasSys m) t.msys).put (Od.refRandomSigma m) t.sigma).put (Od.refAsym m) t.a).put (Od.refBound m)
      (t.total (s.nat Od.coverageFactor))
  else s.put (Od.refBound m) (sat64 : Nat)

/-! ### Quality (R254 to R256) -/

/-- clockClass of Table 7-7 for a bound: of the default profiles, or of the telecom ones. -/
def Dev.clockClass (s : Dev) (b : Nat) (telecom : Bool) : Nat :=
  let m := s.servedMode
  let degraded := if telecom then 187 else 52
  if b = sat64 ∨ m = Mode.acquire ∨ m = Mode.freerun then 248
  else if m = Mode.holdover then if s.holding = 2 then degraded else 7
  else if m = Mode.locked then
    if s.nat Od.holdoverLimit ≤ b then degraded
    else match s.selected with
      | some r =>
        if !s.isTimeRef r then 7
        else if s.nat (Od.qlEffective r) = 1 ∨ s.nat (Od.qlEffective r) = 2 then 6
        else if s.nat (Od.qlEffective r) = 3 then 7
        else degraded
      | none => degraded
  else 248

/-- The limits of the clockAccuracy codes 0x17 … 0x30 of IEEE 1588-2019, in 0.1 ps (PRESUMED, log entry 20). -/
def accuracyLimits : List Nat :=
  [10, 25, 100, 250, 1000, 2500, 10000, 25000, 100000, 250000, 1000000, 2500000, 10000000, 25000000, 100000000,
   250000000, 1000000000, 2500000000, 10000000000, 25000000000, 100000000000, 250000000000, 1000000000000,
   2500000000000, 10000000000000, 100000000000000]

/-- The first code whose limit is at least the bound. -/
def accuracyFrom (b : Nat) : Nat → List Nat → Nat
  | _, [] => 0x31
  | c, l :: ls => if b * 10000 ≤ l * 65536 then c else accuracyFrom b (c + 1) ls

/-- The served clockAccuracy for a bound (R255). -/
def clockAccuracy (b : Nat) : Nat := if b = sat64 then 0xFE else accuracyFrom b 0x17 accuracyLimits

/-- The limit, in 2^-16 ns rounded up, of a clockAccuracy code 0x17 … 0x30 (Table 7-2). -/
def accuracyBound (c : Nat) : Option Nat :=
  if 0x17 ≤ c then (accuracyLimits[c - 0x17]?).map fun l => cdiv (l * 65536) 10000 else none

/-- What the present update hands over for scale n. -/
def Dev.servedScale (s : Dev) (n : Nat) : ServedScale :=
  let b := s.nat (Od.bound n)
  let m := s.nat (Od.traceRef n)
  let held := n == 0 && (s.traceOf 0).2
  { bound := b, declared := s.nat (Od.termDeclared n), flags := s.nat (Od.boundFlags n), clsDefault := s.clockClass b false,
    clsTelecom := s.clockClass b true, age := s.nat (Od.oldestTermAge n), calAge := s.nat (Od.calibrationAge n),
    calOp := s.nat (Od.calibrationOpId n), trace := m, entry := if held then s.ebe.entryHeld else s.refEntry m,
    chain := if held then s.ebe.chainHeld else (s.rr m).chain, source := s.timeSource n }

/-- What a scale serves before any update has handed over a value. -/
def ServedScale.none : ServedScale :=
  { bound := sat64, declared := 0, flags := 16, clsDefault := 248, clsTelecom := 248, age := 0, calAge := 0, calOp := 0,
    trace := 0xFF, entry := 0, chain := [], source := 0xA0 }

/-- The part of an update's values for scale n. -/
def Served.scale (v : Served) (n : Nat) : ServedScale := (v.scales[n]?).getD .none

/-- What update k hands to the outputs, and NtpUnsync (R247, R256). -/
def Dev.serveUpdate (s : Dev) : Dev :=
  let beyond := s.nat Od.ntpUnsyncLimit < s.nat (Od.bound 0)
  let below := if beyond then 0 else min 128 (s.ebe.below + 1)
  let unsync := beyond || (s.ebe.unsync && below < 128)
  let s := s.when (beyond && !s.ebe.unsync) (·.flag (Od.boundSticky 0) Bit.boundSticky_NtpUnsync)
  let v : Served := { tick := s.tick, time := s.nat (Od.boundTime 0), unsync, scales := (List.range 8).map s.servedScale }
  let changed := match s.ebe.served.head? with
    | some p => (p.scale 0).clsDefault != (v.scale 0).clsDefault || (p.scale 0).clsTelecom != (v.scale 0).clsTelecom
    | none => false
  let s := s.when changed (·.flag (Od.boundSticky 0) Bit.boundSticky_ClassChanged)
  { s with ebe := { s.ebe with served := (v :: s.ebe.served).take 2, below, unsync } }

/-- The values that apply to an output whose time is CNT tick k (R247). -/
def Dev.servedAt (s : Dev) (k : Nat) : Option Served :=
  match s.ebe.served.find? (fun v => v.tick + 1000 ≤ k) with
  | some v => some v
  | none => s.ebe.served.getLast?

/-- The values of scale n that apply to an output at tick k. -/
def Dev.servedFor (s : Dev) (n k : Nat) : ServedScale :=
  match s.servedAt k with
  | some v => v.scale n
  | none => .none

/-- The served bound of scale n on data port p for an output at tick k (R248). -/
def Dev.portBound (s : Dev) (n p k : Nat) : Nat :=
  let b := (s.servedFor n k).bound
  if b = sat64 then sat64 else satAdd b (s.nat (Od.portTsSysTerm p))

/-- The EBE's combination at an update (step 3 of R238): references, TS_0, then the other scales. -/
def Dev.ebeStep (s : Dev) : Dev := (s.each (List.range 16) (·.refBoundUpdate ·)).each (List.range 8) (·.boundUpdate ·)

end Sys2Proof.Machine
end

