-- ==== Sys2Proof/Machine/Modes.lean ====
section
/-! DEFINITION. The mode controller (chapter 1): owners of INC, what entering a mode does, the rows of Table 1-6, their
priorities and the host's requests; the packet service that follows from the mode (R383). -/

namespace Sys2Proof.Machine

/-! ### Owners of INC (R95 to R97, R103) -/

/-- Owner of TS_0's INC in a mode (Table 3-1), none where it stays as before entry. -/
def ownerIn (m : Nat) : Option Nat :=
  if m ≤ 1 then some 0
  else if m ≤ 3 then some 1
  else if m ≤ 5 then some 2
  else if m ≤ 7 then some 3
  else if m ≤ 9 then some 4
  else none

/-- Owner of a scale of TS_1 … TS_7 by its TsSource (Table 3-3). -/
def ownerOf : Nat → Nat
  | 2 => 5
  | 3 => 2
  | 4 => 1
  | _ => 0

/-- ServoState of scale n for its owner (Table 3-6, R114). -/
def Dev.servoStateOf (s : Dev) (n : Nat) : Nat :=
  match s.nat (Od.incOwner n) with
  | 1 => 4
  | 2 => if (s.scale n).locked then 2 else 1
  | 3 => 3
  | 4 => 5
  | _ => 0

/-- 2^32: units of the loop's steering to 0.001 ppt. -/
def fine : Int := 4294967296

/-- ServoState of scale n brought up to date. -/
def Dev.showServo (s : Dev) (n : Nat) : Dev := s.put (Od.servoState n) (s.servoStateOf n)

/-- A loop's lock ends without a report, and its judgment starts afresh (R114). -/
def Dev.endLock (s : Dev) (n : Nat) : Dev :=
  (s.modScale n fun c => { c with locked := false, dwell := 0, bad := 0 }).showServo n

/-- A slew under software ends: nothing of it remains, and INC stays as it is (R103, R104). -/
def Dev.noSlew (s : Dev) (n : Nat) : Dev :=
  (s.modScale n fun c => { c with slew := 0, slewInc := 0 }).put (Od.slewRemaining n) 0

/-- INC of scale n passes to another owner at this tick: frequency and phase stay (R96), and what was left of a slew is
discarded (R103). -/
def Dev.setOwner (s : Dev) (n o : Nat) : Dev :=
  let was := s.nat (Od.incOwner n)
  if was = o then s
  else
    -- a standby whose active is under its Keeper has L and H of that holdover already (R244, R246)
    let held := n = 0 ∧ was = 4 ∧ s.boundOwner = 3
    -- the steering in force: of a running scale, that of its INC
    let f := if s.running n then steerOf (s.inc n) else s.num (Od.freqNow n)
    let s := ((s.put (Od.incOwner n) o).put (Od.freqSteer n) f).put (Od.freqNow n) f
    let s := if was = 1 then s.noSlew n else s
    let s := if o = 2 ∨ o = 3 then s.modScale n fun c => { c with integ := f * fine } else s
    let s := if o = 2 ∧ was = 3 then s else s.endLock n
    let s := if n ≠ 0 then s
      else if o = 3 then
        let m := s.nat Od.selectedRef
        let s := (if held then s else s.latchBound 0).reanchor
        let s := if held ∨ s.servedMode ≠ Mode.holdover ∨ s.md = Mode.holdover then s
          else s.startGrowth.modKeep fun k => { k with hold := 1 }
        ({ s with sel := { s.sel with uOld := none } }).live 5 m true
      else if was = 3 then
        let s := s.modEbe fun e => { e with pairTerm := e.pairTerm && !(s.scale 0).locked }
        (s.modKeep fun k => { k with hold := 0 }).live 5 0 false
      else s
    s.showServo n

/-- Ownership of every scale as Tables 3-1 and 3-3 give it for a mode. -/
def Dev.ownersFor (s : Dev) (m : Nat) : Dev :=
  match ownerIn m with
  | none => s
  | some o =>
    (s.setOwner 0 o).each [1, 2, 3, 4, 5, 6, 7] fun s n =>
      s.setOwner n (if m ≤ 1 then 0 else ownerOf (s.nat (Od.tsSource n)))

/-! ### Packet service (Table 12-2) -/

/-- ServiceState for the present mode and power state; in ACQUIRE only after the initial alignment (R116). -/
def Dev.serviceNow (s : Dev) : Nat :=
  let p := s.nat Od.powerState
  let m := s.md
  if p = 2 ∨ p = 3 then 4
  else if m = Mode.acquire then
    if s.bit Od.modeArm Bit.modeArm_AcquireServe && (s.scale 0).aligned &&
        !(s.mode.startTamper && s.nat Od.keyStoreState == 1 && !s.on Od.unauthServe) then 1 else 0
  else if m = Mode.locked ∨ m = Mode.holdover ∨ m = Mode.freerun then 1
  else if m = Mode.follower then 2
  else if m = Mode.safe then 3
  else 0

/-- ServiceState brought up to date (R383). -/
def Dev.serviceUpdate (s : Dev) : Dev :=
  let was := s.nat Od.serviceState
  let now := s.serviceNow
  if was = now then s
  else
    let s := s.put Od.serviceState now
    -- where nothing is sent, what waited to be sent is dropped (Table 12-2)
    let s := if now = 0 ∨ now = 3 then { s with svc := { s.svc with queue := [] } } else s
    if now = 1 then s.flag Od.serviceSticky Bit.serviceSticky_ServiceStarted
    else if was = 1 then s.flag Od.serviceSticky Bit.serviceSticky_ServiceStopped
    else s

/-! ### QualifyTime timers (R153) -/

/-- Whether the Cinch takes rows of Table 4-6 and selects in a mode, `before` being the mode before TEST or SAFE. -/
def cinchRuns (m before : Nat) : Bool :=
  (4 ≤ m && m ≤ 7) || ((m == Mode.test || m == Mode.safe) && 4 ≤ before && before ≤ 7)

/-- On a standby the references take their measurements from the input log (R286, R452): in FOLLOWER, and in RESYNC from
CUTOVER on (R153, Table 14-9). -/
def Dev.fromLog (s : Dev) : Bool :=
  s.md == Mode.follower || (s.md == Mode.resync && s.pair.running && decide (3 ≤ s.nat Od.resyncStep))

/-- In RESYNC before the log is executed the engine's own monitors compute for the cross-checks alone (R153). -/
def Dev.aside (s : Dev) : Bool := s.md == Mode.resync && !s.fromLog

/-- The mode the Cinch goes by: on a standby that executes the log, the active partner's (R452, Table 14-6). -/
def Dev.cinchMode (s : Dev) : Nat :=
  if s.md = Mode.follower then s.nat Od.shadowMode else if s.fromLog then s.pair.peerMode else s.md

/-- Whether the Cinch runs now. -/
def Dev.cinchOn (s : Dev) : Bool := cinchRuns s.cinchMode s.mode.before

/-- Ticks left of a QualifyTime timer. -/
def Dev.timerLeft (s : Dev) (r : RefReg) : Nat :=
  match r.timerFrom with
  | some k => r.timer - s.since k
  | none => r.timer

/-- The timers of the references in MONITOR start or stop. -/
def Dev.runTimers (s : Dev) (run : Bool) : Dev :=
  s.each (List.range 16) fun s m =>
    if s.nat (Od.refState m) = 1 then
      s.modRr m fun r => { r with timer := s.timerLeft r, timerFrom := if run then some s.tick else none }
    else s

/-! ### Starting the scales (R118, R187, R174) -/

/-- U_y, U_a and U_T. -/
def Dev.putUncertainties (s : Dev) (u : Nat × Nat × Nat) : Dev :=
  ((s.put Od.modelFreqUnc u.1).put Od.modelAgeingUnc u.2.1).put Od.modelTempUnc u.2.2

/-- The uncertainties of a model that is not TRAINED (R186): those it was restored with, else the class defaults. -/
def Dev.untrained (s : Dev) : Nat × Nat × Nat :=
  s.keep.restored.getD (classUy s.loClass, classUa s.loClass, classUt s.loClass)

/-- Points, and what is being formed of the next, dropped. -/
def Dev.dropPoints (s : Dev) : Dev :=
  (s.modKeep fun k => { k with
    points := [], refit := none, modelAt := none, n := 0, sumInteg := 0, sumTemp := 0, barred := false
    start := s.tsNow 0 }).put Od.modelPoints 0

/-- Coefficients and points discarded (R187, R188). -/
def Dev.resetModel (s : Dev) : Dev :=
  let s := s.each [Od.modelState, Od.modelOffset, Od.modelAgeing, Od.modelTempCoef, Od.modelAnchorTime, Od.modelAnchorTemp]
    fun s k => s.put k 0
  let s := s.dropPoints.modKeep fun k => { k with restored := none }
  (s.putUncertainties s.untrained).flag Od.keeperSticky Bit.keeperSticky_ModelDiscarded

/-- The model at CALIBRATE (R187): the stored one restored, or discarded where it is of another class or frequency. With none
stored, the model at hand stays that of its oscillator (log entry 82). -/
def Dev.restoreModel (s : Dev) (changed : Bool) : Dev :=
  let c := s.loClass
  match s.keep.stored with
  | some m =>
    if m.cls = c ∧ m.freq = s.loFreq c then
      let age := s.since m.storedAt
      let s := ((s.put Od.modelState 1).put Od.modelOffset m.offset).put Od.modelAgeing m.ageing
      let s := ((s.put Od.modelTempCoef m.tempco).put Od.modelAnchorTime m.anchor).put Od.modelAnchorTemp m.anchorTemp
      let u := (min sat64 (m.uy + cdiv (m.ua * age) (86400 * ticksPerSec)), m.ua, m.ut)
      let s := s.dropPoints.modKeep fun k => { k with restored := some u }
      (s.putUncertainties u).flag Od.keeperSticky Bit.keeperSticky_ModelRestored
    else s.resetModel.modKeep fun k => { k with stored := none }
  | none =>
    if s.nat Od.modelState = 0 then s.putUncertainties s.untrained else if changed then s.resetModel else s

/-- LoSource takes effect at CALIBRATE (R174). The state of an oscillator that stays goes on; that of a new one, whose pin raises
no fault of the old, starts anew, but FAILED is left only by a reset (R182). -/
def Dev.takeLoSource (s : Dev) : Dev :=
  if s.nat Od.loSource = s.loClass then s.when (s.nat Od.loState == 0) (·.put Od.loState 1)
  else
    let s := if s.isLive 1 ∧ s.loClass = 1 then s.modKeep fun k => { k with ovenEndAt := some s.tick } else s
    let s := ((s.live 1 0 false).put Od.loSourceActive (s.num Od.loSource)).flag Od.loSticky Bit.loSticky_LoSourceChanged
    s.when (s.nat Od.loState != 4) (·.put Od.loState 1)

/-- TS_n starts when CALIBRATE is entered (R118, R122). A scale that already runs, as where CALIBRATE is entered from TEST, goes on
and does not set Started anew (log entry 79). -/
def Dev.startScale (s : Dev) (n : Nat) : Dev :=
  let started (s : Dev) : Dev := s.flag (Od.tsSticky n) Bit.tsSticky_Started
  if s.running n then s
  else if n = 0 then
    match s.aonTs0 with
    | some v =>
      -- time that passed since the latch, on the 32.768 kHz counter (R118)
      let passed := s.since s.aonFrom * 32768 / ticksPerSec * (1000000000 * 2 ^ 72 / 32768)
      started ((s.startTs 0 (v + passed) (incOf (s.num (Od.freqNow 0)))).put (Od.timeOrigin 0) 1)
    | none => started ((s.startTs 0 0 (incOf (s.num (Od.freqNow 0)))).put (Od.timeOrigin 0) 0)
  else
    match s.nat (Od.tsSource n) with
    | 2 => started (s.startTs n (s.derivedValue n (s.val72 0)) (s.derivedInc n (s.inc 0)))
    | 3 => s.modScale n fun c => { c with await := some s.tick }
    | 4 => started (s.startTs n (s.val72 0) incNom)
    | _ => s

/-- Entry to CALIBRATE: CNT runs, the oscillator class and the model are taken, TS_0 starts on the Keeper's stored estimate
and the other scales by their sources (R95, R118). -/
def Dev.enterCalibrate (s : Dev) : Dev :=
  let s := if s.cntZero.isNone then { s with cntZero := some s.tick } else s
  let fresh := !s.running 0
  let changed := s.nat Od.loSource != s.loClass
  let s := s.takeLoSource.restoreModel changed
  let s := if fresh then
      let f := if s.nat Od.modelState = 1 then s.predict (tsTime (s.nat Od.modelAnchorTime)) else 0
      (s.put (Od.freqSteer 0) f).put (Od.freqNow 0) f
    else s
  { ((s.each (List.range 8) (·.startScale ·)).startLanes).playScripts with aonTs0 := none }

/-! ### Resynchronisation and role -/

/-- A resync run starts from its first step (R34, R469, R470); where the journal has no room for its record it is refused, and tried
again as a failed one is (R85). -/
def Dev.startResync (s : Dev) : Dev :=
  if !s.journalFree then
    { s.put Od.pairState 4 with pair := { s.pair with running := false, failedAt := some s.tick } }
  else
  let (id, s) := s.jOpen 5 5 0 0 (s.nat Od.partnerSerial) s.pair.restartOf
  let p := { s.pair with
    running := true, run := 0, stepAt := s.tick, runAt := s.tick, failedAt := none, restartOf := 0, seed := none }
  { ((s.put Od.resyncOpId id).put Od.resyncStep 0).put Od.pairState 4 with pair := p }

/-- The role becomes ACTIVE (R445, R465). -/
def Dev.becomeActive (s : Dev) (state : Nat) : Dev :=
  ((s.put Od.pairRole 1).put Od.pairState state).put Od.activeSince s.now0

/-! ### ALIVE (R481) -/

/-- AliveState for the present conditions: the first of the list of R481 that fails. -/
def Dev.aliveNow (s : Dev) : Nat :=
  if s.md = Mode.powerup then 0
  else if s.nat Od.girthLevel = 4 then 2
  else if s.md = Mode.safe then 3
  else if s.flt.stopped then 4
  else 1

/-- AliveState brought up to date: toggling resumes a half period after its conditions hold again. -/
def Dev.aliveUpdate (s : Dev) : Dev :=
  let was := s.nat Od.aliveState
  let now := s.aliveNow
  if was = now then s
  else
    let s := s.put Od.aliveState now
    if now = 1 then { s with flt := { s.flt with aliveFrom := s.tick } }
    else if was = 1 then s.flag Od.collectorSticky Bit.collectorSticky_AliveStopped
    else s

/-! ### Entering a mode (R30) -/

/-- Messages held back on a standby go to the MACs (R465): before what waits there, with the time at which they leave; a launch-time
frame, whose launch has passed, composed once more. -/
def Dev.releaseHeld (s : Dev) (ms : List Queued) : Dev :=
  let (ms, s) := ms.foldl (fun (a : List Queued × Dev) m =>
    match m.launch with
    | none => (a.1 ++ [m], a.2)
    | some _ =>
      let (t, s) := a.2.launchTime m.port
      (a.1 ++ [{ m with launch := some t, again := true }], s)) ([], s)
  { s with svc := { s.svc with queue := ms ++ s.svc.queue } }

/-- A message of the engine itself at the end of the queue. -/
def Dev.queueOwn (s : Dev) (port kind : Nat) (fields : List Nat) : Dev :=
  { s with svc := { s.svc with queue := s.svc.queue ++ [{ pipe := 4, port, kind, body := .fixed fields, ready := s.cnt }] } }

/-- An ARP packet: operation, addresses of the port, hardware and protocol address of the target. -/
def Dev.sendArp (s : Dev) (p op mac target : Nat) : Dev :=
  s.queueOwn p 0x0806 [op, s.nat (Od.macAddress p), s.nat (Od.ipv4Address p), mac, target]

/-- A neighbour advertisement of a port: flags (bit 2 router, bit 1 solicited, bit 0 override), addresses of the port, and who it
goes to, 0 for all nodes. -/
def Dev.sendNeighbour (s : Dev) (p flags mac target : Nat) : Dev :=
  s.queueOwn p 0x86DD [flags, s.nat (Od.macAddress p), s.nat (Od.ipv6Address p), mac, target]

/-- The addresses of a port announced: a gratuitous ARP and an unsolicited neighbour advertisement, for an address that is not 0. -/
def Dev.announceAddresses (s : Dev) (p : Nat) : Dev :=
  let s := s.when (s.nat (Od.ipv4Address p) != 0) fun s => s.sendArp p 1 0 (s.nat (Od.ipv4Address p))
  s.when (s.nat (Od.ipv6Address p) != 0) (·.sendNeighbour p 1 0 0)

/-- The answer of a port to a question for one of its addresses (Table 11-2). -/
def Dev.answerAsk (s : Dev) (p : Nat) (a : AskF) : Dev :=
  if a.v6 then
    if a.target = s.nat (Od.ipv6Address p) ∧ a.target ≠ 0 then s.sendNeighbour p 3 a.mac a.sender else s
  else if a.target = s.nat (Od.ipv4Address p) ∧ a.target ≠ 0 then s.sendArp p 2 a.mac a.sender
  else s

/-- What the new active does at its instant (R465): frames held beyond the last CommitHorizon of their port are released, the
shared outputs are driven, each data port in use announces the addresses, and TAKEN goes out for 10 s. -/
def Dev.takeOver (s : Dev) : Dev :=
  let beyond (h : Held) : Bool :=
    let c := Tab.get (fun _ => (0, 0)) s.pair.commit h.port
    decide (c.1 < h.ready) || (h.ready == c.1 && decide (c.2 < h.ordinal))
  let send := s.pair.held.filter beyond
  let s := s.each send fun s h => s.emit (.frame h.port 1 [h.ready, h.ordinal])
  let s := s.releaseHeld (send.filterMap (·.msg))
  let s := (s.bumpBy Od.framesReleased send.length).put Od.holdDepth 0
  let s := { s with pair := { s.pair with held := [], incs := [], takenUntil := s.tick + 10 * ticksPerSec, leaving := none } }
  let s := s.each ((List.range 16).filter fun p => s.on (Od.portEnable p)) (·.announceAddresses ·)
  ((s.bump Od.failoverCount).put Od.lastFailoverTime s.now0).flag Od.pairSticky Bit.pairSticky_Failover

/-- What every row writes: OpMode, ModeSince, LastModeCause and the ModeChange event. -/
def Dev.modeRow (s : Dev) (m cause : Nat) : Dev :=
  let a := s.md
  let s := ((s.put Od.opMode m).put Od.modeSince s.now0).put Od.lastModeCause cause
  let r := { s.mode with
    cycle := some (s.tick / 2), since := s.tick,
    before := if m = Mode.test ∨ m = Mode.safe then (if a = Mode.test ∨ a = Mode.safe then s.mode.before else a)
      else s.mode.before,
    wasLocked := if m = Mode.locked then true else if m = Mode.configure then false else s.mode.wasLocked }
  { s with mode := r }.emit (.modeChange a m cause)

/-- The phases whose duration is kept: POWERUP, CONFIGURE, CALIBRATE and WARMUP (R525). -/
def Dev.phaseDone (s : Dev) (a : Nat) : Dev :=
  if a ≤ 3 then
    let ms := min sat32 (s.since s.mode.since / ticksPerMs)
    let sh := 2 ^ (32 * (3 - a))
    let v := s.nat Od.phaseDurations
    s.put Od.phaseDurations ((v - v / sh % 2 ^ 32 * sh + ms * sh : Nat))
  else s

/-- The outputs between two modes (R292, Table 1-4). -/
def Dev.outputsBetween (s : Dev) (a m : Nat) : Dev :=
  if outputsRun a then if outputsRun m then s else s.holdOutputs m
  else if outputsRun m then s.resumeOutputs m
  else s.each s.outputs fun s n => s.put (Od.tioState n) (tioStateIn m)

/-- What a row itself writes as it leads to m: the phase that ends, the row's objects, the sticky bits it names. -/
def Dev.rowOf (s : Dev) (m cause : Nat) (bits : List Nat) : Dev :=
  ((if s.md = m then s else s.phaseDone s.md).modeRow m cause).each bits fun s b => s.flag Od.modeSticky b

/-- HOLDOVER is left: in TEST and SAFE TS_0 goes on as it was held (R254; log entry 82). -/
def Dev.leaveHold (s : Dev) (a m : Nat) (fresh : Bool) : Dev :=
  let hold := if m = Mode.test ∨ m = Mode.safe then s.holding else 0
  let s := if a = Mode.holdover ∧ (fresh ∨ m ≠ Mode.holdover) then s.endHoldover.live 6 0 false else s
  if s.keep.hold = hold then s else s.modKeep fun k => { k with hold }

/-- What CONFIGURE and CALIBRATE begin with. -/
def Dev.beginMode (s : Dev) (m : Nat) : Dev :=
  if m = Mode.configure then
    ((s.modScale 0 fun c => { c with aligned := false }).modEbe fun e =>
      { e with refHeld := 0xFF, traceHeld := false }).forgetPassed
  else if m = Mode.calibrate then s.enterCalibrate
  else s

/-- HOLDOVER is entered. Where the Keeper already steers, as out of SAFE, L is latched anew, since H starts again from 0 (log
entry 82). -/
def Dev.enterHold (s : Dev) (m : Nat) (fresh kept : Bool) : Dev :=
  if m = Mode.holdover ∧ (fresh ∨ s.nat Od.holdoverState = 0) then (if kept then s.latchBound 0 else s).startHoldover else s

/-- BootDuration, at the first ACQUIRE. -/
def Dev.noteBoot (s : Dev) (m : Nat) : Dev :=
  if m = Mode.acquire ∧ s.nat Od.bootDuration = 0 then
    s.put Od.bootDuration (min sat32 (s.since s.mode.bootFrom / ticksPerMs) : Nat)
  else s

/-- The Cinch's timers where it starts or stops running. -/
def Dev.cinchChange (s : Dev) (ran : Bool) : Dev := if ran = s.cinchOn then s else s.runTimers s.cinchOn

/-- The mode changes to m (R26, R37), with cause and sticky bits. `fresh` is false where HOLDOVER is taken over as it runs on the
partner (row 31). -/
def Dev.enterMode (s : Dev) (m cause : Nat) (bits : List Nat) (fresh : Bool := true) : Dev :=
  let r := s.rowOf m cause bits
  if s.md = m then r
  else
    (((((((r.leaveHold s.md m fresh).beginMode m).ownersFor m).enterHold m fresh (s.nat (Od.incOwner 0) == 3)).outputsBetween s.md m).noteBoot
      m).cinchChange s.cinchOn).serviceUpdate.aliveUpdate

/-! ### Rows (Table 1-6) -/

/-- R31: where SAFE leads without a pair. -/
def Dev.safeExit (s : Dev) : Nat :=
  if s.selected.isSome ∧ (s.scale 0).locked then Mode.locked
  else if s.mode.wasLocked then Mode.holdover else Mode.freerun

/-- The sticky bit of an entry to HOLDOVER or FREERUN. -/
def heldBits (m : Nat) : List Nat :=
  if m = Mode.holdover then [Bit.modeSticky_EnteredHoldover]
  else if m = Mode.freerun then [Bit.modeSticky_EnteredFreerun] else []

/-- The service modes of rows 22 and 23. -/
def serviceModes : List Nat := [Mode.acquire, Mode.locked, Mode.holdover, Mode.freerun]

/-- Whether a reference is SELECTED and the servo locked. -/
def Dev.lockHolds (s : Dev) : Bool := s.selected.isSome && (s.scale 0).locked

/-- The lock declared event of row 14 is withheld after a start-up tamper (R433). -/
def Dev.lockWithheld (s : Dev) : Bool :=
  s.mode.startTamper && s.nat Od.keyStoreState == 1 && !s.on Od.unauthServe

/-- Rows 11, 12 and 35: the oscillator is ready, and where a pair is enabled the partner is known (R442, R445). -/
def Dev.joinRow (s : Dev) : Option Dev :=
  if s.md ≠ Mode.warmup ∨ s.mode.ready = false then none
  else if !s.on Od.pairEnable then
    some ({ s with mode := { s.mode with row35 := false } }.enterMode Mode.acquire 4 [])
  else
    match s.pair.hello with
    | none => none
    | some h =>
      let wins := s.nat Od.pairPriority < h.priority ∨
        (s.nat Od.pairPriority = h.priority ∧ s.nat Od.serialNumber < h.serial)
      -- the partner reports ACTIVE, or counts as doing so since it wins (R445)
      let active := h.claim = 1 ∨ (h.claim = 0 ∧ !wins)
      if !active ∧ s.mode.row35 = false then
        some ((s.enterMode Mode.acquire 4 []).becomeActive 4)
      else if h.versionsMatch then
        let s := { s with mode := { s.mode with row35 := false } }
        some (((s.put Od.pairRole 2).enterMode Mode.resync 4 []).startResync)
      else if s.mode.row35 then none
      else
        let s := (s.enterMode Mode.warmup 12 []).flag Od.pairSticky Bit.pairSticky_ImageMismatch
        some { (s.put Od.pairRole 0).put Od.pairState 6 with mode := { s.mode with row35 := true } }

/-- Whether the life-cycle state allows a mode (Table 1-8). -/
def Dev.lifeAllows (s : Dev) (m : Nat) : Bool :=
  match s.nat Od.lifeCycleState with
  | 3 => [Mode.powerup, Mode.configure, Mode.calibrate, Mode.test].contains m
  | 4 => m == Mode.powerup
  | _ => true

/-- What a host request does in the present mode (R36): the state after it with 0 DONE, or the code of its refusal, the first of the
rule's list that holds. -/
def Dev.requestRow (s : Dev) (code arm : Nat) : Dev × Nat :=
  let m := s.md
  match code with
  | 1 =>
    if m ≠ Mode.configure then (s, 2) else if !s.lifeAllows Mode.calibrate then (s, 4)
    else (s.enterMode Mode.calibrate 2 [], 0)
  | 2 =>
    if m ≠ Mode.configure ∧ !serviceModes.contains m then (s, 2)
    else if m ≠ Mode.configure ∧ !arm.testBit Bit.modeArm_TestFromService then (s, 3)
    else if !s.lifeAllows Mode.test then (s, 4)
    else (s.enterMode Mode.test 10 [Bit.modeSticky_TestEntered], 0)
  | 3 =>
    if m ≠ Mode.test then (s, 2) else if !s.lifeAllows Mode.calibrate then (s, 4)
    else (s.removeLoops.enterMode Mode.calibrate 10 [], 0)
  | _ =>
    let dst := if s.on Od.pairEnable then Mode.resync else s.safeExit
    if m ≠ Mode.safe ∨ s.nat Od.girthLevel = 4 then (s, 2) else if !s.lifeAllows dst then (s, 4)
    else if s.on Od.pairEnable then (((s.put Od.pairRole 2).enterMode Mode.resync 12 []).startResync, 0)
    else (s.enterMode dst 10 [], 0)

/-- The state after an event's row, none where no row of Table 1-6 takes it in the present mode. -/
def Dev.modeEvent (s : Dev) : ModeEvent → Option Dev
  | .reactSafe =>
    if s.inMode (Mode.follower :: serviceModes) then
      some ((s.enterMode Mode.safe 9 [Bit.modeSticky_EnteredSafe]))
    else none
  | .failover permitted =>
    if s.md = Mode.follower ∧ permitted then
      let m := s.nat Od.shadowMode
      let s := { s with ebe := { s.ebe with pairTerm := true } }
      some ((s.enterMode m 12 [Bit.modeSticky_FailoverTaken] false).becomeActive 3).takeOver
    else none
  | .partnerGone solo =>
    if s.md = Mode.resync then
      if solo then some ((s.enterMode Mode.acquire 12 []).becomeActive 3) else some (s.modeRow Mode.resync 12)
    else none
  | .keepEntered =>
    if s.md = Mode.locked then some (s.enterMode Mode.holdover 7 [Bit.modeSticky_EnteredHoldover])
    else if s.md = Mode.follower then
      let sh := s.nat Od.shadowMode
      let m := if sh = Mode.acquire ∨ sh = Mode.freerun then Mode.freerun else Mode.holdover
      let s := ((s.enterMode m 7 (heldBits m)).put Od.pairRole 0).put Od.pairState 0
      -- a HELLO that claims no role tells the partner
      some ({ s with mode := { s.mode with keep33 := true } }.tell 0x01 [s.nat Od.serialNumber, s.nat Od.pairPriority, 0,
        s.nat Od.applicationVersionM3, s.update.micro.toNat, s.nat Od.activeSince])
    else none
  | .wakeFromKeep =>
    if s.inMode [Mode.holdover, Mode.freerun] ∧ s.mode.keep33 then
      let s := { s with mode := { s.mode with keep33 := false } }
      if s.on Od.pairEnable then
        some (((s.put Od.pairRole 2).enterMode Mode.resync 12 [Bit.modeSticky_ResyncRestarted]).startResync)
      else none
    else none
  | .lockDeclared withheld =>
    if !s.lockHolds ∨ (s.md = Mode.acquire ∧ withheld) then none
    else if s.inMode [Mode.acquire, Mode.freerun, Mode.holdover] then some (s.enterMode Mode.locked 5 []) else none
  | .refLeft another =>
    if s.md = Mode.locked then
      if another then some (s.modeRow Mode.locked 5)
      else some (s.enterMode Mode.holdover 5 [Bit.modeSticky_EnteredHoldover])
    else none
  | .boundCrossed =>
    if s.md = Mode.holdover then
      some ((s.enterMode Mode.holdover 8 [Bit.modeSticky_HoldoverExceeded]).live 6 0 true)
    else none
  | .resyncDone =>
    -- ShadowMode is the active's mode as its frames have carried it (R33)
    if s.md = Mode.resync then
      let s := (s.put Od.shadowMode s.pair.peerMode).enterMode Mode.follower 12 []
      some (s.when (s.pair.peerMode == Mode.holdover && s.nat Od.holdoverState == 0) (·.startHoldover))
    else none
  | .divergence _ =>
    if s.md = Mode.follower then
      some ((s.enterMode Mode.resync 12 [Bit.modeSticky_ResyncRestarted]).startResync)
    else none
  | .oscReady => s.joinRow
  | .warmupTimeout =>
    if s.md = Mode.warmup ∧ s.mode.ready = false then
      some ((s.enterMode Mode.warmup 4 [Bit.modeSticky_WarmupTimeout]).report 2 0)
    else none
  | .acquireTimeout =>
    if s.md = Mode.acquire ∧ s.selected.isNone then
      some (s.enterMode Mode.freerun 6 [Bit.modeSticky_EnteredFreerun])
    else none
  | .quietOver hold =>
    if s.md = Mode.safe ∧ !hold ∧ s.nat Od.girthLevel ≠ 4 then
      if s.on Od.pairEnable then some (((s.put Od.pairRole 2).enterMode Mode.resync 12 []).startResync)
      else
        let m := s.safeExit
        some (s.enterMode m 11 [])
    else none
  | .request code arm =>
    let (s, r) := s.requestRow code arm
    some (s.put Od.modeRequestResult r)

/-- Priority of an event (Table 1-5). -/
def ModeEvent.priority : ModeEvent → Nat
  | .reactSafe => 2
  | .failover _ | .partnerGone _ | .resyncDone | .divergence _ => 3
  | .keepEntered | .wakeFromKeep => 4
  | .lockDeclared _ | .refLeft _ | .boundCrossed | .oscReady => 5
  | .warmupTimeout | .acquireTimeout | .quietOver _ => 6
  | .request _ _ => 7

/-- Whether the mode controller has already taken a row in this SRV cycle (3.2 ns, R29). -/
def Dev.cycleTaken (s : Dev) : Bool := s.mode.cycle == some (s.tick / 2)

/-- The first event of the least priority number, and the queue without it. -/
def takeFirst (p : Nat) : List ModeEvent → Option ModeEvent × List ModeEvent
  | [] => (none, [])
  | e :: es =>
    if e.priority = p then (some e, es)
    else
      let (r, q) := takeFirst p es
      (r, e :: q)

/-- The least priority number of a queue. -/
def leastPriority (q : List ModeEvent) : Nat := q.foldl (fun p e => min p e.priority) 7

/-- The events that wait are evaluated in this SRV cycle, the highest priority first: one that no row takes leaves the mode as
it is, so that the next is looked at; after the first row the rest wait for the next cycle (R29). -/
def Dev.serveEvents : Nat → Dev → Dev
  | 0, s => s
  | n + 1, s =>
    if s.cycleTaken then s
    else
      let (e, q) := takeFirst (leastPriority s.mode.queue) s.mode.queue
      match e with
      | some e =>
        let s := { s with mode := { s.mode with queue := q } }
        Dev.serveEvents n ((s.modeEvent e).getD s)
      | none => s

/-- One evaluation of the events that wait (R29). -/
def Dev.servePending (s : Dev) : Dev := s.serveEvents s.mode.queue.length

/-- An event reaches the mode controller: it is evaluated with those that wait, by priority, unless a row was already taken in
this cycle (R29). Events of one cycle reach it in the order of the commands (log entry 12). -/
def Dev.post (s : Dev) (e : ModeEvent) : Dev :=
  Dev.servePending { s with mode := { s.mode with queue := s.mode.queue ++ [e] } }

/-- Whether an event is a host request. -/
def ModeEvent.isRequest : ModeEvent → Bool
  | .request _ _ => true
  | _ => false

/-- A host request: PENDING while it waits; one that still waits is replaced and reads SUPERSEDED (R35). -/
def Dev.hostRequest (s : Dev) (code : Nat) : Dev :=
  let s := if s.mode.queue.any (·.isRequest) then s.put Od.modeRequestResult 5 else s
  let s := { s with mode := { s.mode with queue := s.mode.queue.filter fun e => !e.isRequest } }
  (s.put Od.modeRequestResult 1).post (.request code (s.nat Od.modeArm))

end Sys2Proof.Machine
end

