-- ==== Sys2Proof/Machine/Write.lean ====
section
/-! DEFINITION. What a write of objects means to the chapters that own them: the write as the engine sees it, the checks an
object adds to those of R48, and the bit maps whose bits are cleared by writing 1. -/

namespace Sys2Proof.Machine

/-- A write of one or more objects that takes effect at one instant (R50, R64, R76): who asks, at which level, the values
as they are after it, the objects and values it writes in order, and how many of them stand up to and with the one that is
judged. -/
structure Wr where
  req : Req
  lvl : Nat
  new : Dev
  vals : List (Nat × Int)
  upTo : Nat
  deriving DecidableEq, Repr

/-- The value an object has after the write. -/
def Wr.num (w : Wr) (k : Nat) : Int := w.new.num k
def Wr.nat (w : Wr) (k : Nat) : Nat := w.new.nat k
def Wr.on (w : Wr) (k : Nat) : Bool := w.new.on k

/-- Whether the write writes an object. -/
def Wr.has (w : Wr) (k : Nat) : Bool := w.vals.any (·.1 == k)

/-- The values the write gives an object up to and with the entry that is judged. -/
def Wr.upNow (w : Wr) (k : Nat) : List Int := ((w.vals.take w.upTo).filter (·.1 == k)).map (·.2)

/-- Whether k is the first of the objects of a list that the write writes: a group of them acts once. -/
def Wr.leads (w : Wr) (k : Nat) (group : List Nat) : Bool := (group.find? w.has) == some k

/-- The status of the first check of R48 that fails, among the checks of a list: Table 2-6 numbers the codes in the order of
the checks. -/
def firstBad (l : List Status) : Status :=
  l.foldl (fun a b => if b = .ok then a else if a = .ok ∨ b.code < a.code then b else a) .ok

/-- A status where a condition fails. -/
def need (b : Bool) (s : Status) : Status := if b then .ok else s

/-- The bits of a bit map that are written as 1 are cleared (R13). -/
def Dev.clearBits (s : Dev) (k : Nat) (v : Int) : Dev := s.put k (bitsWithout (s.nat k) v.toNat : Nat)

/-- The unit of an object in a run of like objects. -/
def unitOf (k base : Nat) : Nat := k / 256 - base

end Sys2Proof.Machine
end

