-- ==== Sys2Proof/Machine/Sessions.lean ====
section
/-! DEFINITION. The datagrams of a session and their keys (R57, R59), and the end of a session and of a staged set (R62, R66,
R75). -/

namespace Sys2Proof.Machine

/-! ### Datagrams (Tables 2-4 and 2-5, R59) -/

/-- Octets 0 … 15 of a datagram: Version, Kind, Flags, SessionId, Sequence. -/
def oapHeader (kind sid seq : Nat) : List Byte :=
  beBytes 1 1 ++ beBytes 1 kind ++ beBytes 2 0 ++ beBytes 4 sid ++ beBytes 8 seq

/-- The octets of an ASCII string. -/
def asciiBytes (x : String) : List Byte := x.toList.map fun c => BitVec.ofNat 8 c.toNat

/-- The first n octets of hkdf_expand_sha256, n at most 32: one block of HMAC. -/
def hkdfExpand (prk : Nat) (info : String) (n : Nat) : Nat :=
  Config.hmac256 prk (asciiBytes info ++ [1]) % 2 ^ 256 / 256 ^ (32 - n)

/-- The keys and salts of a session, from the pre-shared key of its level and the nonces of both ends. -/
def Session.withKeys (x : Session) (psk : Nat) : Session :=
  let prk := Config.hmac256 (x.clientNonce * 2 ^ 128 + x.engineNonce) (beBytes 32 psk)
  { x with
    keyIn := hkdfExpand prk "OAP v1 c2e key" 32, keyOut := hkdfExpand prk "OAP v1 e2c key" 32,
    saltIn := hkdfExpand prk "OAP v1 c2e salt" 4, saltOut := hkdfExpand prk "OAP v1 e2c salt" 4 }

/-- A datagram of the engine: header, ciphertext, tag. -/
def Session.seal (x : Session) (kind : Nat) (body : List Byte) : List Byte :=
  let h := oapHeader kind x.sid x.out
  h ++ Config.aesGcm256 x.keyOut (x.saltOut * 2 ^ 64 + x.out) h body

/-- HELLO_ACK: EngineNonce in clear, the tag over an empty plaintext. -/
def Session.helloAck (x : Session) : List Byte :=
  let h := oapHeader 2 x.sid 0 ++ beBytes 16 x.engineNonce
  h ++ Config.aesGcm256 x.keyOut (x.saltOut * 2 ^ 64) (h ++ beBytes 16 x.clientNonce) []

/-! ### Ends -/

/-- The staged set is emptied: StageState EMPTY, no owner (Table 2-11). -/
def Dev.emptyStage (s : Dev) : Dev :=
  ((((s.modAcc fun a => { a with staged := [], stageOwner := none }).put Od.stageState 0).put Od.stageSession 0).put
    Od.stageEntries 0).put Od.stageBytes 0

/-- What an owner that ends leaves behind: its subscriptions end, its own values are forgotten (R86), and its OPEN set is
discarded and counted. -/
def Dev.ownerEnds (s : Dev) (q : Req) : Dev :=
  let s := (s.modAcc fun a => { a with subs := a.subs.filter fun x => x.owner != q }).forgetMine q
  if s.acc.stageOwner = some q ∧ s.nat Od.stageState = 1 then s.emptyStage.bump Od.stageDiscards else s

/-- A session ends without a word. -/
def Dev.dropSession (s : Dev) (sid : Nat) : Dev :=
  if s.acc.sessions.any (·.sid == sid) then
    let s := s.modAcc fun a => { a with sessions := a.sessions.filter (·.sid != sid) }
    (s.put Od.sessionsOpen s.acc.sessions.length).ownerEnds (.oap sid)
  else s

/-- A session closed by the engine, with a Reason: CLOSE is its last datagram. -/
def Dev.closeSession (s : Dev) (reason sid : Nat) : Dev :=
  match s.acc.sessions.find? (·.sid == sid) with
  | some x => ((s.dropSession sid).bump Od.sessionsClosed).emit (.close sid reason (x.seal 0x1F (beBytes 1 reason)))
  | none => s

/-- Every session that a test holds of is closed. -/
def Dev.closeSessions (s : Dev) (reason : Nat) (p : Session → Bool) : Dev :=
  s.each ((s.acc.sessions.filter p).map (·.sid)) (·.closeSession reason ·)

end Sys2Proof.Machine
end

