-- ==== Sys2Proof/Machine/Keys.lean ====
section
/-! DEFINITION. The key store (R415 to R441): slots and their uses, management operations, attestation, tamper, life cycle and
the OTP objects. -/

namespace Sys2Proof.Machine

/-! ### Slots (R415 to R418) -/

/-- A slot no command has filled: slot 0 holds the device identity key from manufacture (R416). -/
def Slot.factory (n : Nat) : Slot := if n = 0 then { typ := 4, usage := 16, fills := 1 } else {}

/-- The key store across a power-on of the backup rail: the flash mirror keeps the slots (R418). -/
def Keys.coldStart (k : Keys) : Keys :=
  { slots := k.slots, draws := k.draws, sinceUnseal := k.sinceUnseal, lifeOp := k.lifeOp }

/-- The key store across the other resets: it is not reset, but what was to come of a rotation is not carried on (R84). -/
def Keys.warmStart (k : Keys) : Keys := { k with rotations := [], zeroised := false, jobs := [] }

/-- A slot. -/
def Dev.slot (s : Dev) (n : Nat) : Slot := Tab.get Slot.factory s.keys.slots n

/-- A slot changed; SlotsUsed follows. -/
def Dev.setSlot (s : Dev) (n : Nat) (x : Slot) : Dev :=
  let s := { s with keys := { s.keys with slots := Tab.set Slot.factory s.keys.slots n x } }
  let used := (s.keys.slots.filter fun p => p.1 != 0 && p.2.typ != 0).length
  s.put Od.slotsUsed (used + (if (s.slot 0).typ = 0 then 0 else 1) : Nat)

/-- The key of a slot: that of slot 0 is the chip's own until it is destroyed. -/
def Dev.keyOf (s : Dev) (n : Nat) : Nat := if n = 0 ∧ (s.slot 0).typ ≠ 0 then Config.identityKey else (s.slot n).key

/-- KeyStoreState is SEALED. -/
def Dev.isSealed (s : Dev) : Bool := s.nat Od.keyStoreState == 1

/-- Usage bits allowed for a type (Table 13-1). -/
def usageAllowed : Nat → Nat
  | 1 => 33
  | 2 => 33
  | 3 => 6
  | 4 => 56
  | _ => 0

/-- A slot filled with a key (R415, R417). -/
def Dev.fillSlot (s : Dev) (n typ usage : Nat) (imported : Bool) (key : Nat) : Dev :=
  let cls := if n = 0 then 0 else if n = 5 ∨ s.nat Od.lifeCycleState = 0 then 1 else 2
  s.setSlot n { typ, imported, usage, cls, created := s.now0, fills := ((s.slot n).fills + 1) % 4294967296, uses := 0, key }

/-- A slot emptied (R422): its count of fillings stays. -/
def Dev.emptySlot (s : Dev) (n : Nat) : Dev := s.setSlot n { fills := (s.slot n).fills }

/-- A use of a slot by a user that needs a type and a usage bit (R423): whether it succeeds. -/
def Dev.keyUse (s : Dev) (n bit : Nat) (types : List Nat) : Bool × Dev :=
  let x := s.slot n
  if s.isSealed ∨ !types.contains x.typ ∨ !x.usage.testBit bit then
    (false, ((s.bump Od.keyUseDenied).flag Od.keySticky Bit.keySticky_KeyUseDenied).report 194 n)
  else (true, s.setSlot n { x with uses := (x.uses + 1) % 18446744073709551616 })

/-- A key of a type drawn from the DRBG (R421). -/
def Dev.drawKey (s : Dev) (typ : Nat) : Nat × Dev :=
  let len := if typ = 4 then 48 else 32
  (Config.drbg s.keys.draws len % 256 ^ len, { s with keys := { s.keys with draws := s.keys.draws + 1 } })

/-- The management operations not done. -/
def Dev.openJobs (s : Dev) : List (KeyJob × Nat) := s.keys.jobs.filter fun j => s.tick < j.2

/-- A management operation that takes a time, once those before it are done (R419). -/
def Dev.startJob (s : Dev) (j : KeyJob) (ms : Nat) : Dev :=
  let free := s.openJobs.foldl (fun t j => max t j.2) s.tick
  { s with keys := { s.keys with jobs := s.openJobs ++ [(j, free + ms * ticksPerMs)] } }

/-- Whether a management operation runs (R419). -/
def Dev.keyBusy (s : Dev) : Bool := !s.openJobs.isEmpty

/-- KeyOpStatus as it reads. -/
def Dev.keyOpStatusNow (s : Dev) : Nat := if s.keyBusy then 1 else s.nat Od.keyOpStatus

/-! ### Management operations (R420 to R424) -/

/-- The order of the group of P-384 (FIPS 186; PRESUMED, log entry 21). -/
def p384Order : Nat :=
  0xFFFFFFFFFFFFFFFFFFFFFFFFFFFFFFFFFFFFFFFFFFFFFFFFC7634D81F4372DDF581A0DB248B0A77AECEC196ACCC52973

/-- Field of a value of `total` octets, most significant first. -/
def octets (total v off size : Nat) : Nat := v / 256 ^ (total - off - size) % 256 ^ size

/-- The checks that import and generation share: slot, type and usage. -/
def Dev.slotCheck (s : Dev) (slot typ usage : Nat) : Bool :=
  6 ≤ slot && slot ≤ 1023 && (s.slot slot).typ == 0 && 1 ≤ typ && typ ≤ 4 && bitsWithout usage (usageAllowed typ) == 0

def Dev.importCheck (s : Dev) (v : Nat) : Status :=
  let typ := octets 56 v 2 1
  let key := octets 56 v 8 48
  let good := s.slotCheck (octets 56 v 0 2) typ (octets 56 v 3 1) &&
    (if typ = 4 then key != 0 && decide (key < p384Order) else key % 256 ^ 16 == 0)
  firstBad [need (!s.isSealed) .state, need good .range]

def Dev.importKey (s : Dev) (v : Nat) : Dev :=
  let typ := octets 56 v 2 1
  let key := octets 56 v 8 48
  (s.fillSlot (octets 56 v 0 2) typ (octets 56 v 3 1) true (if typ = 4 then key else key / 256 ^ 16)).put Od.keyOpStatus 0

def Dev.generateCheck (s : Dev) (v : Nat) : Status :=
  firstBad [need (!s.isSealed) .state, need (s.slotCheck (octets 8 v 0 2) (octets 8 v 2 1) (octets 8 v 3 1)) .range]

def Dev.generateKey (s : Dev) (v : Nat) : Dev :=
  let slot := octets 8 v 0 2
  let (key, s) := s.drawKey (octets 8 v 2 1)
  ((s.fillSlot slot (octets 8 v 2 1) (octets 8 v 3 1) false key).put Od.keyOpStatus 0).startJob (.fill slot) 2

/-- The fields of KeyRotate: old and new slot, source, SwitchAt in 2^-32 ns. -/
def rotateFields (v : Nat) : Nat × Nat × Nat × Int :=
  (octets 24 v 0 2, octets 24 v 2 2, octets 24 v 4 1, tsTime (octets 24 v 8 16))

def Dev.rotateCheck (s : Dev) (v : Nat) : Status :=
  let (old, new, src, at') := rotateFields v
  let a := s.slot old
  let b := s.slot new
  let named (n : Nat) : Bool := 6 ≤ n && n ≤ 1023
  let same := a.typ != 0 && (src == 0 && b.typ == 0 || src == 1 && b.typ == a.typ && b.usage == a.usage)
  let lead := s.tsNow 0 + fine16 (s.nat Od.commitMinLead * 65536000 : Nat) ≤ at'
  firstBad [need (!s.isSealed) .state, need (named old && named new && src ≤ 1 && same && lead) .range,
    need s.journalFree .busy]

def Dev.rotateKey (s : Dev) (q : Req) (v : Nat) : Dev :=
  let (old, new, src, at') := rotateFields v
  let (id, s) := s.jOpen 3 3 0 (s.origin q) 0 0
  let a := s.slot old
  let s := if src = 0 then
      let (key, s) := s.drawKey a.typ
      s.fillSlot new a.typ a.usage false key
    else s
  let s := (s.jStep id 1).put Od.keyOpStatus 0
  let s := if src = 0 then s.startJob (.rotate id new true) 2 else s
  { s with keys := { s.keys with rotations := s.keys.rotations ++ [{ old, new, switchAt := at', opId := id }] } }

/-- The objects that name key slots (R424). -/
def slotObjects : List Nat :=
  (List.range 16).map Od.sppKeySlot ++ (List.range 16).map Od.sppNextKeySlot ++ [Od.cookieMasterSlot, Od.ntsKeCertSlot]

/-- Step 2 of one rotation. -/
def Dev.switchRotation (s : Dev) (r : Rotation) : Dev :=
  (s.each slotObjects fun s k => if s.nat k = r.old then s.put k r.new else s).jStep r.opId 2

/-- The rotations whose SwitchAt TS_0 has reached are switched. -/
def Dev.runSwitches (s : Dev) : Dev :=
  let due (r : Rotation) : Bool := r.retireAt.isNone && s.running 0 && decide (r.switchAt ≤ s.tsNow 0)
  let s := s.each (s.keys.rotations.filter due) (·.switchRotation ·)
  let upd (r : Rotation) : Rotation :=
    if due r then { r with retireAt := some (r.switchAt + s.num Od.keyRetireDelay * second) } else r
  { s with keys := { s.keys with rotations := s.keys.rotations.map upd } }

/-- Step 3: the old slots whose delay has passed are destroyed. -/
def Dev.runRetires (s : Dev) : Dev :=
  let due (r : Rotation) : Bool :=
    match r.retireAt with
    | some t => s.running 0 && decide (t ≤ s.tsNow 0)
    | none => false
  let s := s.each (s.keys.rotations.filter due) fun s r => ((s.emptySlot r.old).jStep r.opId 3).jEnd r.opId 2
  { s with keys := { s.keys with rotations := s.keys.rotations.filter fun r => !due r } }

/-! ### Description and attestation (R425) -/

/-- KeyFingerprint of a slot (Table 13-2). -/
def Dev.fingerprint (s : Dev) (n : Nat) : Nat :=
  let x := s.slot n
  let check : List Byte := "GWN7448 key check".toList.map fun c => BitVec.ofNat 8 c.toNat
  if x.typ = 0 then 0
  else if x.typ = 4 then Config.sha256 (beBytes 97 (Config.publicPoint (s.keyOf n))) / 2 ^ 128 % 2 ^ 128
  else Config.hmac256 (s.keyOf n) check / 2 ^ 128 % 2 ^ 128

/-- A requester's description of a slot (R415). -/
def Dev.querySlot (s : Dev) (q : Req) (n : Nat) : Dev :=
  let x := s.slot n
  s.each [(Od.keyQuerySlot, n), (Od.keyType, x.typ), (Od.keyOrigin, if x.imported then 1 else 0), (Od.keyUsage, x.usage),
    (Od.keyClass, x.cls), (Od.keyGeneration, x.fills), (Od.keyCreated, x.created), (Od.keyFingerprint, s.fingerprint n),
    (Od.keyUses, x.uses)] fun s p => s.putMine q p.1 (p.2 : Nat)

/-- DebugState of Table 13-6. -/
def Dev.debugNow (s : Dev) : Nat := if s.nat Od.lifeCycleState = 2 ∨ s.nat Od.lifeCycleState = 4 then 1 else 0

def Dev.attestCheck (s : Dev) (v : Nat) : Status :=
  let kind := octets 36 v 0 1
  let slot := octets 36 v 2 2
  firstBad [need (!s.isSealed) .state,
    need (kind == 1 || (kind == 0 && decide (slot ≤ 1023) && (s.slot slot).typ != 0)) .range]

/-- Bytes 0 … 91 of the statement of Table 13-2. -/
def Dev.statement (s : Dev) (v : Nat) : List Byte :=
  let kind := octets 36 v 0 1
  let n := octets 36 v 2 2
  let x := if kind = 0 then s.slot n else {}
  let flags := (if s.keys.sinceUnseal then 1 else 0) + (if s.debugNow = 0 then 2 else 0) + (if s.keys.zeroised then 4 else 0)
  beBytes 4 0x47574154 ++ beBytes 1 1 ++ beBytes 1 kind ++ beBytes 2 0 ++ beBytes 4 (s.nat Od.serialNumber) ++
    beBytes 4 (s.nat Od.revisionNumber) ++ beBytes 1 (s.nat Od.lifeCycleState) ++ beBytes 1 (if x.imported then 1 else 0) ++
    beBytes 1 x.typ ++ beBytes 1 x.usage ++ beBytes 2 (if kind = 0 then n else 0xFFFF) ++ beBytes 1 0 ++ beBytes 1 flags ++
    beBytes 4 x.fills ++ beBytes 16 s.now0 ++ beBytes 32 (octets 36 v 4 32) ++
    beBytes 16 (if kind = 0 then s.fingerprint n else 0)

/-- The statement of Table 13-2 placed for its requester, signed with slot 0. -/
def Dev.attest (s : Dev) (q : Req) (v : Nat) : Dev :=
  let body := s.statement v
  let sig := Config.ecdsa384 (s.keyOf 0) body s.keys.draws % 256 ^ 96
  let s := { s with keys := { s.keys with draws := s.keys.draws + 1 } }
  ((s.putMine q Od.attestStatement (beNat body * 256 ^ 96 + sig : Nat)).put Od.keyOpStatus 0).startJob (.attest q) 5

/-! ### Destruction by class (R417) -/

/-- The slots of a class emptied, but those of a list. -/
def Dev.destroyClass (s : Dev) (cls : Nat) (spare : List Nat) : Dev :=
  let named := (if cls = 0 then [0] else []) ++ (s.keys.slots.filter fun p => p.1 != 0 && p.2.typ != 0 && p.2.cls == cls).map (·.1)
  s.each (named.filter fun n => !spare.contains n) (·.emptySlot ·)

/-- The SESSION keys are gone: the OAP sessions end without a word, as their keys no longer exist. -/
def Dev.destroySession (s : Dev) : Dev := s.each (s.acc.sessions.map (·.sid)) (·.dropSession ·)

/-! ### Tamper (R426 to R434) -/

/-- What a management operation would leave behind is taken back. -/
def Dev.takeBack (s : Dev) (j : KeyJob) : Dev :=
  let s := (s.put Od.keyOpStatus 3).flag Od.keySticky Bit.keySticky_KeyOpAborted
  match j with
  | .fill n => s.emptySlot n
  | .attest q => s.putMine q Od.attestStatement 0
  | .rotate id n generated =>
    let s := (if generated then s.emptySlot n else s).jEnd id 4
    { s with keys := { s.keys with rotations := s.keys.rotations.filter (·.opId != id) } }

/-- The key operations in progress are aborted (step 1 of R428): management operations are taken back, and a message whose crypto
work is not done is dropped. -/
def Dev.abortJobs (s : Dev) : Dev :=
  let jobs := s.openJobs
  let lost := s.svc.queue.filter fun m => s.tick * 2 < m.done
  let s := { s with svc := { s.svc with queue := s.svc.queue.filter fun m => m.done ≤ s.tick * 2 } }
  ({ s with keys := { s.keys with jobs := [] } }.each jobs fun s j => s.takeBack j.1).bumpBy Od.sealedDrops lost.length

/-- Whether a tamper now is a start-up tamper (R431). -/
def Dev.atStartup (s : Dev) : Bool := s.md == Mode.powerup || s.md == Mode.configure

/-- A TamperLog entry (R429). -/
def Dev.tamperLog (s : Dev) (src detail : Nat) (zeroise during : Bool) : Dev :=
  let n := s.nat Od.tamperLogNext
  let flags := (if s.nat Od.powerState = 3 then 1 else 0) + (if s.atStartup then 2 else 0) + (if zeroise then 4 else 0) +
    (if during then 8 else 0)
  let v := ((s.now0 * 256 + src) * 256 + flags) * 65536 + detail % 65536
  (s.put (Od.tamperLogEntry (n - 1)) (v * 2 ^ 32 : Nat)).put Od.tamperLogNext (n % 16 + 1 : Nat)

/-- A tamper event of an enabled source (R428, R430, R431). -/
def Dev.tamper (s : Dev) (src detail : Nat) : Dev :=
  let during := s.keyBusy
  let zeroise := s.bit Od.zeroiseOnTamper src && s.journalFree
  let s := if s.isSealed then s else s.abortJobs.put Od.keyStoreState 1
  let s := { s with keys := { s.keys with sinceUnseal := true, inKeep := s.keys.inKeep || s.nat Od.powerState == 3 } }
  let s := ((s.tamperLog src detail zeroise during).bump Od.tamperCount).flag Od.tamperSticky src
  let s := if s.atStartup then
      { s.flag Od.tamperSticky Bit.tamperSticky_TamperAtStartup with mode := { s.mode with startTamper := true } } else s
  let s := s.report 192 src
  let s := if zeroise then
      let s := ((s.armedAct 3 src).destroyClass 2 []).destroySession
      { s.flag Od.tamperSticky Bit.tamperSticky_Zeroised with keys := { s.keys with zeroised := true } }
    else s
  s.serviceUpdate

/-- A source's condition begins or ends (for a pin, after its debounce). -/
def Dev.tamperSource (s : Dev) (src detail : Nat) (begins : Bool) : Dev :=
  if s.nat Od.powerState = 4 then s
  else
    let s := s.putBit Od.tamperLive src begins
    if begins && s.bit Od.tamperEnable src then s.tamper src detail else s

/-! The pins TAMPER_0 to TAMPER_3 -/

/-- A tamper pin's registers. -/
def Dev.tamperPin (s : Dev) (i : Nat) : TamperPin := Tab.get (fun _ => {}) s.keys.pins i

/-- A pin at a level: at its active one (TamperPolarity) its debounce counts, else its condition ends. -/
def Dev.tamperLevel (s : Dev) (i : Nat) (level : Bool) : Dev :=
  let active := level != s.bit Od.tamperPolarity i
  let x : TamperPin := { level, since := if active then some ((s.tamperPin i).since.getD s.tick) else none }
  let s := { s with keys := { s.keys with pins := Tab.set (fun _ => {}) s.keys.pins i x } }
  if active then s else s.tamperSource i 0 false

/-- The ticks at which pins at their active level have been there for TamperDebounce, with no condition live yet. -/
def Dev.tamperTicks (s : Dev) : List (Nat × Nat) :=
  if s.nat Od.powerState = 4 then []
  else
    [0, 1, 2, 3].filterMap fun i =>
      if s.bit Od.tamperLive i then none
      else (s.tamperPin i).since.map fun k => (i, k + s.nat Od.tamperDebounce * ticksPerUs)

/-- The pins whose debounce is over tamper. -/
def Dev.runTamperPins (s : Dev) : Dev :=
  s.each (s.tamperTicks.filter fun p => p.2 ≤ s.tick) fun s p =>
    s.tamperSource p.1 (if (s.tamperPin p.1).level then 1 else 0) true

/-- TAMPER_EVENT: the level of a pin changes, or the condition of another source begins or ends. -/
def Dev.tamperEvent (s : Dev) (src detail : Nat) (b : Bool) : Dev :=
  if src < 4 then s.tamperLevel src b else s.tamperSource src detail b

/-- At wake from KEEP (R430). -/
def Dev.tamperAtWake (s : Dev) : Dev :=
  if s.keys.inKeep then
    { s.flag Od.tamperSticky Bit.tamperSticky_TamperInKeep with keys := { s.keys with inKeep := false } }
  else s

/-- A release of a reset with the seal in place (R431). -/
def Dev.sealedAtRelease (s : Dev) : Dev :=
  if s.isSealed then { s with mode := { s.mode with startTamper := true } } else s

/-! ### Life cycle (R435, R436) -/

/-- The classes that a transition to a target destroys, and the slots it spares. -/
def Dev.lifeDestroy (s : Dev) (target : Nat) : Dev :=
  match target with
  | 1 => (s.destroyClass 1 [5]).destroySession
  | 2 => (s.destroyClass 1 []).destroySession
  | 3 => ((s.destroyClass 2 []).destroyClass 1 []).destroySession
  | _ => (((s.destroyClass 2 []).destroyClass 1 []).destroyClass 0 []).destroySession

/-- Whether rows 1 to 4 of Table 13-4 lead to a target. -/
def Dev.lifeRow (s : Dev) (target : Nat) : Bool :=
  let c := s.nat Od.lifeCycleState
  match target with
  | 1 => c == 0
  | 2 => c == 1
  | 3 => c ≤ 2
  | 4 => c != 4
  | _ => false

/-- Status of a life-cycle request (R432, R435). -/
def Dev.lifeCheck (s : Dev) (lvl v : Nat) : Status :=
  let target := octets 8 v 0 1
  firstBad [need (!(target == 1 && s.nat Od.lifeCycleState == 0 && decide (lvl < 4))) .accessDenied,
    need (!(s.isSealed && !([2, 3, 4].contains target))) .state, need s.journalFree .busy]

/-- The transition up to the blowing of the fuse rows; the reset of step 4 follows the response. -/
def Dev.lifeRequest (s : Dev) (q : Req) (v : Nat) : Dev :=
  let target := octets 8 v 0 1
  if !s.lifeRow target then s.put Od.lifeCycleResult 2
  else if octets 8 v 4 4 ≠ s.nat Od.serialNumber then s.put Od.lifeCycleResult 3
  else if target = 2 ∧ s.isSealed then s.put Od.lifeCycleResult 4
  else
    let (id, s) := s.jOpen 6 4 0 (s.origin q) 0 0
    let s := ((s.put Od.lifeCycleOpId id).put Od.lifeCycleResult 1).jStep id 1
    let s := (s.lifeDestroy target).jStep id 2
    let s := ((s.put Od.lifeCycleState target).flag Od.keySticky Bit.keySticky_LifeCycleChanged).jStep id 3
    { s with keys := { s.keys with lifeOp := some (id, target) } }

/-- An interrupted transition completed by the boot ROM (R436): the missing steps are done again, under a record that carries
JqRestartOf. -/
def Dev.lifeBoot (s : Dev) : Dev :=
  match s.keys.lifeOp with
  | some (id, target) =>
    if s.nat Od.lifeCycleState = target then s
    else
      let (new, s) := s.jOpen 6 4 0 0 0 id
      let s := ((s.jEnd id 5).lifeDestroy target).put Od.lifeCycleState target
      let s := (((s.jStep new 1).jStep new 2).jStep new 3).flag Od.keySticky Bit.keySticky_LifeCycleChanged
      { s with keys := { s.keys with lifeOp := some (new, target) } }
  | none => s

/-- The record of a transition is completed at CONFIGURE. -/
def Dev.lifeDone (s : Dev) : Dev :=
  match s.keys.lifeOp with
  | some (id, _) =>
    { ((s.jStep id 4).jEnd id 2).put Od.lifeCycleResult 0 with keys := { s.keys with lifeOp := none } }
  | none => s

/-! ### Writes of area 50 and of the pre-shared keys -/

/-- Checks of a write beside those of R48. -/
def Dev.keysCheck (s : Dev) (w : Wr) (k : Nat) (v : Int) : Status :=
  let n := v.toNat
  let life := s.nat Od.lifeCycleState
  if k = Od.keyImport then s.importCheck n
  else if k = Od.keyGenerate then s.generateCheck n
  else if k = Od.keyRotate then s.rotateCheck n
  else if k = Od.attestRequest then s.attestCheck n
  else if k = Od.identityCertificate then need (life == 0) .state
  else if k = Od.lifeCycleRequest then s.lifeCheck w.lvl n
  else if k = Od.tamperEnable then need (!(life == 2 && (n &&& 0xF0) != 0xF0)) .range
  else if k = Od.tamperUnseal then
    firstBad [need (w.req == .spi) .accessDenied,
      need (v == 0 || (s.nat Od.tamperLive &&& s.nat Od.tamperEnable) == 0) .state]
  else if k / 256 = 0x5030 ∧ 2 ≤ k % 256 then need (life ≤ 1 && s.num k == 0) .state
  else if k / 256 = 0x5031 then need (s.num k ≤ v && v ≤ 64) .range
  else if k / 256 = 0x1201 then need (!s.isSealed && (k != Od.pskL4 || life == 0)) .state
  else .ok

/-- The effect of a write. -/
def Dev.keysAct (s : Dev) (w : Wr) (k : Nat) (v : Int) : Dev :=
  let n := v.toNat
  if k = Od.keyImport then s.importKey n
  else if k = Od.keyGenerate then s.generateKey n
  else if k = Od.keyDestroy then (s.emptySlot n).put Od.keyOpStatus 0
  else if k = Od.keyRotate then s.rotateKey w.req n
  else if k = Od.attestRequest then s.attest w.req n
  else if k = Od.keyQuerySlot then s.querySlot w.req n
  else if k = Od.lifeCycleRequest then s.lifeRequest w.req n
  else if k = Od.tamperUnseal then
    if n = 0 then s
    else { s.put Od.keyStoreState 0 with keys := { s.keys with sinceUnseal := false } }.serviceUpdate
  else if k = Od.tamperPolarity then (s.put k v).each [0, 1, 2, 3] fun s i => s.tamperLevel i (s.tamperPin i).level
  else if k = Od.vendorRootRevoked then s.put k (s.nat k ||| n : Nat)
  else if k = Od.keySticky ∨ k = Od.tamperSticky then s.clearBits k v
  else if k / 256 = 0x1201 then
    let slot := k % 256
    if n = 0 then s.emptySlot slot else s.fillSlot slot 3 2 true n
  else s.put k v

end Sys2Proof.Machine
end

