-- ==== Sys2Proof/Machine/References.lean ====
section
/-! DEFINITION. The references: their measurements, quality levels, monitors and the rows of Table 4-6 (R135 to R154,
R560), and the UTC offset and leap seconds they state (R124 to R128). -/

namespace Sys2Proof.Machine

/-! ### Signal loss (R136, R137) -/

/-- SignalLoss set or cleared (R137): a return within HoldOff is a ride. -/
def Dev.setLoss (s : Dev) (m : Nat) (v : Bool) : Dev :=
  let live := s.bit (Od.refLive m) Bit.refLive_SignalLoss
  if v then
    if live then s
    else
      let s := s.modRr m fun r => { r with lossAt := some s.tick, firstAt := none }
      let s := s.flag (Od.refLive m) Bit.refLive_SignalLoss
      s.putBit (Od.refLive m) Bit.refLive_HoldOffRunning (s.nat (Od.refState m) != 6 && s.nat (Od.refState m) != 0)
  else if live then
    let ride := match (s.rr m).lossAt with
      | some k => s.since k < s.nat Od.holdOff * ticksPerMs && s.nat (Od.refState m) != 6
      | none => false
    let s := (s.modRr m fun r => { r with lossAt := none }).unflag (Od.refLive m) Bit.refLive_SignalLoss
    (s.unflag (Od.refLive m) Bit.refLive_HoldOffRunning).when ride (·.flag (Od.refSticky m) Bit.refSticky_HoldOffRide)
  else s

/-- Ticks without signal that make a signal loss of a reference (R136); none for SyncE, whose lane shows it. -/
def Dev.lossLimit (s : Dev) (m : Nat) : Option Nat :=
  let t := s.nat (Od.lossTimeout m) * ticksPerMs
  if m < 8 then
    some (min t (2 * s.nat (Od.prescale (32 + m)) * ticksPerSec / max 1 (s.nat (Od.refinFreq m))))
  else if m < 14 then some t else none

/-- Whether a lane has a signal and its clock recovery is locked: its link is up and its receiver is neither quiet nor waking
(Table 10-5); on a standby, as the log says of the active's. -/
def Dev.laneSignal (s : Dev) (l : Nat) : Bool :=
  if s.fromLog then !s.pair.lanesDown.contains l else s.on (Od.laneLinkUp l) && s.nat (Od.lpiRxState l) ≤ 1

/-- Whether a reference has signal loss (R136). -/
def Dev.lossDue (s : Dev) (m : Nat) : Bool :=
  let r := s.rr m
  match s.lossLimit m with
  | some t => t ≤ s.since r.signalAt || (10 ≤ m && t ≤ s.since r.announceAt)
  | none => !s.laneSignal (s.nat (Od.synceLane m))

/-- SignalLoss of a reference as its signal stands. -/
def Dev.lossNow (s : Dev) (m : Nat) : Dev := if s.on (Od.refEnable m) then s.setLoss m (s.lossDue m) else s

/-- A sign of life of a reference at tick k: its edge, solution or Sync. -/
def Dev.signalSeen (s : Dev) (m k : Nat) : Dev := (s.modRr m fun r => { r with signalAt := max r.signalAt k }).lossNow m

/-- A change of a lane as the SyncE references see it (R136). -/
def Dev.synceSignal (s : Dev) : Dev := (s.lossNow 14).lossNow 15

/-! ### Measurements -/

/-- What the INCs of a scale add up to from tick lo to tick hi, in 2^-72 ns: settings of its value left out. Before the
changes kept, the oldest INC kept stands. -/
def incSum : List Mark → Nat → Nat → Nat
  | [], _, _ => 0
  | [m], lo, hi => m.inc * (hi - lo)
  | m :: n :: ms, lo, hi =>
    if m.tick ≤ lo then m.inc * (hi - lo) else m.inc * (hi - m.tick) + incSum (n :: ms) lo m.tick

/-- INC in force at a tick, the oldest kept where the tick is older. -/
def incThen (ms : List Mark) (k : Nat) : Nat :=
  match ms.find? (fun m => m.tick ≤ k) with
  | some m => m.inc
  | none => (ms.getLast?.map (·.inc)).getD 0

/-- Integral over the age of (y - s_meas), in 2^-32 ns: what scale n has gained since tick k over the INC in force at k
(R109). -/
def Dev.gained (s : Dev) (n k : Nat) : Int :=
  let ms := (s.scale n).marks
  ((incSum ms k s.tick : Int) - incThen ms k * (s.tick - k : Nat)) / 2 ^ 40

/-- x of R109 for scale n and reference m, advanced to now; none where nothing has been measured. -/
def Dev.offsetNow (s : Dev) (n m : Nat) : Option Int :=
  match (s.rr m).meas.head? with
  | none => none
  | some e =>
    if n = 0 then some (e.x - s.gained 0 e.tick)
    else
      -- the reference as it would stand now at the INC of its measurement, less the scale as it stands: no setting of the scale
      -- since then is left in it
      some (e.ref + (incThen (s.scale n).marks e.tick * s.since e.tick / 2 ^ 40 : Nat) - s.tsNow n)

/-- The longest window of R148, in ticks. -/
def Dev.windowOf (s : Dev) (m : Nat) : Nat := max 16 (s.nat (Od.wanderWindow m)) * ticksPerSec

/-- A measurement of reference m: its own time `ref` (2^-32 ns) at CNT tick k (R135). -/
def Dev.measure (s : Dev) (m k : Nat) (ref : Int) : Dev :=
  if s.nat (Od.refState m) = 0 ∨ !s.running 0 then s
  else
    let (c, s) := s.conv 0 k 0
    let s := s.signalSeen m k
    -- an instant older than the history of TS_0 gives no offset (R132)
    if !c.2 then s
    else
      let x := ref - c.1
      let w := s.windowOf m
      let s := s.modRr m fun r =>
        { r with
          meas := ⟨k, x, ref⟩ :: r.meas.filter fun e => k ≤ e.tick + w
          firstAt := some (r.firstAt.getD k) }
      s.put (Od.phaseOffset m) (toI64 (to16 x))

/-- Nominal frequency of a frequency reference's edges in Hz: RefinFreq, and 1 MHz of the recovered clock of a lane (R231). -/
def Dev.refPeriodFreq (s : Dev) (m : Nat) : Int := if m < 8 then max 1 (s.num (Od.refinFreq m)) else 1000000

/-- Periods of reference m from its last edge to an edge at tick k and Fine f, by what TS_0 has advanced meanwhile, its settings
left out (R111). -/
def Dev.periodsTo (s : Dev) (m k0 f0 k f : Nat) : Int :=
  let ms := (s.scale 0).marks
  let gone : Int := (incSum ms k0 k : Int) + f * incThen ms k / 65536 - f0 * incThen ms k0 / 65536
  rdiv (gone * s.refPeriodFreq m) (second * 2 ^ 40)

/-- Offset of an edge of a frequency reference at tick k and Fine f against TS_0, unwrapped across the edges' periods, delay
subtracted (R111, R135), with the edge as it is counted; the first edge is that of the whole period next after it. -/
def Dev.edgeOffset (s : Dev) (m k f : Nat) (delay : Int) : Int × (Nat × Nat × Int) :=
  let at' := (s.convert 0 k f).1 + delay
  let fr := s.refPeriodFreq m
  let j : Int := match (s.rr m).edge with
    | some (k0, f0, j) => j + s.periodsTo m k0 f0 k f
    | none => -((-(at' * fr)) / second)
  (rdiv (j * second) fr - at', (k, f, j))

/-- An edge of a frequency reference at tick k and Fine f is measured (R111). -/
def Dev.measureEdge (s : Dev) (m k f : Nat) (delay : Int) : Dev :=
  if (s.convert 0 k f).2 then
    let (x, e) := s.edgeOffset m k f delay
    (s.modRr m fun r => { r with edge := some e }).measure m k ((s.convert 0 k 0).1 + x)
  else s.tooOld 0 k

/-! ### Quality levels (R138 to R142) -/

/-- QlEffective of a reference (R139). -/
def Dev.qlNow (s : Dev) (m : Nat) : Nat :=
  let q := s.nat (Od.qlReceived m)
  if s.nat (Od.qlMode m) = 1 ∧ q ≠ 15 then s.nat (Od.qlFixed m) else q

/-- QlEffective brought up to date, a change noted. -/
def Dev.takeQl (s : Dev) (m : Nat) : Dev :=
  let s := if m < 8 ∧ !s.on (Od.todEnable m) then s.put (Od.qlReceived m) 8 else s
  let q := s.qlNow m
  if q = s.nat (Od.qlEffective m) then s
  else (s.put (Od.qlEffective m) q).flag (Od.refSticky m) Bit.refSticky_QlChanged

/-- QlReceived of a reference from its own declaration. -/
def Dev.receiveQl (s : Dev) (m q : Nat) : Dev := (s.put (Od.qlReceived m) q).takeQl m

/-- EQL of SSM and enhanced SSM codes (Table 4-3); 0xFF where none was sent. -/
def esmcQl (ssm essm : Nat) : Nat :=
  match ssm with
  | 2 => if essm = 0x21 ∨ essm = 0x23 then 1 else if essm = 0x20 ∨ essm = 0xFF then 2 else 8
  | 4 => 4
  | 8 => 5
  | 11 => 6
  | 15 => 15
  | _ => 8

/-- EQL of a master's clockClass (Table 4-4). -/
def classQl (c : Nat) : Nat :=
  if c = 6 ∨ c = 13 then 2
  else if [7, 14, 135, 140].contains c then 3
  else if c = 150 ∨ c = 160 then 4
  else if c = 165 then 5
  else if [52, 58, 187, 193, 248].contains c then 7
  else if c = 255 then 15
  else 8

/-- EQL of an Announce (R141). -/
def announceQl (cls accuracy limit : Nat) : Nat :=
  if limit < accuracy ∧ accuracy ≠ 0xFE ∧ accuracy ≠ 0xFF then 7 else classQl cls

/-- EQL of the Ql byte of a ToD message (R144). -/
def todQl (q : Nat) : Nat := if (1 ≤ q ∧ q ≤ 8) ∨ q = 15 then q else 8

/-! ### Conditions (R136, R137, R149, R150) -/

/-- The half and the full conditions among the bits of RefLive. -/
def halfBits : List Nat := [Bit.refLive_FreqHalf, Bit.refLive_PhaseHalf, Bit.refLive_WanderHalf,
  Bit.refLive_TodInconsistent, Bit.refLive_ExternalCause]
def fullBits : List Nat := [Bit.refLive_FreqFull, Bit.refLive_PhaseFull, Bit.refLive_WanderFull]

def Dev.anyLive (s : Dev) (m : Nat) (bits : List Nat) : Bool := bits.any fun b => s.bit (Od.refLive m) b

/-- A half condition set or cleared; its rise is remembered until a row takes it. -/
def Dev.halfCause (s : Dev) (m b : Nat) (v : Bool) : Dev :=
  let s := if v && !s.bit (Od.refLive m) b then s.modRr m fun r => { r with rose := true } else s
  s.putBit (Od.refLive m) b v

/-! ### Monitors (R148, R149) -/

/-- Sums of a least-squares line through points (t, x): slope as numerator and denominator. -/
def slopeOf (ps : List (Int × Int)) : Int × Int :=
  let n : Int := ps.length
  let st := sumI (ps.map (·.1))
  let sx := sumI (ps.map (·.2))
  let stt := sumI (ps.map fun p => p.1 * p.1)
  let stx := sumI (ps.map fun p => p.1 * p.2)
  (n * stx - st * sx, n * stt - st * st)

/-- max - min of x - line, for a slope num / den. -/
def spreadOf (ps : List (Int × Int)) (num den : Int) : Int :=
  let rs := ps.map fun p => p.2 * den - num * p.1
  match rs with
  | [] => 0
  | r :: rest => rdiv (rest.foldl max r - rest.foldl min r) den

/-- The measurements of a reference over the last w ticks, as (tick, x) relative to now. -/
def Dev.points (s : Dev) (m w : Nat) : List (Int × Int) :=
  ((s.rr m).meas.filter fun e => s.tick < e.tick + w).map fun e => ((e.tick : Int) - s.tick, e.x)

/-- Whether the measurements that FreqOffset is taken from reach from tick k on to now without an outage (R158, R159). -/
def Dev.freqCovers (s : Dev) (m k : Nat) : Bool :=
  match (s.rr m).firstAt with
  | some f => f ≤ k && 2 ≤ (s.points m (16 * ticksPerSec)).length && !s.bit (Od.refLive m) Bit.refLive_SignalLoss
  | none => false

/-- FreqOffset of R148, in 0.001 ppt. -/
def Dev.freqOffsetOf (s : Dev) (m : Nat) : Int :=
  let (num, den) := slopeOf (s.points m (16 * ticksPerSec))
  let n : Int := s.sel.diffs.length
  -- slope in 2^-32 ns to the tick of 1.6 ns
  let slope := if den = 0 then 0 else rdiv (num * 10000000000000000) (den * 16 * fine)
  slope + rdiv (sumI s.sel.diffs) (max 1 n)

/-- One quantity against its tolerance (R149): half bit, full bit, tolerance, magnitude; none where it is not known. -/
def Dev.condition (s : Dev) (m j tol : Nat) (mag : Option Nat) : Dev :=
  match mag with
  | none => s
  | some g =>
    let half := Bit.refLive_FreqHalf + 2 * j
    let full := Bit.refLive_FreqFull + 2 * j
    let s := if tol ≤ 2 * g then s.halfCause m half true else s
    let s := if tol ≤ g then s.flag (Od.refLive m) full else s
    if 10 * g < 4 * tol then
      let s := s.unflag (Od.refLive m) full
      let since := (Tab.get (fun _ => none) (s.rr m).below j).getD s.tick
      let s := s.modRr m fun r => { r with below := Tab.set (fun _ => none) r.below j (some since) }
      if s.nat Od.suspectClearTime * ticksPerSec ≤ s.since since then s.halfCause m half false else s
    else s.modRr m fun r => { r with below := Tab.set (fun _ => none) r.below j none }

/-- Whether a reference is the one SELECTED. -/
def Dev.isSelected (s : Dev) (m : Nat) : Bool := s.nat (Od.refState m) == 3

/-- The quantities of R148 and the conditions that follow from them. A line needs two measurements in the last 16 s: without
them FreqOffset is not computed and stays (log entry 80). -/
def Dev.monitor (s : Dev) (m : Nat) : Dev :=
  let covers := 2 ≤ (s.points m (16 * ticksPerSec)).length
  let s := if covers then s.put (Od.freqOffset m) (toI64 (s.freqOffsetOf m)) else s
  let x := (s.rr m).meas.head?.map (·.x)
  let dev := match x with
    | some x => if s.isTimeRef m then x - (if s.isSelected m then s.sel.stitch else 0) else 0
    | none => 0
  let s := s.put (Od.phaseDeviation m) (toI64 (to16 dev))
  let ps := s.points m (s.nat (Od.wanderWindow m) * ticksPerSec)
  let (num, den) := slopeOf ps
  let wander := if den ≤ 0 then 0 else spreadOf ps num den
  let s := s.put (Od.wander m) (to16 wander)
  let s := s.condition m 0 (s.nat (Od.freqTolerance m))
    (if covers then some (s.num (Od.freqOffset m)).natAbs else none)
  -- with TS_0 not yet aligned a time reference qualifies whatever its offset (Table 17-8)
  let s := if s.isTimeRef m && (s.scale 0).aligned && x.isSome then
      s.condition m 1 (s.nat (Od.phaseTolerance m) * 65536) (some dev.natAbs) else s
  s.condition m 2 (s.nat (Od.wanderTolerance m) * 65536) (if ps.isEmpty then none else some wander.natAbs)

/-! ### Rows of Table 4-6 -/

/-- AlignState HELD for the groups whose source has gone (R172). -/
def Dev.holdGroups (s : Dev) (m : Nat) : Dev :=
  s.each ((List.range 8).filter fun g => s.on (Od.alignEnable g) && s.nat (Od.alignSource g) == m)
    fun s g => s.put (Od.alignState g) 3

/-- A reference enters a state: RefState, StateSince and the sticky bits of the row. -/
def Dev.moveRef (s : Dev) (m dst : Nat) (bits : List Nat) : Dev :=
  let was := s.nat (Od.refState m)
  let s := ((s.put (Od.refState m) dst).put (Od.stateSince m) s.now0).each bits fun s b => s.flag (Od.refSticky m) b
  let s := s.modRr m fun r => { r with rowAt := some s.tick, verdict := false }
  let s := s.putBit (Od.refLive m) Bit.refLive_Suspect (dst == 4)
  let s := if (was = 0 ∨ was = 6) ∧ dst ≠ was then
      s.modRr m fun r => { r with label := none, unlabelled := 0, consistent := 0 } else s
  let s := if dst = 0 then
      (s.modRr m fun r => { r with
        meas := [], firstAt := none, lossAt := none, rose := false, below := [], edge := none }).put
        (Od.refLive m) 0
    else s
  let s := if dst = 6 then s.unflag (Od.refLive m) Bit.refLive_HoldOffRunning else s
  if dst = 0 ∨ dst = 6 then s.holdGroups m else s

/-- The QualifyTime timer loaded with t seconds. -/
def Dev.loadTimer (s : Dev) (m t : Nat) : Dev :=
  let run := s.cinchOn
  s.modRr m fun r => { r with
    loaded := t * ticksPerSec, timer := t * ticksPerSec, timerFrom := if run then some s.tick else none, elapsed := false }

/-- Rows 2, 13 and 15: MONITOR, no declaration yet (R240). -/
def Dev.toMonitor (s : Dev) (m t : Nat) (bits : List Nat) : Dev :=
  let s := (s.moveRef m 1 bits).loadTimer m t
  (s.modRr m fun r => { r with declared := none }).put (Od.refDeclaredSource m) 0

/-- The time loaded by rows 13 and 15. -/
def Dev.restoreTime (s : Dev) (m : Nat) : Nat := max (s.nat (Od.qualifyTime m)) (s.nat Od.waitToRestore)

/-- Row 1. -/
def Dev.disableRef (s : Dev) (m : Nat) : Dev := s.moveRef m 0 []

/-- Row 2: monitoring begins now, its signal counted from here. -/
def Dev.enableRef (s : Dev) (m : Nat) : Dev :=
  let s := s.modRr m fun r => { r with signalAt := s.tick, announceAt := s.tick }
  s.toMonitor m (s.nat (Od.qualifyTime m)) [Bit.refSticky_MonitorEntered]

/-- Row 14. -/
def Dev.loseRef (s : Dev) (m : Nat) : Dev :=
  ((s.moveRef m 6 [Bit.refSticky_Lost]).bump (Od.lossCount m)).report (16 + m) 0

/-- Row 12, for full conditions or an arbiter's verdict. -/
def Dev.disqualify (s : Dev) (m : Nat) (arbiter : Bool) : Dev :=
  let live (b : Nat) : Bool := s.bit (Od.refLive m) b
  let bits := if arbiter then [Bit.refSticky_ArbiterDisqualified] else
    ((if live Bit.refLive_FreqFull then [Bit.refSticky_FreqLimit] else []) ++
     (if live Bit.refLive_PhaseFull then [Bit.refSticky_PhaseLimit] else []) ++
     (if live Bit.refLive_WanderFull then [Bit.refSticky_WanderLimit] else []))
  (s.moveRef m 5 (Bit.refSticky_Disqualified :: bits)).report (16 + m) 1

/-- Row 4: the timer restarts at its loaded value. -/
def Dev.restartTimer (s : Dev) (m : Nat) : Dev :=
  let run := s.cinchOn
  s.modRr m fun r => { r with
    timer := r.loaded, timerFrom := if run then some s.tick else none, elapsed := false, rose := false,
    rowAt := some s.tick }

/-- Whether the timer has elapsed. -/
def Dev.timerDone (s : Dev) (m : Nat) : Bool :=
  let r := s.rr m
  r.elapsed || (r.timerFrom.isSome && s.timerLeft r == 0)

/-- Row 3. -/
def Dev.qualify (s : Dev) (m : Nat) : Dev := s.moveRef m 2 [Bit.refSticky_Qualified]

/-- Whether row 3 may be taken (R560). -/
def Dev.mayQualify (s : Dev) (m : Nat) : Bool :=
  s.nat (Od.refState m) == 1 && s.timerDone m && !s.anyLive m (halfBits ++ fullBits) &&
    !s.bit (Od.refLive m) Bit.refLive_SignalLoss

/-- Whether a reference has taken a row at this tick (R152). -/
def Dev.rowTaken (s : Dev) (m : Nat) : Bool := (s.rr m).rowAt == some s.tick

/-- Row 12 by an arbiter's verdict, where the reference is in a state it starts from. -/
def Dev.arbiterOut (s : Dev) (m : Nat) : Dev :=
  let was := s.nat (Od.refState m)
  let s := s.disqualify m true
  if was = 3 then { s with sel := { s.sel with arbOut := some m } } else s

/-- An arbiter's verdict against a reference (R160): row 12, at the next update where the reference has taken a row at this one
(R152). -/
def Dev.verdictOn (s : Dev) (m : Nat) : Dev :=
  if !([1, 2, 3, 4].contains (s.nat (Od.refState m))) then s
  else if s.rowTaken m then s.modRr m fun r => { r with verdict := true }
  else s.arbiterOut m

/-- The first row of Table 4-6 that applies, in the order of R152; rows 1, 2 and 5 to 7 come elsewhere. A reference that a verdict
alone has disqualified has no full condition to clear, so that it takes row 13 at the next update (log entry 80). -/
def Dev.refRows (s : Dev) (m : Nat) : Dev :=
  let st := s.nat (Od.refState m)
  let loss := s.bit (Od.refLive m) Bit.refLive_SignalLoss
  let held := match (s.rr m).lossAt with
    | some k => s.nat Od.holdOff * ticksPerMs ≤ s.since k
    | none => false
  let half := s.anyLive m halfBits
  let full := s.anyLive m fullBits
  let susp := s.bit (Od.refLive m) Bit.refLive_Suspect
  let calm (s : Dev) : Dev := s.modRr m fun r => { r with rose := false }
  if st = 0 ∨ s.rowTaken m then s
  else if loss && held && st ≠ 6 then calm (s.loseRef m)
  else if full && [1, 2, 3, 4].contains st then calm (s.disqualify m false)
  else if (s.rr m).verdict && [1, 2, 3, 4].contains st then calm (s.arbiterOut m)
  else if half && st = 2 then calm (s.moveRef m 4 [Bit.refSticky_Suspect])
  else if half && st = 3 && !susp then
    calm ((s.moveRef m 3 [Bit.refSticky_Suspect]).flag (Od.refLive m) Bit.refLive_Suspect)
  else if !half && st = 4 then calm (s.moveRef m 2 [Bit.refSticky_SuspectCleared])
  else if !half && st = 3 && susp then calm (s.moveRef m 3 [Bit.refSticky_SuspectCleared])
  else if st = 5 && !full && !loss then s.toMonitor m (s.restoreTime m) [Bit.refSticky_MonitorEntered]
  else if st = 6 && !loss then
    s.toMonitor m (s.restoreTime m) [Bit.refSticky_SignalReturned, Bit.refSticky_MonitorEntered]
  else if st = 1 && (s.rr m).rose then s.restartTimer m
  else if s.mayQualify m then calm (s.qualify m)
  else calm s

/-! ### Eligibility and rank (R154, R155) -/

def Dev.eligible (s : Dev) (m : Nat) : Bool :=
  let st := s.nat (Od.refState m)
  let q := s.nat (Od.qlEffective m)
  (st == 2 || st == 3) && q != 15 && q ≤ s.nat Od.qlMinimum && s.nat (Od.priority m) != 15

/-- The rank as one number: QlEffective, Priority, n. -/
def Dev.rank (s : Dev) (m : Nat) : Nat := s.nat (Od.qlEffective m) * 65536 + s.nat (Od.priority m) * 256 + m

/-- The lowest-ranked reference of a list. -/
def Dev.lowest (s : Dev) : List Nat → Option Nat
  | [] => none
  | m :: ms => match s.lowest ms with
    | some k => some (if s.rank k < s.rank m then k else m)
    | none => some m

/-- The bits of RefLive that show eligibility (R154). -/
def Dev.showEligible (s : Dev) (m : Nat) : Dev :=
  let q := s.nat (Od.qlEffective m)
  ((s.putBit (Od.refLive m) Bit.refLive_Eligible (s.eligible m)).putBit (Od.refLive m) Bit.refLive_QlBelowMin
    (s.nat Od.qlMinimum < q)).putBit (Od.refLive m) Bit.refLive_QlDnu (q == 15)

/-! ### UTC offset and leap seconds (R125 to R128) -/

/-- A leap kept pending, and what came of it. -/
def Dev.clearLeap (s : Dev) : Dev := (s.put Od.leapPending 0).put Od.leapSource 0

/-- The change of offset of a LeapPending code. -/
def leapStep : Nat → Int
  | 1 => 1
  | 2 => -1
  | _ => 0

/-- LeapTime in 2^-32 ns suits a new offset: whole seconds at UTC midnight (R127). -/
def leapFits (time newOffset : Int) : Bool := time % second == 0 && (time / second - newOffset) % 86400 == 0

/-- UtcOffset takes a value that NTP uses from a TS_0 instant on (2^-32 ns): adopted, written or changed by a leap; the one before it
stays on record for the instants before (R90). -/
def Dev.utcTo (s : Dev) (from' : Int) (o : Int) : Dev :=
  let own := s.num Od.utcOffset
  let h := if o = own then s.svc.utcHist else (from', own) :: s.svc.utcHist
  { s.put Od.utcOffset o with svc := { s.svc with utcKnown := true, utcHist := h } }

/-- The TS_0 instant from which NTP uses the offset of a leap at LeapTime: second 23:59:59 repeats at an insertion (R129). -/
def leapSwitch (p : Nat) (time : Int) : Int := if p = 1 then time - second else time

/-- An offset offered by the selected reference (R125). -/
def Dev.offerUtc (s : Dev) (o : Int) : Dev :=
  let s := s.put Od.referenceUtcOffset o
  let own := s.num Od.utcOffset
  if s.md = Mode.acquire ∧ s.mode.wasLocked = false then
    (s.utcTo (s.tsNow 0) o).flag Od.utcSticky Bit.utcSticky_UtcOffsetAdopted
  else
    let p := s.nat Od.leapPending
    s.when (o != own && !(p != 0 && o == own + leapStep p)) (·.flag Od.utcSticky Bit.utcSticky_UtcOffsetConflict)

/-- A leap statement of the selected reference (R126, R127); src 2 GNSS, 3 PTP, 4 TOD. -/
def Dev.leapStatement (s : Dev) (src : Nat) (st : LeapSt) : Dev :=
  if s.nat Od.leapSourceMode = 1 then s
  else
    let own := s.num Od.utcOffset
    if st.leap = 0 then
      if st.offset = own ∧ s.nat Od.leapPending ≠ 0 then
        s.clearLeap.flag Od.utcSticky Bit.utcSticky_LeapCancelled
      else s
    else
      let new := st.offset + leapStep st.leap
      if st.time ≤ s.tsNow 0 ∨ new = own then s
      else if leapFits st.time new then
        (((s.put Od.leapPending st.leap).put Od.leapTime (tsNum st.time)).put Od.leapSource src).flag Od.utcSticky
          Bit.utcSticky_LeapAnnounced
      else s.flag Od.utcSticky Bit.utcSticky_LeapRefused

/-- What reference m states of UTC, taken where it is the selected one. -/
def Dev.utcStatement (s : Dev) (m src : Nat) (offset : Int) (st : Option LeapSt) : Dev :=
  let s := s.modRr m fun r => { r with utc := some offset }
  if s.selected = some m ∧ !s.aside then
    let s := s.offerUtc offset
    match st with
    | some l => s.leapStatement src l
    | none => s
  else s

/-- At LeapTime (R128). -/
def Dev.applyLeap (s : Dev) : Dev :=
  let p := s.nat Od.leapPending
  if p ≠ 0 ∧ tsTime (s.nat Od.leapTime) ≤ s.tsNow 0 ∧ s.running 0 then
    let time := tsTime (s.nat Od.leapTime)
    let known := s.svc.utcKnown
    let s := s.utcTo (leapSwitch p time) (s.num Od.utcOffset + leapStep p)
    let s := { s with svc := { s.svc with leapDone := p, leapAt := time, utcKnown := known } }
    ((s.clearLeap).bump Od.leapsApplied).flag Od.utcSticky Bit.utcSticky_LeapApplied
  else s

/-- The first instant after t (2^-32 ns) that is UTC midnight under an offset (R127). -/
def nextMidnight (t newOffset : Int) : Int :=
  let sec := t / second
  let u := sec - newOffset
  (sec - u % 86400 + 86400) * second

end Sys2Proof.Machine
end

