-- ==== Sys2Proof/Machine/Refin.lean ====
section
/-! DEFINITION. What reaches the references from pins and lanes: ToD messages and the edges they label (R143 to R146), ESMC
(R140), and the alignment of outputs to an input (R169 to R172). -/

namespace Sys2Proof.Machine

/-- The number in n octetsOf of a message from an offset on. -/
def octetsOf (bs : List Byte) (off n : Nat) : Nat := beNat ((bs.drop off).take n)

/-! ### ToD messages -/

/-- Whether a ToD message is valid (R143, R145). -/
def todValid (bs : List Byte) : Bool :=
  bs.length == 32 && octetsOf bs 0 4 == 0xC57A011A && crc16 ((bs.drop 2).take 28) == octetsOf bs 30 2 &&
    (octetsOf bs 28 1).testBit 0

/-- A valid message, its last stop bit at a tick (Table 4-5). -/
def todRead (bs : List Byte) (stop : Nat) : TodMsg :=
  { stop, seconds := octetsOf bs 4 8, utc := untwos 16 (octetsOf bs 12 2), leap := octetsOf bs 14 1, ql := octetsOf bs 15 1,
    leapTime := octetsOf bs 16 8, unc := octetsOf bs 24 4, traceable := (octetsOf bs 28 1).testBit 1 }

/-- A ToD message ends on TODIN_m (R143, R145). -/
def Dev.todMessage (s : Dev) (m : Nat) (bs : List Byte) : Dev :=
  if !s.isTimeRef m || s.nat (Od.refState m) == 0 then s
  else if !todValid bs then (s.bump (Od.todCrcErrors m)).flag (Od.refSticky m) Bit.refSticky_TodCrcError
  else
    let t := todRead bs s.tick
    let s := s.modRr m fun r => { r with tod := t :: r.tod }
    if s.bit (Od.refLive m) Bit.refLive_TodInvalid then
      (s.unflag (Od.refLive m) Bit.refLive_TodInvalid).receiveQl m (todQl t.ql)
    else s

/-- What a labelling message says beside its label: QL, declaration, UTC offset and leap (R144). -/
def Dev.todFields (s : Dev) (m : Nat) (t : TodMsg) : Dev :=
  let s := (s.receiveQl m (todQl t.ql)).put (Od.refDeclaredSource m) 1
  let d := if t.unc = sat32 then none else some (cdiv (t.unc * 65536) 1000)
  let s := s.modRr m fun r => { r with declared := d, declaredAt := t.stop, traceable := t.traceable }
  let st : Option LeapSt :=
    if t.leap ≤ 2 then some { leap := t.leap, offset := t.utc, time := t.leapTime * second } else none
  s.utcStatement m 4 t.utc st

/-- Consistency of a message with the label before it (R146). -/
def Dev.todConsistent (s : Dev) (m : Nat) (ok : Bool) : Dev :=
  if ok then
    let s := s.modRr m fun r => { r with consistent := r.consistent + 1 }
    if 3 ≤ (s.rr m).consistent then s.halfCause m Bit.refLive_TodInconsistent false else s
  else
    ((s.modRr m fun r => { r with consistent := 0 }).halfCause m Bit.refLive_TodInconsistent true).flag (Od.refSticky m)
      Bit.refSticky_TodInconsistent

/-- An edge without a valid message (R145). -/
def Dev.todMissing (s : Dev) (m : Nat) : Dev :=
  let s := (s.bump (Od.todMissed m)).modRr m fun r => { r with unlabelled := r.unlabelled + 1 }
  if (s.rr m).unlabelled = 3 then
    ((s.receiveQl m 8).flag (Od.refLive m) Bit.refLive_TodInvalid).flag (Od.refSticky m) Bit.refSticky_TodQlUnknown
  else s

/-- The label, in TAI seconds, of an edge at a tick (R144 to R146), none where labels have not begun. -/
def Dev.labelEdge (s : Dev) (m k : Nat) : Option Nat × Dev :=
  let due (t : TodMsg) : Bool := t.stop + 10 * ticksPerMs ≤ k
  let prev := (s.rr m).label
  let msg := (s.rr m).tod.find? due
  let s := s.modRr m fun r => { r with tod := r.tod.filter fun t => !due t }
  match msg with
  | none =>
    let s := s.todMissing m
    let l := prev.map (· + 1)
    (l, s.modRr m fun r => { r with label := l })
  | some t =>
    let s := (s.modRr m fun r => { r with unlabelled := 0 }).todConsistent m
      (prev.isNone || prev == some (t.seconds - 1) && 0 < t.seconds)
    let l := match prev with
      | some p => if s.bit (Od.refLive m) Bit.refLive_TodInconsistent then p + 1 else t.seconds
      | none => t.seconds
    (some l, (s.modRr m fun r => { r with label := some l }).todFields m t)

/-! ### Edges of REFIN -/

/-- An edge of REFIN_m delivered to the monitors: its offset has RefinDelay subtracted (R135, R210). -/
def Dev.refinMeasure (s : Dev) (m k f : Nat) : Dev :=
  let delay := fine16 (s.num (Od.refinDelay m))
  -- `measure` takes the offset against TS_0 at the whole tick
  let part := (s.convert 0 k f).1 - (s.convert 0 k 0).1
  if s.isTimeRef m then
    let (l, s) := s.labelEdge m k
    match l with
    | some sec => s.measure m k (sec * second - part - delay)
    | none => s.signalSeen m k
  else s.measureEdge m k f delay

/-! ### Alignment groups -/

/-- Period of a target, in 2^-32 ns: pin p, or synthesizer p - 32. -/
def Dev.targetPeriod (s : Dev) (p : Nat) : Int :=
  if p < 32 then fine16 (s.num (Od.tioPeriod p)) else rdiv (second * 1000000) (max 1 (s.num (Od.osynFreq (p - 32))))

/-- The scale of a target. -/
def Dev.targetScale (s : Dev) (p : Nat) : Nat :=
  if p < 32 then s.nat (Od.tioTimeScale p) else s.nat (Od.osynTimeScale (p - 32))

/-- AlignPhase of a target, and the state with another. -/
def Dev.targetAlign (s : Dev) (p : Nat) : Int := if p < 32 then (s.tio p).align else s.osynAlignPhase (p - 32)

def Dev.setTargetAlign (s : Dev) (p : Nat) (a : Int) : Dev :=
  if p < 32 then s.modTio p fun x => { x with align := a }
  else { s with tugs := { s.tugs with osynAlign := Tab.set (fun _ => 0) s.tugs.osynAlign (p - 32) a } }

/-- The targets of a group, for the values of a state: pins, then synthesizers as 32 + s. -/
def Dev.alignTargets (s : Dev) (g : Nat) : List Nat :=
  (pins.filter fun p => s.bit (Od.alignTio g) p) ++ ((List.range 4).filter fun i => s.bit (Od.alignOsyn g) i).map (· + 32)

/-- What SlopeLimit moves in some ticks, 2^-32 ns. -/
def Dev.slopeIn (s : Dev) (ticks : Nat) : Int := (s.nat Od.slopeLimit * ticks * 4294967296 / (1000 * ticksPerSec) : Nat)

/-- One target follows an edge of its group (R169, R170): what remains to be pulled is answered with the state. A pin
jumps at its first alignment; a synthesizer is pulled. -/
def Dev.alignTarget (s : Dev) (g p k f : Nat) (last : Option Nat) : Int × Dev :=
  let m := s.nat (Od.alignSource g)
  let per := s.targetPeriod p
  if per ≤ 0 then (0, s)
  else
    let own : Int := if p < 32 then s.num (Od.tioPhase p) else s.num (Od.osynPhase (p - 32))
    let (c, s) := s.conv (s.targetScale p) k f
    let want := (c.1 +
      fine16 (s.num (Od.alignOffset g) - s.num (Od.refinDelay m) - own)) % per
    let old := s.targetAlign p
    let d := (want - old + per / 2) % per - per / 2
    let free := p < 32 && last.isNone || 32 ≤ p && s.nat (Od.alignMode g) == 0
    let lim := match last with
      | some t => s.slopeIn (k - t)
      | none => if p < 32 then 0 else s.slopeIn 0
    let go := if free then d else clamp (-lim) lim d
    let s := s.setTargetAlign p ((old + go) % per)
    (d - go, if p < 32 then s else s.pullOsyn (p - 32) go)

/-- A group takes an edge of its source: ONCE the first after AlignEnable, TRACK every one. As the signal returns, TRACK resumes
from the edge that brings it, so that AlignPhase never makes up at once for the time it was held (R172). -/
def Dev.alignGroup (s : Dev) (k f g : Nat) : Dev :=
  let last := (Tab.get (fun _ => none) s.sel.aligned g).map fun t => if s.nat (Od.alignState g) = 3 then k else t
  if s.nat (Od.alignMode g) = 0 ∧ (last.isSome ∨ s.nat (Od.alignState g) = 3) then s
  else
    let (rest, s) := (s.alignTargets g).foldl
      (fun (q : Int × Dev) p => let r := q.2.alignTarget g p k f last; (if r.1 = 0 then q.1 else r.1, r.2)) (0, s)
    let s := { s with sel := { s.sel with aligned := Tab.set (fun _ => none) s.sel.aligned g (some k) } }
    let s := match (s.alignTargets g).head? with
      | some p => s.put (Od.alignPhase g) (toI64 (to16 (s.targetAlign p)))
      | none => s
    s.put (Od.alignState g) (if rest = 0 then 1 else 2)

/-- The groups that an edge of REFIN_m aligns. -/
def Dev.alignEdge (s : Dev) (m k f : Nat) : Dev :=
  s.each ((List.range 8).filter fun g => s.on (Od.alignEnable g) && s.nat (Od.alignSource g) == m) (·.alignGroup k f ·)

/-- An edge of REFIN_m reaches the SRV island (R210). In RESYNC before the log is executed it serves the monitors alone
(R153). -/
def Dev.refinEdge (s : Dev) (m k f : Nat) : Dev :=
  if s.nat (Od.refState m) = 0 ∨ !s.running 0 then s
  else
    let s := s.refinMeasure m k f
    if s.aside then s else s.alignEdge m k f

/-! ### Cross-checks of a standby (R462) -/

/-- A measurement of the engine's own differs by d (2^-32 ns) from the logged one of reference m: a report where it exceeds
three times the sum of the two bound terms. -/
def Dev.crossCheck (s : Dev) (m detail : Nat) (d : Int) : Dev :=
  if 3 * (s.measSysOf m + s.sigmaOf m) * 65536 < d.natAbs then
    (s.flag Od.pairSticky Bit.pairSticky_CrossCheck).report 201 detail
  else s

/-- The engine's own edge of REFIN_m: measured, or on a standby compared with the latest logged one. -/
def Dev.ownRefin (s : Dev) (m k f flags : Nat) : Dev :=
  if s.fromLog then
    match (s.rr m).meas.head? with
    | some e =>
      let delay := fine16 (s.num (Od.refinDelay m))
      if s.isTimeRef m then
        let own := -((s.convert 0 k f).1 + delay)
        s.crossCheck m 0 ((own - e.x + second / 2) % second - second / 2)
      else s.crossCheck m 0 ((s.edgeOffset m k f delay).1 - e.x)
    | none => s
  else (s.refinEdge m k f).logInput 2 [32 + m, k, f, flags]

/-- R171 for a group as a write leaves it. -/
def Wr.alignOk (w : Wr) (g : Nat) : Bool :=
  let m := w.nat (Od.alignSource g)
  let ts := w.new.alignTargets g
  let freq := w.nat (Od.refinFreq m)
  let multiple (p : Nat) : Bool :=
    if p < 32 then
      let per := w.nat (Od.tioPeriod p)
      per != 0 && (65536000000000 % (freq * per) == 0)
    else w.nat (Od.osynFreq (p - 32)) % (1000000 * freq) == 0
  let taken (p : Nat) : Bool :=
    (List.range 8).any fun h => h != g && w.on (Od.alignEnable h) && (w.new.alignTargets h).contains p
  decide (1 ≤ freq ∧ freq ≤ 1000) && ts.all multiple && !ts.any taken

/-- A write of AlignEnable. -/
def Dev.enableAlign (s : Dev) (g : Nat) (on : Bool) : Dev :=
  let s := s.putB (Od.alignEnable g) on
  let s := { s with sel := { s.sel with aligned := Tab.erase s.sel.aligned g } }
  let st := s.nat (Od.refState (s.nat (Od.alignSource g)))
  s.put (Od.alignState g) (if on && (st == 0 || st == 6) then 3 else 0)

/-! ### ESMC (R140) -/

/-- Whether a reference is the SyncE reference of a lane. -/
def Dev.synceRef (s : Dev) (m : Nat) : Bool := (m == 14 || m == 15) && s.on (Od.refEnable m)

/-- An ESMC PDU on the lane of REF_m; 0xFF where it carries no enhanced SSM. -/
def Dev.esmcPdu (s : Dev) (m ssm essm : Nat) : Dev :=
  if s.synceRef m then
    let s := s.modRr m fun r => { r with announceAt := s.tick }
    ((s.put (Od.ssmLast m) ssm).put (Od.essmLast m) essm).receiveQl m (esmcQl ssm essm)
  else s

/-- No ESMC PDU for 5 s: the QL is FAILED. -/
def Dev.esmcTimeout (s : Dev) (m : Nat) : Dev :=
  if s.synceRef m ∧ 5 * ticksPerSec ≤ s.since (s.rr m).announceAt then s.receiveQl m 15 else s

end Sys2Proof.Machine
end

