-- ==== Sys2Proof/Machine/Awl.lean ====
section
/-! DEFINITION. The Awl (chapter 6): stamps of edges, intervals, reciprocal frequency, event DMA, and the Burnish with its
rotation through the hot spare. Instants are in 2^-16 tick. -/

namespace Sys2Proof.Machine

/-! The flags of a record (R220). -/
namespace Bit
def awlFlags_Falling : Nat := 0
def awlFlags_BySpare : Nat := 1
def awlFlags_BelowResolution : Nat := 2
def awlFlags_OrderReversed : Nat := 3
def awlFlags_LossBefore : Nat := 4
def awlFlags_Unlocked : Nat := 5
def awlFlags_SkewReused : Nat := 6
def awlFlags_ConvInvalid : Nat := 7
def awlFlags_Echo : Nat := 8
def awlFlags_NoFrequency : Nat := 9
end Bit

/-- A capture device's registers. -/
def Dev.cap (s : Dev) (d : Nat) : Capture := Tab.get (fun _ => {}) s.awl.dev d

def Dev.modAwl (s : Dev) (f : Awl → Awl) : Dev := { s with awl := f s.awl }

def Dev.modCap (s : Dev) (d : Nat) (f : Capture → Capture) : Dev :=
  s.modAwl fun a => { a with dev := Tab.set (fun _ => {}) a.dev d (f (s.cap d)) }

/-- Whether the channels, the spare, the DMA and the rotation run (R223, R229): calibrated, and not in KEEP. -/
def Dev.awlRuns (s : Dev) : Bool := 3 ≤ s.md && s.nat Od.powerState != 3

/-- The channel of an enabled reference (R201, R223). -/
def Dev.refChannel (s : Dev) (n : Nat) : Bool := 32 ≤ n && n < 40 && s.on (Od.refEnable (n - 32))

/-- Whether a channel is enabled in the sense of R223. -/
def Dev.awlUsed (s : Dev) (n : Nat) : Bool := s.on (Od.awlEnable n) || s.refChannel n

/-- The spare covers a channel. -/
def Dev.covered (s : Dev) (n : Nat) : Bool := s.nat Od.spareState == 1 && s.nat Od.spareFor == n

/-- AwlState of a channel as its enables leave it. -/
def Dev.awlShow (s : Dev) (n : Nat) : Dev :=
  let st := s.nat (Od.awlState n)
  if st = 3 ∨ s.covered n then s else s.put (Od.awlState n) (if s.awlRuns && s.awlUsed n then 1 else 0)

/-- Prescale as the engine sets it for the channel of an enabled reference (R203). -/
def Dev.refPrescale (s : Dev) (m : Nat) : Dev :=
  if m < 8 ∧ s.on (Od.refEnable m) then s.put (Od.prescale (32 + m)) (cdiv (s.nat (Od.refinFreq m)) 1000000 : Nat) else s

/-- The gates of R214 begin anew with the channel's next edge. -/
def Dev.gateStart (s : Dev) (n : Nat) : Dev := s.modCap n fun c => { c with gate := none, gateNext := none, noFreq := false }

/-- A channel starts afresh as it comes to be enabled: its next selected edge is the first (R203). -/
def Dev.awlStart (s : Dev) (n : Nat) : Dev := ((s.gateStart n).modCap n fun c => { c with seen := 0 }).awlShow n

/-! ### The fine time (R204, R205) -/

/-- Tick and Fine (R206) from tick k, the TCLK cycle and the bin, by a table of hits: pos[b] is half the width of the bin beyond
the widths below it. Without a table the bins are taken as alike. -/
def fineOf (table : List Nat) (k tclk bin : Nat) : Nat :=
  let h := if table.isEmpty then List.replicate 256 1 else table
  let total := max 1 (sumN h)
  let below := sumN (h.take bin)
  k * 65536 + tclk * 16384 + (rdiv (8192 * (2 * below + h.getD bin 0) : Nat) total).toNat

/-! ### Records (R209, R217, R218, R220) -/

/-- Value of 64 bits in a record: bytes 24 … 31 zero. -/
def recI64 (x : Int) : Nat := twos 64 x

/-- The bits of LossBefore, among the flags of Table 6-3. -/
def withFlag (flags i : Nat) (b : Bool) : Nat := if b then setBit flags i else flags

/-- A record of channel n: the objects take its flags, and the DMA queue a copy of it. -/
def Dev.awlRecord (s : Dev) (n kind at' flags value : Nat) : Dev :=
  let c := s.cap n
  let s := s.put (Od.lastFlags n) (withFlag flags Bit.awlFlags_LossBefore c.lossObj : Nat)
  let s := s.modCap n fun c => { c with lossObj := false, seq := (c.seq + 1) % 65536 }
  if s.on (Od.dmaEnable n) ∧ s.on Od.dmaRun then
    if c.queue.length < 64 then
      let r : AwlRec := { tick := s.cntOf (at' / 65536), fine := at' % 65536, chan := n, kind,
                          flags := withFlag flags Bit.awlFlags_LossBefore c.lossDma, seq := c.seq, value }
      s.modCap n fun c => { c with queue := c.queue ++ [r], lossDma := false }
    else
      ((s.bump (Od.dmaDropped n)).flag (Od.awlSticky n) Bit.awlSticky_DmaDropped).modCap n fun c => { c with lossDma := true }
  else s

/-- The octets of a record (Table 6-3), little-endian; the three fields of a TS128 (R87) each in place (DESIGN CHOICE, log
entry 84). -/
def AwlRec.bytes (r : AwlRec) : List Byte :=
  leBytes 8 r.tick ++ leBytes 2 r.fine ++ leBytes 1 r.chan ++ leBytes 1 r.kind ++ leBytes 2 r.flags ++ leBytes 2 r.seq ++
    (if r.kind = 0 then leTs128 r.value else leBytes 8 r.value ++ leBytes 8 0)

/-- The loss of an edge reaches the consumers of channel n with the first stamp after it: their next record carries LossBefore
(R217). -/
def Dev.lossShown (s : Dev) (n : Nat) : Dev := s.modCap n fun c => { c with lossObj := true, lossDma := true }

/-! ### Intervals (R211 to R213) -/

def Dev.countUnpaired (s : Dev) (n : Nat) : Dev := s.bump (Od.unpaired n)

/-- A pair of start and stop: the interval, its flags and its record. -/
def Dev.interval (s : Dev) (n : Nat) (a z : AwlEv) : Dev :=
  let d : Int := (z.at' : Int) - a.at'
  let i := rdiv (d * (16 * s.inc (s.nat (Od.awlTimeScale n)) : Nat)) (10 * incNom : Nat) - z.delay + a.delay
  let low := d.natAbs < 64
  let s := (s.when low (·.flag (Od.awlSticky n) Bit.awlSticky_BelowResolution)).when (i < 0)
    (·.flag (Od.awlSticky n) Bit.awlSticky_OrderReversed)
  let s := s.put (Od.lastResult n) (toI64 i)
  s.awlRecord n 1 z.at' (withFlag (withFlag z.flags Bit.awlFlags_BelowResolution low) Bit.awlFlags_OrderReversed (i < 0))
    (recI64 i)

/-- One event released to the unit of channel n (R212). With IntervalStart naming the channel itself, an edge is the stop
of the one held before it, or else a start. -/
def Dev.intervalEvent (s : Dev) (n : Nat) (e : AwlEv) : Dev :=
  let win := s.nat (Od.intervalWindow n) * 655360
  let near (o : AwlEv) : Bool := ((e.at' : Int) - o.at').natAbs * 16 ≤ win
  let self := s.nat (Od.intervalStart n) == n
  let hold (x : Option AwlEv) (s : Dev) : Dev := s.modCap n fun c => { c with held := x }
  match (s.cap n).held with
  | some o =>
    if (self || o.start != e.start) && near o then
      let (a, z) := if o.start || self then (o, e) else (e, o)
      (hold none s).interval n a z
    else hold (some e) (s.countUnpaired n)
  | none => hold (some (if self then { e with start := true } else e)) s

/-- The events of channel n whose release has come: 256 ticks after their time, starts first at equal time (R211); all of
them where the setting they belong to ends (R213). -/
def Dev.releaseEvents (s : Dev) (n : Nat) (all : Bool) : Dev :=
  let now := s.cnt * 65536
  let due (e : AwlEv) : Bool := all || e.at' + 256 * 65536 ≤ now
  let go := (s.cap n).inbox.filter due
  let s := s.modCap n fun c => { c with inbox := c.inbox.filter fun e => !due e }
  s.each go fun s e => (s.when e.lost (·.lossShown n)).intervalEvent n e

/-- A change of mode, edge, start channel or window: events carried before it are processed, and the held one goes. -/
def Dev.settingChange (s : Dev) (n : Nat) : Dev :=
  let s := s.releaseEvents n true
  if (s.cap n).held.isSome then (s.countUnpaired n).modCap n fun c => { c with held := none } else s

/-- An event put into an inbox in order of carried time, a start before a stop at equal time. -/
def AwlEv.insert (e : AwlEv) : List AwlEv → List AwlEv
  | [] => [e]
  | x :: t => if e.at' < x.at' || (e.at' == x.at' && e.start && !x.start) then e :: x :: t else x :: AwlEv.insert e t

/-- A stamped edge offered to the interval units: as a stop to its own, as a start to those that name its channel. -/
def Dev.intervalEdges (s : Dev) (n at' flags : Nat) (lost : Bool) : Dev :=
  let ev (start : Bool) : AwlEv := { at', start, delay := s.num (Od.awlDelay n), flags, lost := lost && !start }
  let unit (k : Nat) : Bool := s.on (Od.awlEnable k) && s.nat (Od.awlMode k) == 1
  let send (k : Nat) (start : Bool) (s : Dev) : Dev :=
    s.modCap k fun c => { c with inbox := AwlEv.insert (ev start) c.inbox }
  let starts := (List.range 40).filter fun k => k != n && unit k && s.nat (Od.intervalStart k) == n
  let s := if unit n then send n false s else s
  s.each starts fun s k => send k true s

/-! ### Reciprocal frequency (R214) -/

/-- Length of a gate in 2^-32 ns. -/
def Dev.gateLen (s : Dev) (n : Nat) : Int := s.num (Od.freqGate n) * (second / 1000)

/-- The result of a gate that is over, where it has two stamped edges. -/
def Dev.gateResult (s : Dev) (n : Nat) (g : AwlGate) : Dev :=
  let dt := g.t1 - g.t0
  if g.edges < 2 ∨ dt ≤ 0 then s.modCap n fun c => { c with gate := none, noFreq := true }
  else
    let nom := s.num (Od.nominalFreq n)
    let r := rdiv (((g.c1 - g.c0 : Nat) * second - nom * dt) * 1000000000000000) (nom * dt)
    let miss := (s.cap n).noFreq
    let s := (s.modCap n fun c => { c with gate := none, noFreq := false }).put (Od.lastResult n) (toI64 r)
    s.awlRecord n 2 g.at' (withFlag g.flags Bit.awlFlags_NoFrequency miss) (recI64 r)

/-- The gates before number `index` are over: that of the edges held has its result, or none, and those without an edge have
none, which the next result shows. -/
def Dev.closeGate (s : Dev) (n : Nat) (index : Int) : Dev :=
  let c := s.cap n
  let next := c.gateNext.getD (index - 1)
  if index ≤ next then s
  else
    -- gates from `next` on, but for that of the edges held
    let (s, from') := match c.gate with
      | some g => if g.index < index then (s.gateResult n g, g.index + 1) else (s, index)
      | none => (s, next)
    s.modCap n fun c => { c with gateNext := some index, noFreq := c.noFreq || decide (from' < index) }

/-- A stamped edge counted in its gate; t is its time on the scale, `lost` where an edge was lost before it. -/
def Dev.gateEdge (s : Dev) (n at' flags : Nat) (t : Int) (lost : Bool) : Dev :=
  let i := t / s.gateLen n
  let s := if (s.cap n).gateNext.isNone then s.modCap n fun c => { c with gateNext := some i } else s.closeGate n i
  let s := s.when lost (·.lossShown n)
  let c := (s.cap n).seen
  s.modCap n fun x => { x with gate := some (match x.gate with
    | some g => { g with t1 := t, c1 := c, at' := at', flags, edges := g.edges + 1 }
    | none => { index := i, t0 := t, t1 := t, c0 := c, c1 := c, at' := at', flags, edges := 1 }) }

/-- The end of a gate of FreqGate. -/
def Dev.gateEnd (s : Dev) (n : Nat) : Dev :=
  let ts := s.nat (Od.awlTimeScale n)
  if s.nat (Od.awlMode n) = 2 ∧ s.running ts then s.closeGate n (s.tsNow ts / s.gateLen n) else s

/-! ### Edges (R202, R203, R208 to R210, R215, R216) -/

/-- Whether an edge that way is selected: 0 RISING, 1 FALLING, 2 BOTH. -/
def Dev.edgeSelected (s : Dev) (n : Nat) (falling : Bool) : Bool :=
  match s.nat (Od.awlEdge n) with
  | 0 => !falling
  | 1 => falling
  | _ => true

/-- Whether the pin of a channel lets it stamp (R202). -/
def Dev.inputOpen (s : Dev) (n : Nat) : Bool :=
  32 ≤ n || s.nat (Od.tioFunction n) == 1 || (s.nat (Od.tioFunction n) == 2 && s.on (Od.awlEnable n))

/-- The device on duty for a channel, none where none stamps. -/
def Dev.onDuty (s : Dev) (n : Nat) : Option Nat :=
  if s.covered n then some 40 else if s.nat (Od.awlState n) = 1 then some n else none

/-- A loss ahead of every consumer. -/
def Dev.lossAll (s : Dev) (n : Nat) : Dev := s.modCap n fun c => { c with lossNext := true }

/-- A stamp of channel n by a device: converted to the products, and to the monitors of its reference. -/
def Dev.stamp (s : Dev) (n dev at' : Nat) (falling : Bool) : Dev :=
  let k := at' / 65536
  let f := at' % 65536
  let out := (s.cap dev).unlocked
  let flags := withFlag (withFlag (withFlag (withFlag (withFlag 0 Bit.awlFlags_Falling falling) Bit.awlFlags_BySpare
    (dev == 40)) Bit.awlFlags_SkewReused (dev == 40 && s.ebe.skewLive.contains n)) Bit.awlFlags_Unlocked out) Bit.awlFlags_Echo
    (n < 32 && s.nat (Od.tioFunction n) == 2)
  let lost := (s.cap n).lossNext
  let s := (s.bump (Od.events n)).when lost (·.modCap n fun c => { c with lossNext := false })
  -- CNT tick of the record; scales are kept against the model's own tick
  let shift := s.tick - s.cnt
  let s := if s.refChannel n ∧ !out then s.ownRefin (n - 32) (k + shift) f (withFlag flags Bit.awlFlags_LossBefore lost) else s
  let s := s.intervalEdges n at' flags lost
  if !s.on (Od.awlEnable n) then s.when lost (·.lossShown n)
  else
    let ts := s.nat (Od.awlTimeScale n)
    let (c, s) := s.conv ts (k + shift) f
    let valid := c.2
    let t := c.1 - fine16 (s.num (Od.awlDelay n))
    let flags := withFlag flags Bit.awlFlags_ConvInvalid (!valid)
    let s := if valid then s.put (Od.lastStamp n) (tsNum t) else s
    match s.nat (Od.awlMode n) with
    | 0 => ((s.put (Od.lastResult n) 0).when lost (·.lossShown n)).awlRecord n 0 at' flags (if valid then tsNum t else 0)
    | 1 => s
    | _ => if valid then s.gateEdge n at' flags t lost else s.when lost (·.lossShown n)

/-- An edge passed by the prescaler reaches the sampler, the front buffer and the FIFO. -/
def Dev.sample (s : Dev) (n dev at' : Nat) (falling : Bool) : Dev :=
  let c := s.cap n
  if c.lastAt.any (fun l => at' < l + 65536) then
    ((s.bump (Od.deadTimeLosses n)).flag (Od.awlSticky n) Bit.awlSticky_DeadTimeLoss).lossAll n
  else
    let s := s.modCap n fun c => { c with lastAt := some at' }
    -- 3.125 ticks an entry leave the front buffer, 12.5 ticks an entry the FIFO
    let front := max at' c.frontAt + 204800
    let fifo := max front c.fifoAt + 819200
    if at' + 4 * 204800 < front ∨ front + 256 * 819200 < fifo then
      ((s.bump (Od.overrunLosses n)).flag (Od.awlSticky n) Bit.awlSticky_OverrunLoss).lossAll n |>.report 95 1
    else (s.modCap n fun c => { c with frontAt := front, fifoAt := fifo }).stamp n dev at' falling

/-- An instant stamped by AWL_S, corrected by −SpareSkew. -/
def Dev.corrected (s : Dev) (raw : Nat) : Int := (raw : Int) - rdiv (s.num Od.spareSkew * 10) 16

/-- An edge that the device in parallel stamps too, in steps 1 and 5 of Table 6-4: `own` is the instant by the device on
duty. -/
def Dev.common (s : Dev) (n own : Nat) (other : Option (Int × Nat × Nat)) : Dev :=
  match s.awl.run, other with
  | some r, some (dk, tclk, bin) =>
    if r.item = n ∧ r.spare ∧ (r.stage = 1 ∨ r.stage = 5) then
      let dev := if r.stage = 1 then 40 else n
      let theirs := fineOf (s.cap dev).table ((s.cnt : Int) + dk).toNat (tclk % 4) (bin % 256)
      let base : Int := if r.stage = 1 then own else s.corrected own
      let r := { r with diffs := ((theirs - base) :: r.diffs).take 1024 }
      s.modAwl fun a => { a with run := some r }
    else s
  | _, _ => s

/-- An edge at the input of channel n, in a TCLK cycle of the present tick and a bin (R203 to R205). -/
def Dev.awlEdge (s : Dev) (n tclk bin : Nat) (falling : Bool) (other : Option (Int × Nat × Nat)) : Dev :=
  match s.onDuty n with
  | none => s
  | some dev =>
    if s.awlRuns ∧ s.inputOpen n ∧ s.edgeSelected n falling then
      let pass := (s.cap n).seen % max 1 (s.nat (Od.prescale n)) = 0
      let s := s.modCap n fun c => { c with seen := c.seen + 1 }
      if pass then
        let raw := fineOf (s.cap dev).table s.cnt (tclk % 4) (bin % 256)
        let at' := if dev = 40 then (s.corrected raw).toNat else raw
        (s.common n raw other).sample n dev at' falling
      else s
    else s

/-! ### Event DMA (R218, R219) -/

/-- The channel whose queue the DMA serves next. -/
def Dev.dmaNext (s : Dev) : Option Nat :=
  let order := ((List.range 40).map fun i => (s.awl.turn + 1 + i) % 40)
  order.find? fun n => !(s.cap n).queue.isEmpty

/-- One record taken: the octets to be written and where, none where the ring is full, and the state after it. -/
def Dev.dmaTake (s : Dev) : Option (Nat × List Byte) × Dev :=
  match s.dmaNext with
  | none => (none, s)
  | some n =>
    match (s.cap n).queue with
    | [] => (none, s)
    | r :: rest =>
      let s := (s.modAwl fun a => { a with turn := n }).modCap n fun c => { c with queue := rest }
      let size := s.nat Od.dmaSize / 32
      let w := s.nat Od.dmaWriteIndex
      let next := (w + 1) % max 1 size
      if next = s.nat Od.dmaReadIndex then
        let s := ((s.bump (Od.dmaDropped n)).bump Od.ringFull).flag (Od.awlSticky n) Bit.awlSticky_DmaDropped
        (none, s.modCap n fun c => { c with lossRing := true })
      else
        let r := { r with flags := withFlag r.flags Bit.awlFlags_LossBefore (s.cap n).lossRing }
        let s := ((s.put Od.dmaWriteIndex next).bump64 Od.dmaRecords 1).modCap n fun c => { c with lossRing := false }
        let a := s.nat Od.dmaBase + 32 * w
        (some (a, r.bytes), s.busAsk 12 (s.dramTarget a) 1)

/-- The DMA writes one record. -/
def State.dmaWrite (s : State) : State :=
  if s.dev.on Od.dmaRun && s.dev.awlRuns then
    match s.dev.dmaTake with
    | (some (a, bs), d) => { s with dev := d, mem := writeBytes s.mem a bs }
    | (none, d) => { s with dev := d }
  else s

/-! ### Tables (R221) -/

/-- Whether a histogram passes: 256 bins, none empty, none above four times the mean, BurnishSamples in all. -/
def histogramOk (h : List Nat) (samples : Nat) : Bool := h.length == 256 && h.all fun x => x != 0 && x * 256 ≤ 4 * samples

/-- BinSpread in fs. -/
def binSpreadOf (h : List Nat) (samples : Nat) : Nat :=
  maxN (h.map fun x => (rdiv ((800000 * x : Nat) - (3125 * samples : Nat) : Int).natAbs (2 * samples : Nat)).toNat)

/-- BinWidths: each width in fs, U16. -/
def binWidthsOf (h : List Nat) (samples : Nat) : Nat :=
  h.foldl (fun a x => a * 65536 + (rdiv (400000 * x : Nat) samples).toNat % 65536) 0

/-- The objects that show a device's table: LastBurnish, BinSpread, BinWidths, none where it has none. -/
def tableObjects (d : Nat) : Option Nat × Option Nat × Option Nat :=
  if d < 40 then (some (Od.lastBurnish d), some (Od.binSpread d), some (Od.binWidths d))
  else if d = 40 then (some Od.spareLastBurnish, some Od.spareBinSpread, some Od.spareBinWidths)
  else if 64 ≤ d ∧ d < 86 then (some (Od.lpdLastBurnish (d - 64)), some (Od.lpdBinSpread (d - 64)), none)
  else if d = 96 then (some Od.gcdLastBurnish0, none, none)
  else if d = 97 then (some Od.gcdLastBurnish1, none, none)
  else (none, none, none)

/-- A new table loaded into a device (R221), by a run of an operation ID. -/
def Dev.loadTable (s : Dev) (d : Nat) (h : List Nat) (opId : Nat) : Dev :=
  let n := sumN h
  let (a, b, c) := tableObjects d
  let set (o : Option Nat) (v : Int) (s : Dev) : Dev := match o with
    | some k => s.put k v
    | none => s
  let s := set c (binWidthsOf h n : Nat) (set b (binSpreadOf h n : Nat) (set a s.now0 s))
  let e := { s.ebe with burnishOps := Tab.set (fun _ => 0) s.ebe.burnishOps d opId }
  { s with ebe := e }.modCap d fun c => { c with table := h }

/-- Whether hits are those of one Burnish of the present BurnishSamples. -/
def Dev.isHistogram (s : Dev) (h : List Nat) : Bool := sumN h == s.nat Od.burnishSamples

/-! ### Faults of a device -/

/-- The sticky bit of an AWL channel; AWL_S has none. -/
def Dev.awlStick (s : Dev) (d b : Nat) : Dev := if d < 40 then s.flag (Od.awlSticky d) b else s

/-- A channel or AWL_S becomes OUT_OF_SERVICE, its source showing why: 0 DllUnlock, 1 BinFault, 2 HandoverFault. -/
def Dev.awlOut (s : Dev) (d detail : Nat) : Dev :=
  let s := if d < 40 then s.put (Od.awlState d) 3 else s.put Od.spareState 3
  let s := match detail with
    | 1 => s.awlStick d Bit.awlSticky_BinFault
    | 2 => s.awlStick d Bit.awlSticky_HandoverFault
    | _ => s.awlStick d Bit.awlSticky_DllUnlock
  s.live (32 + d) detail true

/-- A device is back in service. -/
def Dev.awlIn (s : Dev) (d : Nat) : Dev :=
  let s := if d < 40 then (if s.nat (Od.awlState d) = 3 then (s.put (Od.awlState d) 0).awlShow d else s)
    else if s.nat Od.spareState = 3 then s.put Od.spareState 0 else s
  s.live (32 + d) 0 false

/-! ### The rotation (R223 to R229) -/

/-- The 1/1024 s of TS_0 that now lies in. -/
def Dev.boundaryNow (s : Dev) : Nat := (s.tsNow 0 * 1024 / second).toNat

/-- Items out of service. -/
def Dev.itemOut (s : Dev) (i : Nat) : Bool := if i < 40 then s.nat (Od.awlState i) == 3 else s.nat Od.spareState == 3

/-- The item after another in the order AWL_S, AWL_0 … AWL_39. -/
def itemAfter (i : Nat) : Nat := if i = 40 then 0 else i + 1

/-- The first item from i on that is in service. -/
def Dev.itemFrom (s : Dev) : Nat → Nat → Nat
  | 0, i => i
  | n + 1, i => if s.itemOut i then s.itemFrom n (itemAfter i) else i

/-- BurnishNext shows the next item. -/
def Dev.showNext (s : Dev) : Dev := s.put Od.burnishNext (s.awl.queued.getD (s.itemFrom 41 s.awl.next))

/-- Whether an item's run goes through the spare. -/
def Dev.throughSpare (s : Dev) (i : Nat) : Bool := i < 40 && s.awlUsed i

/-- A run of item i begins, waiting to complete `stage`: where another goes on, it is that of R227. The run of an interrupted item
restarts its record (R228). -/
def Dev.beginRun (s : Dev) (i stage : Nat) (spare : Bool) : Dev :=
  let mine := s.awl.restartOf.any (·.1 == i)
  let (id, s) := s.jOpen 4 (if spare then 6 else 2) 0 0 i (if mine then (s.awl.restartOf.map (·.2)).getD 0 else 0)
  let r : BurnRun := { item := i, stage, opId := id, from' := s.tick, boundary := s.boundaryNow, spare }
  let s := s.modAwl fun a => { a with restartOf := if mine then none else a.restartOf }
  if s.awl.run.isSome then s.modAwl fun a => { a with second := some r }
  else (s.modAwl fun a => { a with run := some r }).put Od.burnishCurrent i

/-- A start by the rotation or by BurnishNow. -/
def Dev.burnishStart (s : Dev) : Dev :=
  if !s.awlRuns ∨ s.awl.run.isSome ∨ s.on Od.burnishBlocked ∨ !s.journalFree ∨ s.stays 2 then s
  else
    let step := s.nat Od.burnishStep
    let due := step != 0 && step * ticksPerSec ≤ s.since s.awl.lastStart
    let item : Option Nat := match s.awl.queued with
      | some i => some i
      | none => if due then some (s.itemFrom 41 s.awl.next) else none
    match item with
    | none => s
    | some i =>
      let spare := s.throughSpare i
      -- a run through the spare waits for an idle spare (R227)
      if (spare ∧ s.nat Od.spareState ≠ 0) ∨ (i = 40 ∧ s.nat Od.spareState = 1) then s
      else
        let s := s.modAwl fun a => { a with
          queued := none, next := if a.queued.isSome then a.next else itemAfter i, lastStart := s.tick }
        let s := if i = 40 then s.put Od.spareState 2 else s
        (s.beginRun i (if spare then 1 else 3) spare).showNext

/-- The run waits for its next stage from now on. -/
def Dev.runStage (s : Dev) (n : Nat) : Dev :=
  s.modAwl fun a => { a with
    run := a.run.map fun r => { r with stage := n, from' := s.tick, boundary := s.boundaryNow, diffs := [] } }

/-- A step of the run's record, by its code of Table 6-4. -/
def Dev.runStep (s : Dev) (r : BurnRun) (code : Nat) : Dev :=
  s.jMod r.opId fun j => { j with done := if r.spare then code else code - 2, lastStep := code }

/-- A run is over; one of R227 that has begun beside it goes on in its place. -/
def Dev.endRun (s : Dev) (r : BurnRun) (outcome : Nat) : Dev :=
  let s := (s.jEnd r.opId outcome).modAwl fun a => { a with run := a.second, second := none }
  let s := s.put Od.burnishCurrent (match s.awl.run with
    | some x => x.item
    | none => 0xFF)
  if outcome = 2 then (s.bump Od.burnishRuns).awlStick r.item Bit.awlSticky_BurnishDone
  else s.bump Od.burnishFailures

/-- A run fails (R226): through the spare, the spare stays on duty and the rotation pauses. -/
def Dev.failRun (s : Dev) (r : BurnRun) (detail : Nat) : Dev :=
  let s := (s.awlOut r.item detail).endRun r 3
  if r.spare then (s.putB Od.burnishBlocked true).modAwl fun a => { a with blockedBy := some r.item } else s

/-- The spare is free again. -/
def Dev.freeSpare (s : Dev) : Dev :=
  let n := s.nat Od.spareFor
  let s := if s.nat Od.spareState = 1 then s.put Od.spareState 0 else s
  let e := { s.ebe with skewLive := s.ebe.skewLive.filter (· != n) }
  { s.put Od.spareFor 0xFF with ebe := e }

/-- The channel k that holds a blocked spare lets it go (R226). -/
def Dev.unblock (s : Dev) (k : Nat) : Dev :=
  if s.awl.blockedBy = some k then
    ((s.freeSpare).putB Od.burnishBlocked false).modAwl fun a => { a with blockedBy := none }
  else s

/-- AWL_S takes input n with its reference skew (R225). -/
def Dev.reuseSkew (s : Dev) (n : Nat) : Dev :=
  ((s.put Od.spareSkew (s.cap n).skew).awlStick n Bit.awlSticky_SkewReused).modEbe fun e =>
    { e with skewLive := n :: e.skewLive.filter (· != n) }

/-- The skew is known, measured or the reference skew, and AWL_S waits for its boundary. -/
def Dev.skewKnown (s : Dev) (r : BurnRun) (skew : Int) (reused : Bool) : Dev :=
  (if reused then s.reuseSkew r.item else s.put Od.spareSkew skew).runStage 2

/-- f of the run in progress, while the rotation runs (R229). -/
def Dev.inRun (s : Dev) (f : BurnRun → Dev) : Dev :=
  match s.awl.run with
  | some r => if s.awlRuns then f r else s
  | none => s

/-- The overlap of a step is over: common edges have been stamped, for OverlapTime. -/
def Dev.overlapped (s : Dev) (r : BurnRun) : Bool :=
  !r.diffs.isEmpty && decide (s.nat Od.overlapTime * ticksPerMs ≤ s.since r.from')

/-- The mean of spare less channel over the common edges, in 2^-16 ns. -/
def BurnRun.skew (r : BurnRun) : Int := rdiv (sumI r.diffs * 16) (10 * (r.diffs.length : Int))

/-- SKEW_MEASURED. -/
def Dev.skewMeasured (s : Dev) : Dev :=
  s.inRun fun r => if r.stage = 1 ∧ s.overlapped r then (s.runStep r 1).skewKnown r r.skew false else s

/-- OVERLAP_MAX_EXPIRY: no common edge in step 1 or in step 5 (R225). -/
def Dev.overlapExpired (s : Dev) : Dev :=
  s.inRun fun r =>
    if r.diffs.isEmpty ∧ s.nat Od.overlapMax * ticksPerSec ≤ s.since r.from' then
      if r.stage = 1 then (s.runStep r 1).skewKnown r (s.cap r.item).skew true
      else if r.stage = 5 then ((s.awlStick r.item Bit.awlSticky_HandbackUnchecked).runStep r 5).runStage 6
      else s
    else s

/-- AWL_S takes the duty of a run's channel. -/
def Dev.takeDuty (s : Dev) (r : BurnRun) : Dev :=
  (((s.put Od.spareState 1).put Od.spareFor r.item).put (Od.awlState r.item) 2).runStep r 2

/-- SPARE_ON_DUTY: at the first 1/1024 s boundary after step 1 (R224, R227). -/
def Dev.spareOnDuty (s : Dev) : Dev :=
  s.inRun fun r =>
    if r.stage = 2 ∧ r.boundary < s.boundaryNow then (s.takeDuty r).runStage 3
    else match s.awl.second with
      | some x =>
        if x.stage = 2 ∧ x.boundary < s.boundaryNow then
          (s.takeDuty x).modAwl fun a => { a with second := some { x with stage := 3 } }
        else s
      | none => s

/-- HISTOGRAM_DONE on the item of the run: the table is loaded (steps 3 and 4), or BinFault. -/
def Dev.runHistogram (s : Dev) (r : BurnRun) (h : List Nat) : Dev :=
  if histogramOk h (sumN h) then
    let s := ((s.loadTable r.item h r.opId).runStep r 3).runStep r 4
    if r.spare then s.runStage 5
    else
      let s := if r.item = 40 then s.put Od.spareState 0 else s
      (s.awlIn r.item).endRun r 2
  else s.failRun r 1

/-- Whether |m2|, the mean of channel less corrected spare over the common edges, lies within HandoverTolerance: 2^-16 tick is
1,600,000 / 65,536 fs (R226). -/
def Dev.handbackGood (s : Dev) (r : BurnRun) : Bool :=
  decide ((sumI r.diffs).natAbs * 1600000 ≤ s.nat Od.handoverTolerance * r.diffs.length * 65536)

/-- HANDBACK_CHECKED (R226). -/
def Dev.handbackChecked (s : Dev) : Dev :=
  s.inRun fun r =>
    if r.stage = 5 ∧ s.overlapped r then if s.handbackGood r then (s.runStep r 5).runStage 6 else s.failRun r 2
    else s

/-- CHANNEL_ON_DUTY: at the first boundary after step 5 the channel takes its duty back. -/
def Dev.channelOnDuty (s : Dev) : Dev :=
  s.inRun fun r =>
    if r.stage = 6 ∧ r.boundary < s.boundaryNow then
      let s := s.freeSpare.put (Od.awlState r.item) 0
      let s := (s.awlShow r.item).live (32 + r.item) 0 (s.cap r.item).unlocked
      ((s.runStep r 6).endRun r 2).showNext
    else s

/-- What is under way of the rotation ends without a result: the runs are ABORTED and give the spare back (log entry 84). -/
def Dev.dropRuns (s : Dev) : Dev :=
  let s := s.each (s.awl.run.toList ++ s.awl.second.toList) fun s r =>
    let s := (s.jEnd r.opId 4).put Od.burnishCurrent 0xFF
    if r.item = 40 then (if s.nat Od.spareState = 2 then s.put Od.spareState 0 else s)
    else if r.spare ∧ s.nat (Od.awlState r.item) = 2 then (s.freeSpare.put (Od.awlState r.item) 0).awlShow r.item
    else if r.spare then s.freeSpare
    else s
  s.modAwl fun a => { a with run := none, second := none }

/-- KEEP is entered: channels, spare, DMA and rotation stop; on wake the rotation resumes with the next item (R229). -/
def Dev.awlKeep (s : Dev) : Dev := s.dropRuns.showNext

/-! ### Delay lines (R208, R227) -/

/-- LpdState of a detector that is not OFF. -/
def Dev.lpdTo (s : Dev) (d st detail : Nat) : Dev := (s.put (Od.lpdState d) st).live (73 + d) detail (st == 2)

/-- A delay line of device d (channel, AWL_S, lane phase detector 64 + d) leaves lock. -/
def Dev.dllUnlock (s : Dev) (d : Nat) : Dev :=
  let s := s.modCap d fun c => { c with unlocked := true }
  if 64 ≤ d then s.lpdTo (d - 64) 2 0
  else
    let s := (s.awlStick d Bit.awlSticky_DllUnlock).live (32 + d) 0 true
    let idle := s.nat Od.spareState == 0 && !s.awl.run.any (·.spare) && s.awl.second.isNone && s.journalFree
    if d < 40 ∧ s.awlUsed d ∧ s.nat (Od.awlState d) = 1 ∧ idle ∧ s.on Od.spareAuto ∧ s.awlRuns then
      (s.beginRun d 2 true).reuseSkew d
    else s

/-- It regains lock: the rotation takes that channel next. -/
def Dev.dllRelock (s : Dev) (d : Nat) : Dev :=
  let s := s.modCap d fun c => { c with unlocked := false }
  if 64 ≤ d then (if s.nat (Od.lpdState (d - 64)) = 2 then s.lpdTo (d - 64) 1 0 else s)
  else
    let s := if s.itemOut d then s else s.live (32 + d) 0 false
    (if d < 40 then s.modAwl fun a => { a with next := d } else s).showNext

/-! ### Lane phase detectors (R231, R232) -/

/-- A histogram of lane phase detector d is complete. -/
def Dev.lpdHistogram (s : Dev) (d : Nat) (h : List Nat) (opId : Nat) : Dev :=
  if histogramOk h (sumN h) && s.isHistogram h then (s.loadTable (64 + d) h opId).lpdTo d 1 0 else s.lpdTo d 2 1

/-- HISTOGRAM_DONE of a device. -/
def Dev.histogramDone (s : Dev) (d : Nat) (h : List Nat) : Dev :=
  if !s.isHistogram h then s
  else if 64 ≤ d then (if s.nat (Od.lpdState (d - 64)) = 3 then s.lpdHistogram (d - 64) h 0 else s)
  else s.inRun fun r => if r.item = d ∧ r.stage = 3 ∧ !(s.cap d).unlocked then s.runHistogram r h else s

/-- One edge of the recovered clock of a SyncE reference, each µs of that clock (R231). -/
def Dev.syncePhase (s : Dev) (m tclk bin : Nat) : Dev :=
  let d := s.nat (Od.synceLane m)
  if s.synceRef m ∧ s.nat (Od.lpdState d) = 1 ∧ s.on (Od.laneLinkUp d) ∧ s.running 0 then
    let raw := fineOf (s.cap (64 + d)).table s.tick (tclk % 4) (bin % 256)
    if s.fromLog then
      match (s.rr m).meas.head? with
      | some e => s.crossCheck m 1 ((s.edgeOffset m (raw / 65536) (raw % 65536) 0).1 - e.x)
      | none => s
    else (s.measureEdge m (raw / 65536) (raw % 65536) 0).logInput 9 [d, raw / 65536, raw % 65536]
  else s

/-! ### CALIBRATE (R222, R228) -/

/-- The Burnish of one channel or AWL_S in CALIBRATE: its lines' lock, its histogram, the reference skew of the input. -/
def Dev.calibrateOne (s : Dev) (unlocked : List Nat) (tables : Tab (List Nat)) (skews : Tab Int) (d : Nat) : Dev :=
  let s := s.modCap d fun c => { c with unlocked := unlocked.contains d, skew := (Tab.find? skews d).getD c.skew }
  if unlocked.contains d then s.awlOut d 0
  else match Tab.find? tables d with
    | some h => if histogramOk h (sumN h) && s.isHistogram h then (s.loadTable d h 0).awlIn d else s.awlOut d 1
    | none => s.awlOut d 1

/-- Every channel and AWL_S calibrated: AWL_S covers the lowest channel that failed, and the rotation resumes with an
interrupted item. -/
def Dev.calibrateAwl (s : Dev) (unlocked : List Nat) (tables : Tab (List Nat)) (skews : Tab Int) : Dev :=
  let s := (s.dropRuns.freeSpare.putB Od.burnishBlocked false).modAwl fun a => { a with blockedBy := none }
  let s := s.each (List.range 41) (·.calibrateOne unlocked tables skews ·)
  let cut := (s.acc.journal.reverse.find? fun r => r.kind == 4 && r.detail ≤ 40)
  let s := match cut with
    | some r => if r.outcome = 5 then s.modAwl fun a => { a with next := r.detail, restartOf := some (r.detail, r.id) } else s
    | none => s
  s.modAwl fun a => { a with lastStart := s.tick }

/-- After CALIBRATE the channels show their state, and the spare takes the duty of a failed one. -/
def Dev.awlReady (s : Dev) : Dev :=
  let s := s.each (List.range 40) (·.awlStart ·)
  let bad := (List.range 40).find? fun n => s.nat (Od.awlState n) == 3
  let s := match bad with
    | some n =>
      if s.on Od.spareAuto ∧ s.nat Od.spareState = 0 then
        ((s.put Od.spareState 1).put Od.spareFor n).reuseSkew n
      else s
    | none => s
  s.showNext

/-! ### Writes of area 26 -/

def Dev.awlCheck (s : Dev) (w : Wr) (k : Nat) (v : Int) : Status :=
  let i := k / 256
  let sub := k % 256
  let n := i - 0x2600
  if i < 0x2628 then
    if sub = 0x06 then need (!s.refChannel n) .state
    else .ok
  else if 0x2660 ≤ i ∧ i < 0x2676 then need (s.nat (Od.laneState (i - 0x2660)) == 4) .state
  else if k = Od.dmaBase ∨ k = Od.dmaSize then need (!s.on Od.dmaRun) .state
  else if k = Od.dmaIrqThreshold then need (v ≤ w.num Od.dmaSize / 32) .range
  else .ok

def Dev.awlAct (s : Dev) (_w : Wr) (k : Nat) (v : Int) : Dev :=
  let i := k / 256
  let sub := k % 256
  let n := i - 0x2600
  if i < 0x2628 then
    match sub with
    | 0x01 =>
      let was := s.on k
      let s := s.put k v
      if v = 0 then ((s.unblock n).settingChange n).awlShow n else if was then s else s.awlStart n
    | 0x02 | 0x03 | 0x04 | 0x07 | 0x08 | 0x09 =>
      if v = s.num k then s
      else
        let s := if sub = 0x04 ∨ sub = 0x09 then s else s.settingChange n
        let s := if sub = 0x02 ∨ sub = 0x04 ∨ sub = 0x09 then s.gateStart n else s
        s.put k v
    | 0x15 => s.clearBits k v
    | _ => s.put k v
  else if 0x2660 ≤ i ∧ i < 0x2676 then
    if v = 0 then s else s.lpdTo (i - 0x2660) 3 0
  else if k = Od.burnishNow then
    let s := (s.unblock v.toNat).modAwl fun a => { a with queued := some v.toNat }
    s.showNext
  else if k = Od.dmaRun then
    let s := s.put k v
    if v = 0 then s else (s.put Od.dmaWriteIndex 0).put Od.dmaReadIndex 0
  else s.put k v

end Sys2Proof.Machine
end

