-- ==== Sys2Proof/Machine/Mac.lean ====
section
/-! DEFINITION. The MACs (chapter 11): reception, transmission and stamps, launch times and transmit slots, two-step queues,
preemption, gates, PAUSE and PFC, and the writes of areas 34 and 35. -/

namespace Sys2Proof.Machine

/-- A port's registers. -/
def Dev.port (s : Dev) (p : Nat) : PortReg := Tab.get (fun _ => {}) s.ports p

def Dev.modPort (s : Dev) (p : Nat) (f : PortReg → PortReg) : Dev :=
  { s with ports := Tab.set (fun _ => {}) s.ports p (f (s.port p)) }

/-- The lane, or the lowest lane of the group, that a port uses (R347, Table 11-1). -/
def laneOfPort (p : Nat) : Nat := if p < 16 then p else p + 4

/-- Whether a port passes frames (R348; in KEEP its lane is off, R377). -/
def Dev.portUp (s : Dev) (p : Nat) : Bool :=
  s.on (Od.portEnable p) && s.nat (Od.laneState (laneOfPort p)) == 3 && s.nat (Od.portMode p) != 5

/-- PortLive [0]. -/
def Dev.showPort (s : Dev) (p : Nat) : Dev := s.putBit (Od.portLive p) 0 (s.portUp p)

/-! ### Reception (R349 to R354) -/

/-- What a frame carries (R351). -/
def Dev.rxKind (s : Dev) (f : RxF) : RxKind :=
  if f.etype = 0x88F7 ∨ f.udp = some 319 ∨ f.udp = some 320 then .ptp
  else if f.udp = some 123 then .ntp
  else if f.udp = some (s.nat Od.oapPort) then .oap
  else if f.etype = 0x0806 ∨ f.asks.any (·.v6) then .resolve
  else if f.etype = 0x8809 ∧ f.subtype = 0x0A then .esmc
  else if f.etype = 0x8808 then .control
  else .other

/-- Whether a destination and a kind stand in Table 11-2. -/
def Dev.rxAccepted (s : Dev) (p : Nat) (f : RxF) : Bool :=
  let udp := f.udp == some 319 || f.udp == some 320
  f.dst == s.nat (Od.macAddress p) || (f.dst == 0xFFFFFFFFFFFF && f.etype == 0x0806) ||
    (f.dst == 0x3333FF000000 + s.nat (Od.ipv6Address p) % 2 ^ 24 && f.asks.any (·.v6)) ||
    ((f.dst == 0x011B19000000 || f.dst == 0x0180C200000E) && f.etype == 0x88F7) ||
    ([0x01005E000181, 0x01005E00006B, 0x333300000181, 0x33330000006B].contains f.dst && udp) ||
    (f.dst == 0x0180C2000001 && f.etype == 0x8808) || (f.dst == 0x0180C2000002 && f.etype == 0x8809 && f.subtype == 0x0A)

/-- Whether a tag suits VlanId (R350); MAC control frames carry none (DEDUCED, log entry 88). -/
def Dev.vlanOk (s : Dev) (p : Nat) (f : RxF) : Bool :=
  let vid := s.nat (Od.vlanId p)
  s.rxKind f == .control || match f.tag with
    | none => vid == 0
    | some (v, _) => v == vid || (vid == 0 && v == 0)

/-- The class of a received frame (R350). -/
def Dev.rxClass (s : Dev) (p : Nat) (f : RxF) : Nat :=
  match f.tag with
  | some (_, c) => c % 8
  | none => s.nat (Od.defaultPriority p)

/-- Octets of the frames of a port's buffer that a test picks. -/
def Dev.rxUse (s : Dev) (p : Nat) (pick : RxHeld → Bool) : Nat := sumN (((s.port p).rx.filter pick).map (·.len))

/-- The use of a port's shared receive pool in KiB. -/
def Dev.poolKiB (s : Dev) (p : Nat) : Nat := cdiv (s.rxUse p (·.pool)) 1024

/-- Where a frame of a class and length is kept whole: in the reserve of its class, else (`true`) in the shared pool, or nowhere
(R352). -/
def Dev.rxPlace (s : Dev) (p c len : Nat) : Option Bool :=
  if p < 16 ∧ s.rxUse p (fun h => h.cls == c && !h.pool) + len ≤ 16384 then some false
  else if s.rxUse p (·.pool) + len ≤ 65536 then some true
  else none

/-- The receive stamp of a frame (R353): the stamp of the edge less OffsetUi and LaneRxLatency. -/
def Dev.rxStamp (s : Dev) (p : Nat) (x : LaneStamp) : Nat × Nat :=
  let l := laneOfPort p
  let edge := fineOf (s.cap (64 + l)).table (s.tick - x.back) (x.tclk % 4) (x.bin % 256)
  let (n, d) := uiOf (s.nat (Od.lanePcs l))
  carried (edge - rdiv (x.ui * n * 40960 : Nat) d - rdiv (s.num (Od.laneRxLatency l) * 10) 16)

/-! Flow control towards the peer (R374) -/

/-- An XOFF of the engine for a class: sent, or sent again. -/
def Dev.sendXoff (s : Dev) (p c : Nat) : Dev :=
  ((s.bump (Od.pauseTxFrames p)).emit (.frame p 0x8808 [c, 0xFFFF])).modPort p fun r =>
    let x := Tab.get (fun _ => {}) r.pause c
    { r with pause := Tab.set (fun _ => {}) r.pause c { x with xoff := some (x.xoff.getD s.tick), sentAt := s.tick } }

/-- A class's pause registers. -/
def Dev.pauseReg (s : Dev) (p c : Nat) : PauseReg := Tab.get (fun _ => {}) (s.port p).pause c

def Dev.modPause (s : Dev) (p c : Nat) (f : PauseReg → PauseReg) : Dev :=
  s.modPort p fun r => { r with pause := Tab.set (fun _ => {}) r.pause c (f (Tab.get (fun _ => {}) r.pause c)) }

/-- The class under which a request stands: with PAUSE it covers every class, and stands under class 0. -/
def Dev.xoffClass (s : Dev) (p c : Nat) : Nat := if s.nat (Od.pauseMode p) = 1 then 0 else c

/-- The use of the shared pool that the request of a class goes by: that of the class, with PAUSE the greatest of any. -/
def Dev.xoffUse (s : Dev) (p c : Nat) : Nat :=
  let own (c : Nat) := s.rxUse p fun h => h.pool && h.cls == c
  if s.nat (Od.pauseMode p) = 1 then ((List.range 8).map own).foldl max 0 else own c

/-- Whether an XOFF is sent as a class's use of the pool exceeds PauseXoff. -/
def Dev.mayXoff (s : Dev) (p c : Nat) : Bool :=
  let x := s.pauseReg p c
  p < 16 && s.nat (Od.pauseMode p) != 0 && s.nat (Od.pauseXoff p) < s.xoffUse p c && x.xoff.isNone && x.withhold ≤ s.tick

/-- PortLive [2] to [4] for the pause registers of a port. -/
def Dev.showPause (s : Dev) (p : Nat) : Dev :=
  let cs := (List.range 8).map (s.pauseReg p)
  let s := s.putBit (Od.portLive p) 2 (cs.any fun x => x.from'.isSome)
  let s := s.putBit (Od.portLive p) 3 (cs.any fun x => s.tick < x.ignore)
  s.putBit (Od.portLive p) 4 (cs.any fun x => x.xoff.isSome)

/-- The engine's XOFF for a class ends: a pause time of zero is sent. -/
def Dev.endXoff (s : Dev) (p c : Nat) : Dev :=
  ((s.bump (Od.pauseTxFrames p)).emit (.frame p 0x8808 [c, 0])).modPause p c fun x => { x with xoff := none }

/-- The XOFF of a class ends where its use has fallen below PauseXon. -/
def Dev.relaxXoff (s : Dev) (p c : Nat) : Dev :=
  if (s.pauseReg p c).xoff.isSome ∧ s.xoffUse p c < s.nat (Od.pauseXon p) then (s.endXoff p c).showPause p else s

/-- The frames at some places of a list of places left out. -/
def without (taken : List Nat) (l : List RxHeld) : List RxHeld :=
  (l.zip (List.range l.length)).filterMap fun p => if taken.contains p.2 then none else some p.1

/-- Consumers have taken frames: their space is free. -/
def Dev.rxTaken (s : Dev) (p : Nat) (taken : List Nat) : Dev :=
  if taken.isEmpty then s
  else
    ((s.pmcQueue (0x0840 + p) (s.poolKiB p)).modPort p fun r => { r with rx := without taken r.rx }).each (List.range 8)
      (·.relaxXoff p ·)

/-- A frame stored whole, with its stamp, and delivered. -/
def Dev.rxStore (s : Dev) (p c : Nat) (pool : Bool) (f : RxF) : Dev :=
  let s := (s.bump64 (Od.rxFrames p) 1).bump64 (Od.rxOctets p) f.len
  let s := (s.pmcQueue (0x0840 + p) (s.poolKiB p)).modPort p fun r => { r with rx := r.rx ++ [⟨c, f.len, pool⟩] }
  match f.stamp with
  | some x =>
    let (k, fi) := s.rxStamp p x
    (s.logInput 1 [p, k, fi, f.len]).emit (.frame p 3 [c, f.len, 1, k, fi])
  | none =>
    let s := (s.bump (Od.rxStampInvalid p)).flag (Od.portSticky p) Bit.portSticky_StampInvalid
    let l := laneOfPort p
    let s := ((s.bump (Od.laneStampLost l)).flag (Od.laneSticky l) Bit.laneSticky_StampLost).report 95 3
    (s.logInput 1 [p, f.len]).emit (.frame p 3 [c, f.len, 0])

/-- A question for an address is answered, and goes into the log (R452); a standby takes it from there. -/
def Dev.resolve (s : Dev) (p : Nat) (f : RxF) : Dev :=
  match f.asks with
  | some a => if s.fromLog ∨ s.rxKind f ≠ .resolve then s else s.answerAsk p a
  | none => s

/-- A frame received on a port; on a drained lane it is counted and dropped (R326). -/
def Dev.rxFrame (s : Dev) (p : Nat) (f : RxF) : Dev :=
  let s := s.rxTaken p f.taken
  let drained := s.on (Od.portEnable p) && s.nat (Od.laneState (laneOfPort p)) == 4 && s.nat (Od.portMode p) != 5
  if !(s.portUp p) && !drained then s
  else if !f.assembled then (s.bump (Od.rxAssemblyErrors p)).flag (Od.portSticky p) Bit.portSticky_AssemblyError
  else if !f.fcsOk then (s.bump (Od.rxFcsErrors p)).flag (Od.portSticky p) Bit.portSticky_FcsError
  else if f.len < 64 ∨ s.nat (Od.maxFrame p) < f.len then s.bump (Od.rxLengthErrors p)
  else if !s.rxAccepted p f || !s.vlanOk p f then s.bump (Od.rxFiltered p)
  else if s.rxKind f == .other && !s.on (Od.coreRxEnable p) then s.bump (Od.rxFiltered p)
  else if drained then (s.bump64 (Od.rxFrames p) 1).bump64 (Od.rxOctets p) f.len
  else
    let c := s.rxClass p f
    match s.rxPlace p c f.len with
    | some pool =>
      let s := (s.rxStore p c pool f).resolve p f
      if s.mayXoff p (s.xoffClass p c) then (s.sendXoff p (s.xoffClass p c)).showPause p else s
    | none =>
      let s := if p < 16 then (s.bump (Od.rxDropClass p c)).report (164 + p) c else s
      s.flag (Od.portSticky p) Bit.portSticky_RxOverflow

/-! ### Two-step queues (R362, R363) -/

def TsqE.isTomb : TsqE → Bool
  | .tombstone .. => true
  | _ => false

/-- TsqDepth, TsqTombstoneOpen and PortLive [5] for the queue of a port. -/
def Dev.showTsq (s : Dev) (p : Nat) : Dev :=
  let q := (s.port p).tsq
  let tomb := q.any (·.isTomb)
  ((s.put (Od.tsqDepth p) ((q.filter fun e => !e.isTomb).length : Nat)).putB (Od.tsqTombstoneOpen p) tomb).putBit
    (Od.portLive p) 5 tomb

/-- A lost stamp added to the queue's tombstone: `split` where entries stand behind it already. -/
def addLost (seq : Nat) : List TsqE → List TsqE
  | [] => []
  | .tombstone k f n a _ sp :: t => .tombstone k f (min sat32 (n + 1)) a seq (sp || !t.isEmpty) :: t
  | e :: t => e :: addLost seq t

/-- The stamp of a sent frame with a request. -/
def Dev.tsqPush (s : Dev) (p seq tag tick fine : Nat) : Dev :=
  let q := (s.port p).tsq
  let s := s.pmcQueue (0x0820 + p) q.length
  let stored := (q.filter fun e => !e.isTomb).length
  if stored < 1024 then
    ((s.modPort p fun r => { r with tsq := q ++ [.stamp tick fine seq tag] }).bump64 (Od.tsqStored p) 1).showTsq p
  else
    let q := if q.any (·.isTomb) then addLost seq q else q ++ [.tombstone tick fine 1 seq seq false]
    let s := ((s.modPort p fun r => { r with tsq := q }).bump (Od.tsqLost p)).flag (Od.portSticky p) Bit.portSticky_TsqOverflow
    s.showTsq p

/-- The 32 octets of an entry, little-endian (Table 11-4). -/
def TsqE.bytes (p : Nat) : TsqE → List Byte
  | .stamp k f seq tag =>
    leBytes 8 k ++ leBytes 2 f ++ leBytes 2 seq ++ leBytes 2 tag ++ leBytes 1 p ++ leBytes 17 0
  | .tombstone k f n a b sp =>
    leBytes 8 k ++ leBytes 2 f ++ leBytes 4 0 ++ leBytes 1 p ++ leBytes 1 (if sp then 3 else 1) ++ leBytes 4 n ++
      leBytes 2 a ++ leBytes 2 b ++ leBytes 8 0

/-- A core's read of a queue: the entry, or zeros with Flags [7] set. -/
def Dev.tsqRead (s : Dev) (p : Nat) : Dev :=
  match (s.port p).tsq with
  | e :: t => (((s.pmcQueue (0x0820 + p) (s.port p).tsq.length).modPort p fun r => { r with tsq := t }).showTsq p).emit (.spi (e.bytes p))
  | [] => s.emit (.spi (leBytes 15 0 ++ leBytes 1 128 ++ leBytes 16 0))

/-! ### Gates (R368 to R371) -/

/-- The gate states at a place in the cycle (ns), by the entries still to come and the states before them. -/
def gatesAt : List Nat → Nat → Nat → Nat
  | [], st, _ => st
  | e :: es, _, t =>
    let st' := e / 2 ^ 32 % 256
    let d := e % 2 ^ 32
    if t < d then st' else gatesAt es st' (t - d)

/-- The start (ns in the cycle) and the states of each entry that runs in a cycle of a list. -/
def segsFrom : List Nat → Nat → Nat → List (Nat × Nat)
  | [], _, _ => []
  | e :: es, t, c => if c ≤ t then [] else (t, e / 2 ^ 32 % 256) :: segsFrom es (t + e % 2 ^ 32) c

/-- The place in the cycle (2^-32 ns) at a time: a cycle that would be cut by ConfigChangeTime to less than the pending
extension does not start, and the one before it holds its last states instead (R371). -/
def Dev.cyclePlace (s : Dev) (p : Nat) (g : GateCfg) (t : Int) : Nat :=
  let c := g.cycle * 2 ^ 32
  let x := (t - g.base).toNat % c
  let left := tsTime (s.nat (Od.configChangeTime p)) - (t - x)
  if (s.port p).next.isSome && decide (0 < left) && decide (left < (s.port p).ext * 2 ^ 32) && decide (t - x - c ≥ g.base) then c - 1
  else x

/-- The gates of a port at a time of its scale. -/
def Dev.gatesOn (s : Dev) (p : Nat) (t : Int) : Nat :=
  if !s.on (Od.gateEnable p) then 0xFF
  else
    match (s.port p).oper with
    | some g => if t < g.base ∨ g.cycle = 0 then g.states else gatesAt g.list g.states (s.cyclePlace p g t / 2 ^ 32)
    | none => s.nat (Od.adminGateStates p)

/-- The gates of a port now. -/
def Dev.gatesNow (s : Dev) (p : Nat) : Nat := s.gatesOn p (s.tsNow (s.nat (Od.gateTimeScale p)))

/-- The time (2^-32 ns) from t until the gate of a class next closes, none where its list never closes it. -/
def Dev.gateCloses (s : Dev) (p c : Nat) (t : Int) : Option Nat :=
  if !s.on (Od.gateEnable p) then none
  else
    match (s.port p).oper with
    | some g =>
      if t < g.base ∨ g.cycle = 0 then
        if gatesAt g.list g.states 0 |>.testBit c then none else some (g.base - t).toNat
      else
        let x := s.cyclePlace p g t
        let segs := segsFrom g.list 0 g.cycle
        let two := segs ++ segs.map fun e => (e.1 + g.cycle, e.2)
        (two.find? fun e => x < e.1 * 2 ^ 32 && !e.2.testBit c).map fun e => e.1 * 2 ^ 32 - x
    | none => none

/-- GateStatesNow brought up to date. -/
def Dev.showGates (s : Dev) (p : Nat) : Dev := s.put (Od.gateStatesNow p) (s.gatesNow p)

/-- The admin configuration of a port copied. -/
def Dev.adminGates (s : Dev) (p : Nat) : GateCfg :=
  { base := tsTime (s.nat (Od.adminBaseTime p)), cycle := s.nat (Od.adminCycleTime p),
    list := (List.range (s.nat (Od.adminListLength p))).map fun e => s.nat (Od.gclEntry p e),
    states := s.nat (Od.adminGateStates p) }

/-- ConfigChangeTime for a write now: AdminBaseTime, or the first later cycle start SchedMinLead ahead (R371). -/
def Dev.gateChangeAt (s : Dev) (p : Nat) : Int :=
  let g := s.adminGates p
  let least := s.tsNow (s.nat (Od.gateTimeScale p)) + (s.nat Od.schedMinLead * 1000 : Nat) * 2 ^ 32
  let c : Int := (max 1 g.cycle : Nat) * 2 ^ 32
  if least ≤ g.base then g.base else g.base + (least - g.base + c - 1) / c * c

/-- A write of 1 to ConfigChange. -/
def Dev.gateConfigChange (s : Dev) (p : Nat) : Dev :=
  let g := s.adminGates p
  ((s.put (Od.configChangeTime p) (tsNum (s.gateChangeAt p))).put (Od.configPending p) 1).modPort p
    fun r => { r with next := some g, ext := s.nat (Od.adminCycleExtension p) }

/-- At ConfigChangeTime the pending configuration becomes operative. -/
def Dev.gateConfigApply (s : Dev) (p : Nat) : Dev :=
  match (s.port p).next with
  | some g =>
    if tsTime (s.nat (Od.configChangeTime p)) ≤ s.tsNow (s.nat (Od.gateTimeScale p)) then
      let base := s.nat (Od.configChangeTime p)
      let s := s.modPort p fun r => { r with oper := some { g with base := tsTime base }, next := none }
      let s := ((s.put (Od.operBaseTime p) base).put (Od.operCycleTime p) g.cycle).put (Od.operListLength p) g.list.length
      (s.put (Od.configPending p) 0).showGates p
    else s
  | none => s

/-! ### Transmission (R355 to R366, R376) -/

/-- Whether a class is paused now: a class of PauseIgnoreMask never is. -/
def Dev.pausedClass (s : Dev) (p c : Nat) : Bool :=
  p < 16 && !s.bit (Od.pauseIgnoreMask p) c && (s.pauseReg p c).from'.isSome

/-- Whether a frame is preemptable (R364, R365). -/
def Dev.preemptable (s : Dev) (p : Nat) (f : TxF) : Bool :=
  p < 16 && f.core && s.nat (Od.preemptState p) == 2 && s.bit (Od.preemptableMask p) f.cls

/-- The instant, in 2^-16 tick, at which a frame's point crosses the reference plane: the transmit stamp (R355). The MAC commits
64 ns before its first bit at least. -/
def Dev.pointAt (s : Dev) (p : Nat) (f : TxF) : Nat :=
  let pma := max (f.tick * 65536 + f.fine) ((s.tick + 40) * 65536)
  ((pma : Int) + rdiv (s.num (Od.laneTxLatency (laneOfPort p)) * 10) 16).toNat

/-- The octets of a frame that must pass before the wire can be cleared: all, or the first fragment of a preemptable one. -/
def Dev.firstPart (s : Dev) (p : Nat) (f : TxF) : Nat :=
  if s.preemptable p f then min f.len (64 * (1 + s.nat (Od.addFragSize p))) else f.len

/-- Whether the gate of a frame's class is open at its launch, and stays open until the frame, or the first fragment of a
preemptable one, has ended with its gap (R370). -/
def Dev.gateFits (s : Dev) (p : Nat) (f : TxF) (x : Nat) : Bool :=
  16 ≤ p ||
    let t := (s.convert (s.nat (Od.gateTimeScale p)) (x / 65536) (x % 65536)).1
    (s.gatesOn p t).testBit f.cls &&
      match s.gateCloses p f.cls t with
      | some d => decide (s.wireTime p (s.firstPart p f + 12) * 16 * 65536 ≤ d * 10)
      | none => true

/-- Whether a planned exchange that is accepted keeps a frame back: its ready tick lies at or after At (R467). -/
def Dev.afterExchange (s : Dev) (f : TxF) : Bool :=
  match s.pair.exchange, s.cntZero with
  | some (at', true), some z => decide (at' ≤ (s.convert 0 (z + f.ready) 0).1)
  | _, _ => false

/-- The instants, in 2^-16 tick, of the timed frames of a port that are still to come: launch-time frames, and the next occurrence
of each FRAME_SEND entry (R359). -/
def Dev.timedAhead (s : Dev) (p : Nat) : List Nat :=
  let launches := s.svc.queue.filterMap fun m => if m.port = p then m.launch.map (· * 65536) else none
  let sends := s.entries.filterMap fun e =>
    let v := s.nat (Od.schedEntry e)
    let n := entryScale v
    let k := max (s.sched e).next (entryReached v (s.tsNow n))
    let left := match entryCount v with
      | some c => decide (k < c)
      | none => true
    if (s.sched e).state == 1 && entryAction v == 4 && entryTarget v == p && s.running n && left then
      some (s.instantOf n (entryAt v k) / 16).toNat
    else none
  (launches ++ sends).filter (s.tick * 65536 ≤ ·)

/-- Whether a frame clears the wire, whole or with its first fragment, by the guard instant of every timed frame to come: 20 octets
before its launch (R359). -/
def Dev.guardsClear (s : Dev) (p : Nat) (f : TxF) (x : Nat) : Bool :=
  16 ≤ p || (s.timedAhead p).all fun t => x + s.wireTime p (s.firstPart p f) + s.wireTime p 20 ≤ t

/-- Whether (ready tick, ordinal) comes before another (R456). -/
def readyBefore (a b : Nat × Nat) : Bool := decide (a.1 < b.1) || (a.1 == b.1 && decide (a.2 < b.2))

/-- Whether a frame of the log's order may be committed on an active with a standby (R456): no frame of an earlier ready tick waits on
its port, and none committed before is still on its way from more than 200 µs of ready ticks back. Launch-time frames keep to
their T (log entry 90). -/
def Dev.inOrder (s : Dev) (p : Nat) (f : TxF) : Bool :=
  !s.leads || 16 ≤ p ||
    ((s.svc.queue.all fun m => m.port != p || m.launch.isSome || !readyBefore (m.ready, m.ordinal) (f.ready, f.ordinal)) &&
      (decide ((s.port p).preUntil ≤ s.tick * 65536) || decide (f.ready ≤ (s.port p).preReady + 200 * ticksPerUs)))

/-- Whether the transmitter of a port is free for a frame of a class whose point crosses the reference plane at an instant (R358):
no frame is on the wire, the class is not paused, and the lane is UP with its transmit direction ACTIVE. -/
def Dev.txFree (s : Dev) (p c x : Nat) : Bool :=
  s.portUp p && s.nat (Od.lpiTxState (laneOfPort p)) == 0 && !s.pausedClass p c && (s.port p).txUntil + s.wireTime p 20 ≤ x

/-- Whether a frame may start: the transmitter is free, its gate lets it pass, it stands in no guard, and the preemptable path is
free for it where it needs it. -/
def Dev.mayStart (s : Dev) (p : Nat) (f : TxF) : Bool :=
  let x := s.pointAt p f
  s.txFree p f.cls x && !(p < 16 && s.afterExchange f) && s.gateFits p f x && s.guardsClear p f x &&
    (!s.preemptable p f || (s.port p).preUntil + s.wireTime p 20 ≤ x)

/-- A frame withheld on the standby is kept in the hold ring of 16 MiB, where it finds room (R457). -/
def Dev.holdFrame (s : Dev) (p : Nat) (f : TxF) (msg : Option Queued) : Dev :=
  let s := s.bump64 (Od.txWithheld p) 1
  if 16777216 < sumN (s.pair.held.map (·.len)) + f.len then
    ((s.bump Od.holdDropped).flag Od.pairSticky Bit.pairSticky_HoldDropped).report 205 p
  else
    let held := s.pair.held ++ [{ port := p, ready := f.ready, ordinal := f.ordinal, len := f.len, msg }]
    (s.modPair fun x => { x with held }).put Od.holdDepth held.length

/-- The wire of a port taken by a frame: a preemptable one yields it at each guard on its way, which counts as a preemption. -/
def Dev.takeWire (s : Dev) (p : Nat) (f : TxF) (x : Nat) : Dev :=
  let ends := x + s.wireTime p f.len
  if s.preemptable p f then
    let guards := ((s.timedAhead p).filter fun t => t < ends + s.wireTime p 20).length
    (s.bumpBy (Od.txFragments p) (f.fragments + guards)).modPort p fun r =>
      { r with lastFrag := f.lastFrag, preUntil := max ends (f.lastFrag * 65536), preReady := f.ready }
  else s.modPort p fun r => { r with txUntil := max r.txUntil ends }

/-- A frame sent, its point crossing the reference plane at x, or withheld at the lane of a standby, whose two-step stamps come with
the log (TX_EVENT). `fields` is what it carries, `msg` the message it is. -/
def Dev.sendFrame (s : Dev) (p kind : Nat) (f : TxF) (x : Nat) (fields : List Nat := []) (msg : Option Queued := none) : Dev :=
  let s := s.takeWire p f x
  if s.md = Mode.follower ∧ p < 16 then s.holdFrame p f msg
  else
    let (k, fi) := carried x
    let s := match f.request with
      | some (seq, tag) => if f.core then (s.tsqPush p seq tag (s.cntOf k) fi).logInput 6 [p, seq, tag, s.cntOf k, fi] else s
      | none => s
    let s := s.modPort p fun r => { r with commit := (f.ready, f.ordinal) }
    let s := (s.bump64 (Od.txFrames p) 1).bump64 (Od.txOctets p) f.len
    (s.modLane (laneOfPort p) fun r => { r with sentAt := s.tick }).emit
      (.frame p kind ([f.cls, s.nat (Od.vlanId p), f.len, k, fi] ++ fields))

/-- The MAC commits to a frame of a management core or of its own: it waits where it may not start. -/
def Dev.commitFrame (s : Dev) (p : Nat) (f : TxF) : Dev :=
  if s.mayStart p f ∧ (!f.core || s.inOrder p f) then s.sendFrame p 4 f (s.pointAt p f) else s

/-! ### Transmit slots (R357, R360) -/

/-- A transmit slot written: an empty frame empties it, and one longer than MaxFrame is not taken. Occurrences within 2 µs send what
the slot held. -/
def Dev.writeSlot (s : Dev) (p n cls : Nat) (insert : Option Insert) (frame : List Byte) : Dev :=
  if s.nat (Od.maxFrame p) < frame.length then s
  else
    let x := Tab.get (fun _ => {}) (s.port p).slots n
    let x : TxSlot := { now := { cls, insert, frame },
                        was := (x.was.filter fun w => s.tick < w.1) ++ [(s.tick + 2 * ticksPerUs, x.now)] }
    (s.modPort p fun r => { r with slots := Tab.set (fun _ => {}) r.slots n x }).putBit (Od.slotsLoaded p) n (!frame.isEmpty)

/-- What a transmit slot sends for an occurrence at a tick: nothing where its frame is empty. -/
def Dev.slotFrame (s : Dev) (p n k : Nat) : SlotFrame :=
  let x := Tab.get (fun _ => {}) (s.port p).slots n
  match x.was.find? fun w => k < w.1 with
  | some w => w.2
  | none => x.now

/-- Octets put into a frame at an offset. -/
def putBytes (off : Nat) (new frame : List Byte) : List Byte :=
  (frame.take off ++ new ++ frame.drop (off + new.length)).take frame.length

/-- The sum of the 16-bit words of a list of octets. -/
def wordSum : List Byte → Nat
  | a :: b :: l => a.toNat * 256 + b.toNat + wordSum l
  | [a] => a.toNat * 256
  | [] => 0

/-- Where the UDP header of an Ethernet frame begins, and whether it is over IPv4. -/
def udpHeader (frame : List Byte) : Option (Nat × Bool) :=
  let word (i : Nat) : Nat := beNat ((frame.drop i).take 2)
  let l2 := if word 12 = 0x8100 then 18 else 14
  let typ := word (l2 - 2)
  let octet (i : Nat) : Nat := (frame.getD i 0).toNat
  if typ = 0x0800 ∧ octet (l2 + 9) = 17 then some (l2 + octet l2 % 16 * 4, true)
  else if typ = 0x86DD ∧ octet (l2 + 6) = 17 then some (l2 + 40, false)
  else none

/-- The UDP checksum of a frame brought after a change of its payload from `old`: for IPv4 zero stays zero (R357). -/
def fixChecksum (old frame : List Byte) : List Byte :=
  match udpHeader frame with
  | none => frame
  | some (u, v4) =>
    let was := beNat ((old.drop (u + 6)).take 2)
    if v4 ∧ was = 0 then frame
    else
      let d : Int := (wordSum (frame.drop u) : Int) - wordSum (old.drop u)
      let c := ((was : Int) - d) % 65535
      putBytes (u + 6) (beBytes 2 (if c = 0 then 0xFFFF else c.toNat)) frame

/-! ### Preemption (R364) -/

/-- Verification starts, or preemption is active without it. -/
def Dev.startPreempt (s : Dev) (p : Nat) : Dev :=
  let verify := s.on (Od.preemptVerify p)
  ((s.put (Od.preemptState p) (if verify then 1 else 2)).putBit (Od.portLive p) 1 (!verify)).modPort p
    fun r => { r with tries := 0, tryAt := s.tick }

/-- The outcome of a verify attempt. -/
def Dev.verifyPreempt (s : Dev) (p : Nat) (ok : Bool) : Dev :=
  if s.nat (Od.preemptState p) ≠ 1 then s
  else if ok then (s.put (Od.preemptState p) 2).putBit (Od.portLive p) 1 true
  else
    let n := (s.port p).tries + 1
    let s := s.modPort p fun r => { r with tries := n, tryAt := s.tick }
    if n < 3 then s
    else (s.put (Od.preemptState p) 3).flag (Od.portSticky p) Bit.portSticky_PreemptVerifyFailed

/-! ### PAUSE and PFC (R372 to R375) -/

/-- Ticks of a number of quanta of 512 bit times at a port's rate. -/
def Dev.quanta (s : Dev) (p q : Nat) : Nat :=
  match s.nat (Od.portMode p) with
  | 1 => q * 320
  | 2 => q * 32
  | 3 => cdiv (q * 64) 5
  | _ => cdiv (q * 16) 5

/-- One class takes a pause time. -/
def Dev.takePause (s : Dev) (p c q : Nat) : Dev :=
  let x := s.pauseReg p c
  if s.bit (Od.pauseIgnoreMask p) c ∨ s.tick < x.ignore then s
  else if q = 0 then s.modPause p c fun x => { x with ends := s.tick, from' := none }
  else s.modPause p c fun x => { x with ends := s.tick + s.quanta p q, from' := some (x.from'.getD s.tick) }

/-- A valid PAUSE or PFC frame: its class-enable vector (all ones with PAUSE) and its times. -/
def Dev.pauseFrame (s : Dev) (p enable : Nat) (times : List Nat) : Dev :=
  if !(s.portUp p) ∨ 16 ≤ p then s
  else
    let s := s.bump (Od.pauseRxFrames p)
    match s.nat (Od.pauseMode p) with
    | 0 => s
    | 1 => (s.each (List.range 8) fun s c => s.takePause p c (times.headD 0)).showPause p
    | _ => (s.each ((List.range 8).filter enable.testBit) fun s c => s.takePause p c ((times[c]?).getD 0)).showPause p

/-- A class's timer expires. -/
def Dev.pauseExpiry (s : Dev) (p c : Nat) : Dev :=
  let x := s.pauseReg p c
  if x.from'.isSome ∧ x.ends ≤ s.tick then (s.modPause p c fun x => { x with from' := none }).showPause p else s

/-- The watchdog's break of a class paused for PauseLimit. -/
def Dev.pauseBreak (s : Dev) (p c : Nat) : Dev :=
  match (s.pauseReg p c).from' with
  | some k =>
    if s.nat (Od.pauseLimit p) * ticksPerMs ≤ s.since k then
      let s := s.modPause p c fun x =>
        { x with ends := s.tick, from' := none, ignore := s.tick + s.nat (Od.pauseBreakTime p) * ticksPerMs }
      let s := (s.bump (Od.pauseBreaks p)).bump (Od.pauseBreaksClass p c)
      ((s.flag (Od.portSticky p) Bit.portSticky_PauseBreak).report (148 + p) 0).showPause p
    else s
  | none => s

/-- Half of an XOFF's pause time has passed: it is repeated. -/
def Dev.repeatXoff (s : Dev) (p c : Nat) (taken : List Nat) : Dev :=
  let s := s.rxTaken p taken
  let x := s.pauseReg p c
  if x.xoff.isSome ∧ s.quanta p 0xFFFF / 2 ≤ s.since x.sentAt then s.sendXoff p c else s

/-- The engine's own XOFF that has lasted PauseLimit is ended and withheld. -/
def Dev.breakXoff (s : Dev) (p c : Nat) : Dev :=
  match (s.pauseReg p c).xoff with
  | some k =>
    if s.nat (Od.pauseLimit p) * ticksPerMs ≤ s.since k then
      let s := (s.endXoff p c).modPause p c fun x =>
        { x with withhold := s.tick + s.nat (Od.pauseBreakTime p) * ticksPerMs }
      (((s.bump (Od.ownPauseBreaks p)).flag (Od.portSticky p) Bit.portSticky_OwnPauseBreak).report (148 + p) 1).showPause p
    else s
  | none => s

/-! ### Writes of areas 34 and 35 -/

/-- The port an object of areas 34 and 35 belongs to. -/
def portOfObject (k : Nat) : Nat :=
  let i := k / 256
  if 0x3500 ≤ i then (i - 0x3500) / 4 else if 0x3460 ≤ i then i - 0x3460 else if 0x3440 ≤ i then i - 0x3440 else i - 0x3400

def Dev.macCheck (s : Dev) (w : Wr) (k : Nat) (v : Int) : Status :=
  let p := portOfObject k
  if s.nat (Od.portMode p) = 5 then .state
  else if k = Od.pauseXon p ∨ k = Od.pauseXoff p then need (w.nat (Od.pauseXon p) < w.nat (Od.pauseXoff p)) .range
  else if k = Od.configChange p then need (v == 0 || w.nat (Od.adminListLength p) != 0) .range
  else if 0x3500 ≤ k / 256 then
    let n := v.toNat
    need (n / 2 ^ 56 % 16 ≤ 2 && n / 2 ^ 60 == 0 && n / 2 ^ 40 % 65536 == 0 && 1 ≤ n % 2 ^ 32 && n % 2 ^ 32 ≤ 1000000000) .range
  else .ok

def Dev.macAct (s : Dev) (_w : Wr) (k : Nat) (v : Int) : Dev :=
  let p := portOfObject k
  if k = Od.portSticky p ∧ k / 256 < 0x3440 then s.clearBits k v
  else if k = Od.portEnable p then (s.put k v).showPort p
  else if k = Od.preemptEnable p then
    let s := s.put k v
    if v ≠ 0 then s.startPreempt p else (s.put (Od.preemptState p) 0).putBit (Od.portLive p) 1 false
  else if k = Od.configChange p then if v = 0 then s else s.gateConfigChange p
  else if k = Od.gateEnable p then (s.put k v).showGates p
  else s.put k v

end Sys2Proof.Machine
end

