-- ==== Sys2Proof/Machine/Clients.lean ====
section
/-! DEFINITION. The service pipelines and the client table (R380 to R382, R403 to R412): buckets, records and their cache,
admission, screening and policing, and the violation log. -/

namespace Sys2Proof.Machine

def Dev.modSvc (s : Dev) (f : Svc → Svc) : Dev := { s with svc := f s.svc }

/-! ### Pipelines (R380, R381) -/

/-- The pipeline a bucket is assigned to. -/
def Dev.pipeOf (s : Dev) (b : Nat) : Nat := Tab.get (fun b => b % 4) s.svc.moved b

/-- The pipelines other than q that are ACTIVE, ascending. -/
def Dev.activeBut (s : Dev) (q : Nat) : List Nat := [0, 1, 2, 3].filter fun i => i != q && s.nat (Od.pipeState i) == 0

/-- The list dealt out round-robin. -/
def deal (dst : List Nat) : Nat → List Nat → List (Nat × Nat)
  | _, [] => []
  | i, b :: bs => (b, dst.getD (i % max 1 dst.length) 0) :: deal dst (i + 1) bs

/-- The buckets of q go round-robin to the other active pipelines. -/
def Dev.moveBuckets (s : Dev) (q : Nat) : Dev :=
  let others := s.activeBut q
  if others.isEmpty then s
  else
    let own := (List.range 256).filter (fun b => s.pipeOf b == q)
    s.each (deal others 0 own) fun s p => s.modSvc fun v => { v with moved := Tab.set (fun b => b % 4) v.moved p.1 p.2 }

/-- The buckets of q return to it, and it is ACTIVE. -/
def Dev.pipeBack (s : Dev) (q : Nat) : Dev :=
  (s.modSvc fun v => { v with moved := v.moved.filter fun p => p.1 % 4 != q }).put (Od.pipeState q) 0

/-- PipeDrain of q set: its buckets move and it empties. -/
def Dev.pipeDrain (s : Dev) (q : Nat) : Dev := (s.moveBuckets q).put (Od.pipeState q) 1

/-- Buckets of a pipeline with a frame that waits for a record. -/
def Dev.bucketsWaiting (s : Dev) (q : Nat) : Nat := (s.svc.waiting.filter fun p => s.pipeOf p.1 == q).length

/-- A pipeline reset by a reaction (Table 15-3): its buckets move and the frames it holds are gone. -/
def Dev.resetPipeline (s : Dev) (q : Nat) : Dev :=
  let own := (List.range 256).filter (fun b => s.pipeOf b == q)
  let s := s.modSvc fun v => { v with
    waiting := v.waiting.filter fun p => !own.contains p.1
    queue := v.queue.filter (·.pipe != q)
    crypto := Tab.set (fun _ => []) v.crypto q [] }
  (s.moveBuckets q).put (Od.pipeState q) 2

/-- The pipeline that generates the multicast transmissions of an instance. -/
def Dev.pipeOfInst (s : Dev) (i : Nat) : Nat :=
  let q := i % 4
  ([q, (q + 1) % 4, (q + 2) % 4, (q + 3) % 4].find? fun j => s.nat (Od.pipeState j) == 0).getD q

/-- A message composed: it waits for its port's MAC. -/
def Dev.svcQueue (s : Dev) (m : Queued) : Dev :=
  let ready := m.launch.elim (s.pair.entry.getD s.cnt) s.cntOf
  let last := (s.port m.port).ready
  let ordinal := if last.1 = ready then last.2 + 1 else 0
  (s.modPort m.port fun r => { r with ready := (ready, ordinal) }).modSvc fun v =>
    { v with queue := v.queue ++ [{ m with ready, ordinal }] }

/-- A message of a pipeline on a port that depends on nothing to come. -/
def Dev.svcSend (s : Dev) (q port kind : Nat) (fields : List Nat) : Dev :=
  s.svcQueue { pipe := q, port, kind, body := .fixed fields }

/-! ### Crypto lanes (R382) -/

/-- The present instant in cycles of the CRY island, of 0.8 ns. -/
def Dev.cryNow (s : Dev) : Nat := 2 * s.tick

/-- The least of a list of instants, and its place. -/
def soonest (l : List Nat) : Nat × Nat :=
  (l.zip (List.range l.length)).foldl (fun a p => if p.1 < a.1 then p else a) (l.headD 0, 0)

/-- The THRESHOLD counters of the crypto queue of pipeline q count up to now: its requests wait until their cycles, so that more than a
threshold wait until the one that many places from the last begins. -/
def Dev.pmcCrypto (s : Dev) (q : Nat) : Dev :=
  let wait := Tab.get (fun _ => []) s.svc.crypto q
  s.each (s.pmcOf (0x0810 + q)) fun s k =>
    let t := s.nat (Od.pmcThreshold k)
    let ends := if t < wait.length then min s.cryNow (wait.getD (wait.length - 1 - t) 0) else 0
    (s.pmcAdd k (ends - 2 * s.pmcSince k)).pmcMark k s.tick

/-- An operation of pipeline q that costs a number of lane-cycles: the lane free first takes it, and until then it waits (DESIGN
CHOICE, log entry 88). The cycle at which it is done, none where q has 4,096 waiting and the frame is dropped. -/
def Dev.cryptoTake (s : Dev) (q cost : Nat) : Option Nat × Dev :=
  let wait := (Tab.get (fun _ => []) s.svc.crypto q).filter (s.cryNow < ·)
  if 4096 ≤ wait.length then (none, (s.bump (Od.pipeOverload q)).report (180 + q) 0)
  else
    let s := (s.pmcCrypto q).pmcCount 0x0210 cost
    let (free, i) := soonest s.svc.lanes
    let start := max s.cryNow free
    let wait := if s.cryNow < start then wait ++ [start] else wait
    (some (start + cost), s.modSvc fun v => { v with lanes := v.lanes.set i (start + cost), crypto := Tab.set (fun _ => []) v.crypto q wait })

/-- Whether messages are computed (Table 12-2): in WITHHELD they are withheld at the MACs. -/
def Dev.serves (s : Dev) : Bool := s.nat Od.serviceState == 1 || s.nat Od.serviceState == 2

/-! ### TS_0 as records hold it (R404) -/

/-- TS_0 in s, and in ms modulo 2^32. -/
def Dev.sec0 (s : Dev) : Nat := (s.tsNow 0 / second).toNat
def msOf (t : Int) : Nat := (t * 1000 / second).toNat % 4294967296
def Dev.ms0 (s : Dev) : Nat := msOf (s.tsNow 0)

/-- The receive stamp of a frame on TS_0, in 2^-32 ns. -/
def Dev.rxTime (s : Dev) (n : Nat) (f : SvcF) : Int := (s.convert n f.tick f.fine).1

/-! ### Records -/

def Dev.client (s : Dev) (n : Nat) : Option Client := Tab.get (fun _ => none) s.svc.clients n

/-- A record written or freed; the counts follow. -/
def Dev.setClient (s : Dev) (n : Nat) (c : Option Client) : Dev :=
  let s := s.modSvc fun v => { v with clients := Tab.set (fun _ => none) v.clients n c }
  let kinds := s.svc.clients.filterMap fun p => p.2.map (·.kind)
  let count (k : Nat) : Int := (kinds.filter (· == k)).length
  (((s.put Od.clientCount kinds.length).put Od.clientCountPtp (count 1)).put Od.clientCountNtp (count 2)).put
    Od.clientCountNts (count 3)

def Dev.modClient (s : Dev) (n : Nat) (f : Client → Client) : Dev :=
  s.modSvc fun v => { v with clients := v.clients.map fun p => if p.1 = n then (p.1, p.2.map f) else p }

/-- Whether a record is that of a sender. -/
def Client.isOf (c : Client) (kind inst : Nat) (f : SvcF) : Bool :=
  c.kind == kind && c.inst == inst && c.port == f.port && c.addr == f.addr && c.srcPort == f.srcPort

/-- The record of a sender (R405). -/
def Dev.findClient (s : Dev) (kind inst : Nat) (f : SvcF) : Option Nat :=
  (List.find? (fun p => match p.2 with
    | some c => c.isOf kind inst f
    | none => false) s.svc.clients).map (·.1)

/-- The least number from n on that a rising table does not list. -/
def firstGap : Nat → Tab (Option Client) → Nat
  | n, [] => n
  | n, (k, _) :: t => if k = n then firstGap (n + 1) t else n

/-! ### Cache (R406) -/

/-- The record used: its set holds it first, the least recently used of 16 leaves. -/
def Dev.cacheUse (s : Dev) (n : Nat) : Dev :=
  let set := n % 4096
  let was := Tab.get (fun _ => []) s.svc.cache set
  s.modSvc fun v => { v with cache := Tab.set (fun _ => []) v.cache set ((n :: was.filter (· != n)).take 16) }

def Dev.cached (s : Dev) (n : Nat) : Bool := (Tab.get (fun _ => []) s.svc.cache (n % 4096)).contains n

/-! ### Grants (R391) -/

/-- The rate of a logInterMessagePeriod, in 2^-128 per s. -/
def rateOf (log : Int) : Nat := 2 ^ (128 - log).toNat

/-- Whether a grant of a record has run out (R404). -/
def Dev.grantOver (s : Dev) (c : Client) (typ : Nat) : Bool :=
  let left := (c.expiry.getD typ 0 + 65536 - s.sec0 % 65536) % 65536
  left == 0 || 32768 ≤ left

/-- Whether a record's grant of a message type runs. -/
def Dev.granted (s : Dev) (c : Client) (typ : Nat) : Bool := c.mask.testBit typ && !s.grantOver c typ

/-- Clients with a Sync grant of an instance, and the sum of their rates in 2^-128 per s. -/
def Dev.syncGrants (s : Dev) (i : Nat) : Nat × Nat :=
  s.svc.clients.foldl (fun a p => match p.2 with
    | some c =>
      if c.kind = 1 ∧ c.inst = i ∧ c.mask.testBit 1 then
        (a.1 + 1, a.2 + rateOf (c.logs.getD 1 0))
      else a
    | none => a) (0, 0)

/-- InstGrantedClients and InstSyncRate. -/
def Dev.showGrants (s : Dev) (i : Nat) : Dev :=
  let (n, r) := s.syncGrants i
  (s.put (Od.instGrantedClients i) n).put (Od.instSyncRate i) (r / 2 ^ 128 : Nat)

/-- A number of Signaling messages to a client: SeqSignaling of its record goes on (Table 12-9). -/
def Dev.signaled (s : Dev) (n k : Nat) : Dev := s.modClient n fun c => { c with seqSignaling := (c.seqSignaling + k) % 65536 }

/-- Row 7 of Table 12-6: the grants of a client end. -/
def Dev.endGrants (s : Dev) (n : Nat) : Dev :=
  match s.client n with
  | some c =>
    if c.kind ≠ 1 ∨ c.mask = 0 then s
    else
      let ends := [0, 1, 2].filter c.mask.testBit
      let s := s.when s.serves fun s => (s.each ends fun s t =>
        s.svcSend (s.pipeOfInst c.inst) c.port 0x2C [0x0005, c.inst, n, t]).signaled n ends.length
      (s.modClient n fun c => { c with mask := 0 }).showGrants c.inst
  | none => s

/-- A record freed. -/
def Dev.freeClient (s : Dev) (n : Nat) : Dev :=
  let s := (s.endGrants n).setClient n none
  s.modSvc fun v => { v with
    cache := Tab.set (fun _ => []) v.cache (n % 4096) ((Tab.get (fun _ => []) v.cache (n % 4096)).filter (· != n)) }

/-- The client table is lost with DRAM (R383, R406): no record, no grant. -/
def Dev.emptyClients (s : Dev) : Dev :=
  let s := s.modSvc fun v => { v with clients := [], cache := [], waiting := [], notices := [] }
  let s := (((s.put Od.clientCount 0).put Od.clientCountPtp 0).put Od.clientCountNtp 0).put Od.clientCountNts 0
  s.each (List.range 32) (·.showGrants ·)

/-! ### Violations (R412) -/

/-- The 40 octets of an entry, little-endian. -/
def vlogBytes (time cause port count addr srcPort : Nat) : List Byte :=
  leTs128 time ++ leBytes 1 cause ++ leBytes 1 port ++
    leBytes 2 count ++ beBytes 16 addr ++ leBytes 2 srcPort ++ leBytes 2 0

/-- The Count of an entry's octets as its object holds them. -/
def vlogCount (v : Nat) : Nat := v / 256 ^ 21 % 256 + 256 * (v / 256 ^ 20 % 256)

/-- A cause of Table 12-10 noted against a sender and its record, and in the log. -/
def Dev.violation (s : Dev) (cause : Nat) (f : SvcF) (client : Option Nat) : Dev :=
  let s := match client with
    | some n => s.modClient n fun c => { c with violations := min 65535 (c.violations + 1) }
    | none => s
  let next := s.nat Od.vlogNext
  let newest := (next + 62) % 64
  let merge := match s.svc.vlog with
    | some v => v.addr == f.addr && v.srcPort == f.srcPort && v.cause == cause && s.since v.tick < ticksPerSec
    | none => false
  if merge then
    let v := s.nat (Od.vlogEntry newest)
    let c := vlogCount v
    let c' := min 65535 (c + 1)
    s.put (Od.vlogEntry newest)
      ((v : Int) + (((c' % 256 : Nat) : Int) - (c % 256 : Nat)) * 256 ^ 21 + (((c' / 256 : Nat) : Int) - (c / 256 : Nat)) * 256 ^ 20)
  else
    let s := s.put (Od.vlogEntry (next - 1)) (beNat (vlogBytes s.now0 cause f.port 1 f.addr f.srcPort))
    (s.put Od.vlogNext (next % 64 + 1 : Nat)).modSvc fun v =>
      { v with vlog := some { addr := f.addr, srcPort := f.srcPort, cause, tick := s.tick } }

/-! ### Admission (R407, R408) -/

/-- Whether the first `len` bits of two addresses agree. -/
def samePrefix (a b len : Nat) : Bool := a / 2 ^ (128 - len) == b / 2 ^ (128 - len)

/-- Whether an AccessEntry includes a kind (1 PTP, 2 NTP, 3 NTS) and holds an address. -/
def entryMatches (e kind addr : Nat) : Bool :=
  (e / 256 % 256).testBit (kind - 1) && e / 2 ^ 24 % 256 ≤ 128 && samePrefix (e / 2 ^ 32) addr (e / 2 ^ 24 % 256)

/-- Step 1 of R407. -/
def Dev.accessAllows (s : Dev) (kind addr : Nat) : Bool :=
  let es := (List.range (s.nat Od.accessEntries)).map fun j => s.nat (Od.accessEntry j)
  match es.find? (entryMatches · kind addr) with
  | some e => e / 2 ^ 16 % 256 == 0
  | none => s.nat Od.accessDefault == 0

/-- The global bucket brought up to date, in requests times 625,000,000. -/
def Dev.newTokens (s : Dev) : Nat :=
  let full := s.nat Od.newClientRate * ticksPerSec
  match s.svc.tokens with
  | some (n, k) => min full (n + s.nat Od.newClientRate * s.since k)
  | none => full

/-- What an admission comes to. -/
inductive Enrol where
  | ok (n : Nat)
  | refused
  | full
  deriving DecidableEq, Repr

/-- A new client with full buckets, its notice posted to M2. -/
def Dev.enrol (s : Dev) (kind inst : Nat) (f : SvcF) : Enrol × Dev :=
  if !s.accessAllows kind f.addr then (.refused, s.bump Od.admissionsRefused)
  else
    let have' := s.newTokens
    if have' < ticksPerSec then (.refused, s.bump Od.admissionsRefused)
    else
      let s := s.modSvc fun v => { v with tokens := some (have' - ticksPerSec, s.tick) }
      let n := firstGap 0 s.svc.clients
      if s.nat Od.clientCapacity ≤ n ∨ !f.indexOk then
        (.full, ((s.bump Od.tableFullDrops).flag Od.serviceSticky Bit.serviceSticky_TableFull).report 184 f.port)
      else
        let ms := msOf (s.rxTime 0 f)
        let burst := if kind = 1 then 4 else s.nat Od.ntpBurst
        let c : Client := {
          kind := kind, v6 := f.v6, port := f.port, inst := inst, addr := f.addr, srcPort := f.srcPort,
          tokens := burst * 1000000, last := ms, aux := (if kind = 1 then 8000000 else (ms + 2147483648) % 4294967296),
          aux2 := (if kind = 1 then ms else 0), admitTime := s.sec0 % 4294967296, age := s.svc.admitted }
        let s := ((s.setClient n (some c)).cacheUse n).modSvc fun v => { v with admitted := v.admitted + 1 }
        let s := s.pmcQueue 0x0801 s.svc.notices.length
        let s := if s.svc.notices.length < 65536 then s.modSvc fun v => { v with notices := v.notices ++ [n] }
          else ((s.bump Od.admitReviewLost).flag Od.serviceSticky Bit.serviceSticky_AdmitReviewLost).report 187 0
        (.ok n, s)

/-- The record of a sender, or its admission. -/
def Dev.clientOrAdmit (s : Dev) (kind inst : Nat) (f : SvcF) : Enrol × Dev :=
  match s.findClient kind inst f with
  | some n => (.ok n, s)
  | none => s.enrol kind inst f

/-- Whether a record is refused now; its frames are dropped and counted. -/
def Dev.isRefused (s : Dev) (n : Nat) : Bool :=
  match s.client n with
  | some c => c.refused
  | none => false

/-- M2 reviews the oldest notice (R408). -/
def Dev.admissionReview (s : Dev) : Dev :=
  match s.svc.notices with
  | [] => s
  | n :: rest =>
    let s := (s.pmcQueue 0x0801 s.svc.notices.length).modSvc fun v => { v with notices := rest }
    match s.client n with
    | none => s
    | some c =>
      let len := if c.v6 then 56 else 120
      let quota := s.nat (if c.v6 then Od.prefixQuotaV6 else Od.prefixQuotaV4)
      let same := s.svc.clients.filterMap fun p => match p.2 with
        | some d => if d.v6 = c.v6 ∧ samePrefix d.addr c.addr len then some (d.age, p.1) else none
        | none => none
      let older (a : Nat) : Nat := (same.filter fun q => q.1 < a).length
      if same.length ≤ quota then s.modClient n fun c => { c with reviewed := true }
      else
        s.each same fun s q =>
          if older q.1 < quota then s.modClient q.2 fun c => { c with reviewed := true }
          else
            let s := (s.endGrants q.2).modClient q.2 fun c =>
              { c with refused := true, admitTime := (s.sec0 + s.nat Od.blockTime) % 4294967296 }
            s.logInput 0x0A [q.2, s.nat Od.blockTime]

/-- b - a modulo 2^32 as a signed number (R404). -/
def signed32 (a b : Nat) : Int := untwos 32 ((b + 4294967296 - a % 4294967296) % 4294967296)

/-- Whether the scan of R409 frees a record. -/
def Dev.scanFrees (s : Dev) (c : Client) : Bool :=
  let idle := decide ((s.nat Od.clientIdleTime * 1000 : Nat) ≤ signed32 c.last s.ms0) &&
    (c.kind != 1 || decide ((s.nat Od.clientIdleTime * 1000 : Nat) ≤ signed32 c.aux2 s.ms0))
  if c.refused then decide (0 ≤ signed32 c.admitTime (s.sec0 % 4294967296))
  else idle && (c.kind != 1 || c.mask == 0)

/-- The background scan. -/
def Dev.clientScan (s : Dev) : Dev :=
  let gone := (s.svc.clients.filter fun p => match p.2 with
    | some c => s.scanFrees c
    | none => false).map (·.1)
  s.each gone fun s n => (s.freeClient n).bump Od.evictions

/-! ### Policing (R410) -/

/-- A bucket at time t ms: tokens, last time, rate as a fraction of 0.001 per s, burst; whether a request is served, and the
tokens left. -/
def police (tokens last t num den burst : Nat) : Bool × Nat :=
  let age := (t + 4294967296 - last) % 4294967296
  let n := min (burst * 1000000) (tokens + num * age / den)
  if 1000000 ≤ n then (true, n - 1000000) else (false, n)

/-- A Delay_Req of a client (R393). -/
def Dev.policeDelay (s : Dev) (n : Nat) (f : SvcF) : Bool × Dev :=
  match s.client n with
  | some c =>
    let t := msOf (s.rxTime 0 f)
    let l := c.logs.getD 2 0
    let (ok, k) := police c.tokens c.last t (2000 * 2 ^ (-l).toNat) (2 ^ l.toNat) 4
    (ok, s.modClient n fun c => { c with tokens := k, last := t })
  | none => (false, s)

/-- A Signaling request of a client. -/
def Dev.policeSignal (s : Dev) (n : Nat) (f : SvcF) : Bool × Dev :=
  match s.client n with
  | some c =>
    let t := msOf (s.rxTime 0 f)
    let (ok, k) := police c.aux c.aux2 t (s.nat Od.signalingRateLimit) 1 8
    (ok, s.modClient n fun c => { c with aux := k, aux2 := t })
  | none => (false, s)

/-- What policing makes of an NTP or NTS request. -/
inductive Policed where
  | serve
  | kiss
  | drop
  deriving DecidableEq, Repr

/-- An NTP or NTS request of a client. -/
def Dev.policeNtp (s : Dev) (n : Nat) (f : SvcF) : Policed × Dev :=
  match s.client n with
  | some c =>
    let t := msOf (s.rxTime 0 f)
    let (ok, k) := police c.tokens c.last t (s.nat Od.ntpRateLimit) 1 (s.nat Od.ntpBurst)
    let s := s.modClient n fun c => { c with tokens := k, last := t }
    if ok then (.serve, s)
    else if s.nat Od.kodInterval ≤ (t + 4294967296 - c.aux) % 4294967296 then
      (.kiss, ((s.modClient n fun c => { c with aux := t }).bump Od.ntpKodSent).flag Od.serviceSticky Bit.serviceSticky_KodSent)
    else (.drop, s.bump Od.ntpRateDrops)
  | none => (.drop, s)

end Sys2Proof.Machine
end

