-- ==== Sys2Proof/Machine/Reset.lean ====
section
/-! DEFINITION. The resets of Table 17-1: what every island but AON, KEY and GTH loses, and what a power-on of the backup
rail loses beside (R118, R477, R524, row 1 of Table 1-6). -/

namespace Sys2Proof.Machine

/-- Values in flash, in OTP or wired into the chip: they outlast every reset (R524; log entry 30, DEDUCED). -/
def Od.permanent (k : Nat) : Bool :=
  let i := k / 256
  i == 0x1018 || i == 0x1020 || i == 0x1022 || i == 0x5010 || i == 0x5030 || i == 0x5031 || k / 65536 == 0x64 ||
    k == Od.journalNextOpId || k == Od.jtagIdcode || k == Od.slotsUsed

/-- Values of the AON, KEY and GTH islands: they outlast every reset but that of the backup rail
(log entry 30, DEDUCED). -/
def Od.warm (k : Nat) : Bool :=
  let a := k / 65536
  Od.permanent k || a == 0x11 || a == 0x50 || a == 0x54 || k / 256 == 0x1F80

/-- The live bits that a reset leaves standing: die temperature and supply. -/
def liveAfterReset : Nat := setBit (setBit 0 (sourceBit 217)) (sourceBit 218)

/-- The collector after a reset of the other islands: its records, queue and windows stand; the live bits of the islands that
were reset fall, and the core watchdogs wait for their cores (R477, R488). -/
def Dev.resetCollector (s : Dev) : Dev :=
  let was := s.nat Od.faultLive
  let fell := (List.range 256).filter fun i => was.testBit (sourceBit i) && !liveAfterReset.testBit (sourceBit i)
  let s := s.each fell fun s i => s.modFrec i fun r => { r with quiet := s.tick }
  { s.put Od.faultLive (was &&& liveAfterReset : Nat) with flt := { s.flt with wdog := [], safeBy := [] } }

/-- A resynchronisation that a reset interrupts, or that was still to be restarted (R470). -/
def Dev.resyncToRestart (s : Dev) : Nat :=
  match s.acc.journal.find? (fun r => r.kind == 5 && !r.final) with
  | some r => r.id
  | none => s.pair.restartOf

/-- The update engine after a reset: the staging buffer is discarded (R531); what an interrupted update still has to do follows
from its record (R535). -/
def Update.afterReset (u : Update) : Update :=
  { kind := u.kind, at' := u.at', noActivate := u.noActivate, version := u.version }

/-- A pin that a reset does not move shows its level to filters that start anew. -/
def Pin.afterReset (p : Pin) (tick : Nat) : Pin := { raw := p.raw, since := tick }

/-- What the Keeper keeps over a reset: the model stored in flash, the levels of the pins, and over a reset that is not PORST_N
what the AON island counts of the oven (R179, R180). -/
def Keeper.afterReset (k : Keeper) (tick : Nat) (warm : Bool) : Keeper :=
  { stored := k.stored, ovenrdy := k.ovenrdy.afterReset tick, atomlock := k.atomlock.afterReset tick
    ovenFrom := if warm then k.ovenFrom else none, ovenHeldAt := if warm then k.ovenHeldAt else none
    ovenEndAt := if warm then k.ovenEndAt else none }

/-- Row 1 of Table 1-6 for a reset of cause 1 to 4; `held` where a pin or a rail still holds it. -/
def Dev.resetWarm (s : Dev) (cause : Nat) (held : Option Nat) : Dev :=
  let from' := s.md
  let restart := s.resyncToRestart
  let s := s.resetCollector
  let d : Dev :=
    { tick := s.tick
      aonTs0 := if s.running 0 then some (s.val72 0) else s.aonTs0
      aonFrom := if s.running 0 then s.tick else s.aonFrom
      od := s.od.filter fun p => Od.warm p.1
      mode := { held, since := s.tick, bootFrom := s.tick }
      acc := { journal := s.acc.journal, journalFlash := s.acc.journalFlash }
      flt := s.flt
      keep := s.keep.afterReset s.tick (cause != 1)
      pair := { restartOf := restart }
      power := { railsOut := s.power.railsOut }
      keys := s.keys.warmStart
      update := s.update.afterReset
      ageing := s.ageing
      free := s.free
      out := s.out }
  let d := ((d.put Od.powerState 0).put Od.powerQueued 0xFF).put Od.trimGated 0
  let d := if d.nat Od.powerRequestResult = 1 ∨ d.nat Od.powerRequestResult = 2 then d.put Od.powerRequestResult 0 else d
  let d := (d.put Od.lastResetCause cause).bump Od.resetCount
  (d.emit (.modeChange from' Mode.powerup 0)).aliveUpdate

/-- The backup rail rises: flash and OTP alone are kept (R524); the journal is rebuilt from flash (R84). -/
def Dev.resetCold (s : Dev) : Dev :=
  let d : Dev :=
    { tick := s.tick
      od := s.od.filter fun p => Od.permanent p.1
      mode := { held := some 1, since := s.tick, bootFrom := s.tick }
      acc := { journal := s.acc.journalFlash.map fun r => { r with flags := 1 }, journalFlash := s.acc.journalFlash }
      keep := s.keep.afterReset s.tick false
      keys := s.keys.coldStart
      update := s.update.afterReset
      ageing := s.ageing
      free := s.free
      out := s.out }
  let d := (d.put Od.lastResetCause 0).bump Od.resetCount
  (d.emit (.modeChange s.md Mode.powerup 0)).aliveUpdate

end Sys2Proof.Machine
end

