-- ==== Sys2Proof/Machine/Selection.lean ====
section
/-! DEFINITION. The Cinch's disagreement check, selector and Stitch (R155 to R166), and the audit of a return (R198). -/

namespace Sys2Proof.Machine

/-! ### Disagreement (R158 to R161) -/

/-- Whether c is compared with the selected reference m. -/
def Dev.inScope (s : Dev) (m c : Nat) : Bool :=
  c != m && s.eligible c && s.nat (Od.qlEffective c) == s.nat (Od.qlEffective m) &&
    (s.nat Od.disagreeScope == 1 || s.nat (Od.priority c) == s.nat (Od.priority m))

/-- The comparisons that have Disagreement live. -/
def Dev.raisedComps (s : Dev) : List Nat := (s.sel.comps.filter (·.raised)).map (·.ref)

/-- Whether learning is suspended by a comparison (R161). -/
def Dev.disagreementOpen (s : Dev) : Bool := s.sel.comps.any fun c => c.raised || 0 < c.beyond

/-- DisagreeWith, ArbiterRef and ArbiterVerdict describe the lowest-ranked of the comparisons that remain. -/
def Dev.showComps (s : Dev) : Dev :=
  let show' (s : Dev) (c a v : Nat) : Dev := ((s.put Od.disagreeWith c).put Od.arbiterRef a).put Od.arbiterVerdict v
  match s.lowest s.raisedComps with
  | some c =>
    match s.sel.comps.find? (·.ref == c) with
    | some x => show' s c x.arb x.verdict
    | none => s
  | none => show' s 0xFF 0xFF 0

/-- The comparisons with the references of a list end; `m` is the selected reference they belong to. -/
def Dev.endComps (s : Dev) (m : Nat) (out : List Nat) : Dev :=
  let gone := s.sel.comps.filter fun c => out.contains c.ref
  if gone.isEmpty then s
  else
    let s := { s with sel := { s.sel with comps := s.sel.comps.filter fun c => !out.contains c.ref } }
    let s := s.each (gone.filter (·.raised)) fun s c => s.unflag (Od.refLive c.ref) Bit.refLive_Disagreement
    let s := if s.raisedComps.isEmpty then s.unflag (Od.refLive m) Bit.refLive_Disagreement else s
    s.showComps

/-- Comparisons end with references that are no longer compared. -/
def Dev.pruneComps (s : Dev) (m : Nat) : Dev :=
  s.endComps m ((s.sel.comps.map (·.ref)).filter fun c => !s.inScope m c)

/-- One comparison at the end of an interval (R158). -/
def Dev.compare (s : Dev) (m c : Nat) : Dev :=
  let d := (s.num (Od.freqOffset m) - s.num (Od.freqOffset c)).natAbs
  let old := (s.sel.comps.find? (·.ref == c)).getD { ref := c, start := s.sel.interval }
  let n := s.nat Od.disagreeCount
  let beyond := s.nat Od.disagreeThreshold < d
  let new := if beyond then { old with beyond := old.beyond + 1, under := 0 } else { old with beyond := 0, under := old.under + 1 }
  let rises := beyond && n ≤ new.beyond && !old.raised
  let falls := !beyond && n ≤ new.under && old.raised
  let put (s : Dev) (x : Comp) : Dev :=
    { s with sel := { s.sel with comps := s.sel.comps.filter (·.ref != c) ++ [x] } }
  if rises then
    let s := put s { new with raised := true }
    let s := s.each [m, c] fun s r =>
      (s.flag (Od.refLive r) Bit.refLive_Disagreement).flag (Od.refSticky r) Bit.refSticky_Disagreement
    s.flag Od.selectSticky Bit.selectSticky_DisagreementRaised
  else if falls then
    let s := put s { new with raised := false }
    let s := s.unflag (Od.refLive c) Bit.refLive_Disagreement
    if s.raisedComps.isEmpty then s.unflag (Od.refLive m) Bit.refLive_Disagreement else s
  else put s new

/-- The arbiter and its verdict while Disagreement is live (R159, R160). -/
def Dev.arbitrate (s : Dev) (m c : Nat) : Dev :=
  let others := (List.range 16).filter fun a => a != m && a != c && s.eligible a && s.freqCovers a s.sel.interval
  let (s, a, fa) := match s.lowest others with
    | some a => (s, a, s.num (Od.freqOffset a))
    | none => (s.flag Od.selectSticky Bit.selectSticky_ArbiterNone, 0x10, (0 : Int))
  let out (r : Nat) : Bool := s.nat (Od.freqTolerance r) ≤ (s.num (Od.freqOffset r) - fa).natAbs
  let v := if out m then 1 else if out c then 2 else 3
  let judged (x : Comp) : Comp := if x.ref = c then { x with arb := a, verdict := v } else x
  let s := { s with sel := { s.sel with comps := s.sel.comps.map judged } }
  let s := s.showComps
  if v = 1 then s.verdictOn m else if v = 2 then s.verdictOn c else s

/-! ### The Keeper under a disagreement (R161) -/

/-- The objects that hold the Keeper's model. -/
def modelObjs : List Nat := [Od.modelState, Od.modelPoints, Od.modelOffset, Od.modelAgeing, Od.modelTempCoef,
  Od.modelAnchorTime, Od.modelAnchorTemp, Od.modelUpdated, Od.modelFreqUnc, Od.modelAgeingUnc, Od.modelTempUnc]

/-- The model as it stands as a DisagreeInterval begins. -/
def Dev.noteModel (s : Dev) : Dev :=
  let x : ModelAt :=
    { objs := modelObjs.map (fun o => (o, s.num o)), points := s.keep.points, restored := s.keep.restored, t := s.tsNow 0 }
  s.modKeep fun k => { k with modelAt := some x }

/-- The model as the first exceeding interval found it: nothing learned within that interval stays, and what the interval has
added to the point being formed and to the anchor does not count. -/
def Dev.recallModel (s : Dev) : Dev :=
  match s.keep.modelAt with
  | none => s
  | some x =>
    let s := s.each x.objs fun s p => s.put p.1 p.2
    s.modKeep fun k => { k with
      points := x.points, restored := x.restored, barred := true
      recent := k.recent.map fun e => if x.t ≤ e.t then { e with ok := false } else e }

/-- The end of a DisagreeInterval (R158). -/
def Dev.disagreeEnd (s : Dev) : Dev :=
  let start := s.sel.interval
  let was := s.disagreementOpen
  let s := match s.selected with
    | none => s
    | some m =>
      let s := s.pruneComps m
      if start < s.sel.changed then s
      else
        let cs := (List.range 16).filter fun c => s.inScope m c && s.freqCovers m start && s.freqCovers c start
        let s := (s.each cs fun s c => s.compare m c).showComps
        match s.lowest s.raisedComps with
        | some c => s.arbitrate m c
        | none => s
  let s := { s with sel := { s.sel with interval := s.tick } }
  if s.disagreementOpen then (if was then s else s.recallModel) else s.noteModel

/-- Whether the present DisagreeInterval has ended. -/
def Dev.intervalOver (s : Dev) : Bool := s.nat Od.disagreeInterval * ticksPerSec ≤ s.since s.sel.interval

/-! ### The Stitch (R162 to R166) -/

/-- What a return writes for its audit (R198). -/
def Dev.returnAudit (s : Dev) (m : Nat) (x : Int) : Dev :=
  let s := (s.put Od.returnOffset (toI64 (to16 x))).flag Od.holdoverSticky Bit.holdoverSticky_HoldoverLeft
  let s := if s.nat Od.holdoverState = 0 then s
    else s.put Od.lastHoldoverDuration (min sat32 (s.holdTau / secondN))
  { s with sel := { s.sel with audit := some (m, x) } }

/-- The audit itself, after the EBE step of the same update. -/
def Dev.finishAudit (s : Dev) : Dev :=
  match s.sel.audit with
  | none => s
  | some (m, x) =>
    let b := s.nat (Od.bound 0)
    let s := { s.put Od.boundAtReturn b with sel := { s.sel with audit := none } }
    if satAdd b (s.nat (Od.refBound m)) * 65536 < x.natAbs ∧ satAdd b (s.nat (Od.refBound m)) ≠ sat64 then
      (s.flag Od.holdoverSticky Bit.holdoverSticky_BoundViolated).report 4 m
    else s

/-- The new o_stitch and what a Stitch shows. -/
def Dev.stitchTo (s : Dev) (o : Int) : Dev :=
  let was := s.sel.stitch
  let s := { s with sel := { s.sel with stitch := o, stitchedAt := some s.tick } }
  ((((s.put Od.stitchRemaining (toI64 (to16 o))).put Od.lastStitchOffset (toI64 (to16 (o - was)))).bump
    Od.stitchCount).put Od.lastStitchTime s.now0).flag Od.selectSticky Bit.selectSticky_Stitched

/-- TS_0 is aligned (R559): packet service may begin with it (R116). -/
def Dev.nowAligned (s : Dev) : Dev := (s.modScale 0 fun c => { c with aligned := true }).serviceUpdate

/-- TS_0 is set to the selected reference's time, with no offset absorbed (R115, R162). -/
def Dev.alignInitial (s : Dev) (x : Int) : Dev :=
  let s := (s.setTs 0 ((s.val72 0 : Int) + x * 2 ^ 40).toNat).clearStitch
  ((s.put (Od.timeOrigin 0) 3).flag (Od.tsSticky 0) Bit.tsSticky_InitialAligned).nowAligned

/-- Reference m has just been selected: TS_0 is set, stepped, or the offset is absorbed (R32, R115, R162, R163);
a reference of frequency alone never sets time (R117). -/
def Dev.attach (s : Dev) (m : Nat) (old : Option Nat) : Dev :=
  -- an offset of a reference not measured yet is free (log entry 22)
  let (x, s) := match s.offsetNow 0 m with
    | some x => (x, s)
    | none => s.fresh
  let uOld := if old.isSome then s.sel.uOld.getD 0 else 0
  let s := { s with sel := { s.sel with uOld := none } }
  let time := s.isTimeRef m
  let back := s.nat (Od.incOwner 0) = 3
  if s.md = Mode.acquire ∧ !s.mode.wasLocked ∧ !(s.scale 0).aligned ∧ time then s.alignInitial x
  else if back then
    let big := time && s.nat Od.stepThreshold * 65536 < x.natAbs
    -- a step needs its record: without room for one it is declined (R85; log entry 75)
    if big && s.bit Od.stepPermit 0 && s.journalFree then
      let s := (s.stepTs 0 ((s.val72 0 : Int) + x * 2 ^ 40).toNat).clearStitch.nowAligned
      s.returnAudit m x
    else
      let s := s.when big (·.flag (Od.tsSticky 0) Bit.tsSticky_StepDeclined)
      (s.stitchTo (x - uOld)).returnAudit m x
  else s.stitchTo (x - uOld)

/-- The pull of R164 for one update. -/
def Dev.pull (s : Dev) : Dev :=
  let o := s.sel.stitch
  let full : Int := (s.nat Od.slopeLimit * 4294967296 / 128000 : Nat)
  match s.selected with
  | some m =>
    if o = 0 ∨ s.sel.stitchedAt = some s.tick ∨ s.boundOwner ≠ 2 ∨ !s.isTimeRef m then s
    else
      let left := if o.natAbs ≤ full.natAbs then 0 else if 0 < o then o - full else o + full
      let s := { s.put Od.stitchRemaining (toI64 (to16 left)) with sel := { s.sel with stitch := left } }
      s.when (left == 0) (·.flag Od.selectSticky Bit.selectSticky_StitchPullDone)
  | none => s

/-! ### The selector (R155, R157) -/

/-- Why a reference that is no longer eligible is left. One still AVAILABLE or SELECTED is left for its QL or, as the list of R155
names no cause of its own for it, for a Priority of 15 (log entry 80). -/
def Dev.leaveCause (s : Dev) (m : Nat) : Nat :=
  match s.nat (Od.refState m) with
  | 0 => 8
  | 6 => 1
  | 5 => if s.sel.arbOut = some m then 6 else 2
  | _ => 3

/-- The target of the selector and its cause. -/
def Dev.target (s : Dev) (el : List Nat) : Option Nat × Nat :=
  let best := s.lowest el
  let f := s.nat Od.forceRef
  if f ≠ 0xFF ∧ el.contains f then (some f, 7)
  else
    match s.selected with
    | none => (best, if s.nat (Od.incOwner 0) = 3 then 9 else 10)
    | some m =>
      if !el.contains m then (best, s.leaveCause m)
      else
        let drift := el.filter fun c => c != m && s.rank c / 256 ≤ s.rank m / 256
        match (if s.bit (Od.refLive m) Bit.refLive_Suspect then s.lowest drift else none), best with
        | some c, _ => (some c, 5)
        | none, some b =>
          if s.nat (Od.qlEffective b) < s.nat (Od.qlEffective m) then (some b, 3)
          else if s.on Od.revertive ∧ s.rank b < s.rank m then (some b, 4)
          else (some m, 0)
        | none, none => (some m, 0)

/-- The reference that was selected is left: rows 6 and 7 where it is still SELECTED. -/
def Dev.deselect (s : Dev) (m cause : Nat) : Dev :=
  let susp := s.bit (Od.refLive m) Bit.refLive_Suspect
  let s := if s.nat (Od.refState m) ≠ 3 then s
    else if susp then s.moveRef m 4 [Bit.refSticky_Deselected, Bit.refSticky_Suspect]
    else s.moveRef m 2 [Bit.refSticky_Deselected]
  let s := s.when (cause == 5) (·.flag (Od.refSticky m) Bit.refSticky_DriftMove)
  s.endComps m (s.sel.comps.map (·.ref))

/-- A change of SelectedRef (R155, R162). -/
def Dev.switchTo (s : Dev) (dst : Option Nat) (cause : Nat) : Dev :=
  let old := s.selected
  let s := match old with
    | some m => s.deselect m cause
    | none => s
  let fromTime := match old with
    | some m => s.isTimeRef m
    | none => true
  let s := match dst with
    | some m => if !s.isTimeRef m ∧ (fromTime ∨ old ≠ some m) then s.latchLast 0 else s
    | none => s
  let s := ((s.put Od.selectedRef (dst.getD 0xFF)).bump Od.switches).put Od.lastSwitchTime s.now0
  let s := ((s.put Od.lastSwitchFrom (old.getD 0xFF)).put Od.lastSwitchCause cause).flag Od.selectSticky
    Bit.selectSticky_Switched
  let s := { s with sel := { s.sel with changed := s.tick, arbOut := none } }
  let s := match dst with
    | some m => (s.moveRef m 3 [Bit.refSticky_Selected]).bump (Od.selectCount m)
    | none => s.endLock 0
  let s := match dst with
    | some m =>
      let s := s.attach m old
      match (s.rr m).utc with
      | some o => s.offerUtc o
      | none => s
    | none => s
  -- the selected reference left SELECTED: the event of rows 17 and 18
  if old.isSome then s.post (.refLeft dst.isSome) else s

/-- The selector of one update. Where the target has taken another row at this update, no row of it may follow (R152): the engine
leaves a reference that is not eligible for the best that has taken none, and else waits for the next update (log
entry 80). -/
def Dev.select (s : Dev) : Dev :=
  let el := (List.range 16).filter s.eligible
  let s := s.when el.isEmpty (·.flag Od.selectSticky Bit.selectSticky_NoCandidate)
  let f := s.nat Od.forceRef
  let s := s.when (f != 0xFF && !el.contains f) (·.flag Od.selectSticky Bit.selectSticky_ForceRefused)
  let (dst, cause) := s.target el
  if dst = s.selected then s
  else
    let barred := fun m => s.rowTaken m
    match s.selected, dst with
    | some m, some t =>
      if el.contains m then if barred m || barred t then s else s.switchTo (some t) cause
      else if barred t then s.switchTo (s.lowest (el.filter fun c => !barred c)) cause
      else s.switchTo (some t) cause
    | none, some t => if barred t then s else s.switchTo (some t) cause
    | _, none => s.switchTo none cause

/-- Eligible, QlBelowMin and QlDnu of every enabled reference as the update leaves them (R154). -/
def Dev.showEligibles (s : Dev) : Dev := s.each ((List.range 16).filter fun m => s.on (Od.refEnable m)) (·.showEligible ·)

/-- The steering TS_0 is given: on a standby, that of the active's logged INC (R452). -/
def Dev.steering0 (s : Dev) : Int :=
  if s.nat (Od.incOwner 0) = 4 then
    match Tab.find? s.pair.logged 0 with
    | some i => steerOf i
    | none => s.num (Od.freqNow 0)
  else s.num (Od.freqNow 0)

/-- The prediction the monitors go by: on a standby the active's, as TERMS carries it. -/
def Dev.predictNow (s : Dev) : Int := s.theirs.elim (s.predict (s.tsNow 0)) (·.pred)

/-- Steps 2 to 5 of R156. -/
def Dev.cinchStep (s : Dev) : Dev :=
  let d := s.steering0 - s.predictNow
  let s := { s with sel := { s.sel with diffs := (d :: s.sel.diffs).take 2048 } }
  let runs := s.cinchOn
  let s := s.each ((List.range 16).filter fun m => s.on (Od.refEnable m)) fun s m =>
    let s := ((s.lossNow m).monitor m).takeQl m
    if runs then s.refRows m else s
  if runs then
    let s := if s.intervalOver then s.disagreeEnd else s
    let s := match s.selected with
      | some m => s.pruneComps m
      | none => s
    let s := s.select
    let s := s.pull
    -- R559
    let s := match s.selected with
      | some m => if s.nat (Od.incOwner 0) = 2 ∧ s.isTimeRef m ∧ !(s.scale 0).aligned then s.nowAligned else s
      | none => s
    s.showEligibles
  else s.showEligibles

end Sys2Proof.Machine
end

