-- ==== Sys2Proof/Machine/Servo.lean ====
section
/-! DEFINITION. The Rein (R109 to R114, R123): one loop for each scale, the slew under software (R102), the judgment of
lock, and the Keeper's learning (R185, R187). -/

namespace Sys2Proof.Machine

/-! ### Gains (R109, R112) -/

/-- π × 10^36. -/
def pi36 : Nat := 3141592653589793238462643383279502884

/-- natural_freq of the loop of scale n, in µHz (R112). -/
def Dev.naturalFreq (s : Dev) (n : Nat) : Nat :=
  if n = 0 ∧ s.on Od.natFreqAuto then
    match s.selected with
    | some m =>
      if m < 8 then s.nat Od.natFreqPhysical else if m < 10 then s.nat Od.natFreqGnss
      else if m < 14 then s.nat Od.natFreqPtp else s.nat Od.natFreqSynce
    | none => s.nat (Od.servoNaturalFreq 0)
  else s.nat (Od.servoNaturalFreq n)

/-- kp × u: in 2^-32 of 0.001 ppt, for u in 2^-32 ns; kp = 4 π ζ f (f in Hz, so 10^-6 of µHz; ζ in 0.001). -/
def Dev.propOf (s : Dev) (n : Nat) (u : Int) : Int :=
  rdiv (u * (4 * pi36 * s.nat (Od.servoDamping n) * s.naturalFreq n : Nat)) (1000 * 10 ^ 36 : Nat)

/-- ki × u: ki = 4 π² f² / 128. -/
def Dev.stepOf (s : Dev) (n : Nat) (u : Int) : Int :=
  let f := s.naturalFreq n
  rdiv (u * (4 * pi36 * pi36 * f * f : Nat)) (128 * 1000000 * 10 ^ 72 : Nat)

/-- SlopeLimit as steering, in 2^-32 of 0.001 ppt: 1 ps/s is 1,000 units of 0.001 ppt. -/
def Dev.slope (s : Dev) : Int := s.num Od.slopeLimit * 1000 * fine

/-! ### Lock (R114) -/

/-- A lock declared for scale n. -/
def Dev.lockAchieved (s : Dev) (n : Nat) : Dev :=
  let s := s.modScale n fun c => { c with locked := true, bad := 0 }
  let s := ((s.flag (Od.servoSticky n) Bit.servoSticky_LockAchieved).live (8 + n) n false).showServo n
  if n = 0 then
    -- P ends with the first lock after a failover, under the Keeper with its holdover (R246)
    let keeps := s.ebe.pairTerm && s.nat (Od.incOwner 0) == 3
    { s with keep := { s.keep with lockAt := s.tick }, ebe := { s.ebe with pairTerm := keeps } }
  else s

/-- A locked loop judged unlocked. -/
def Dev.lockLost (s : Dev) (n : Nat) : Dev :=
  ((s.endLock n).flag (Od.servoSticky n) Bit.servoSticky_LockLost).live (8 + n) n true

/-- The judgment at an update that computes u (2^-32 ns). -/
def Dev.judge (s : Dev) (n : Nat) (u : Int) : Dev :=
  let thr := s.nat (Od.lockThreshold n) * 65536
  let s := s.modScale n fun c => { c with
    dwell := if u.natAbs ≤ thr then c.dwell + 1 else 0
    bad := if 4 * thr < u.natAbs then c.bad + 1 else 0 }
  let c := s.scale n
  if !c.locked ∧ s.nat (Od.lockDwell n) * 128 < c.dwell then s.lockAchieved n
  else if c.locked ∧ 128 ≤ c.bad then s.lockLost n
  else s

/-- An update that computes no u ends the run towards a lock. -/
def Dev.noU (s : Dev) (n : Nat) : Dev := s.modScale n fun c => { c with dwell := 0 }

/-! ### One loop (R109) -/

/-- Steering y applied to scale n, for an integrator and a proportional term. -/
def Dev.applyLoop (s : Dev) (n : Nat) (prop : Int) : Dev :=
  let integ := (s.scale n).integ
  let y := integ + prop
  let s := s.modScale n fun c => { c with ys := (y :: c.ys).take 2048 }
  s.steer n (rdiv integ fine) (rdiv y fine)

/-- Whether x_meas of reference m is older than MeasStaleLimit of scale n, or absent. -/
def Dev.stale (s : Dev) (n m : Nat) : Bool :=
  match (s.rr m).meas.head? with
  | some e => s.nat (Od.measStaleLimit n) * ticksPerMs < s.since e.tick
  | none => true

/-- |u| of the present update kept for S of R239. -/
def Dev.noteU (s : Dev) (n : Nat) (u : Int) : Dev :=
  let k := s.keep.updates
  s.modScale n fun c => { c with us := (k, u.natAbs) :: c.us.filter fun e => k < e.1 + 2048 }

/-- The loop of scale n on reference m, u = x - o. -/
def Dev.trackLoop (s : Dev) (n m : Nat) (o : Int) : Dev :=
  match (if s.stale n m then none else s.offsetNow n m) with
  | none =>
    (((s.noU n).bump (Od.updatesMissed n)).flag (Od.servoSticky n) Bit.servoSticky_UpdateMissed).applyLoop n 0
  | some x =>
    let u := x - o
    let lim := s.num (Od.freqLimit n) * fine
    let i := (s.scale n).integ + s.stepOf n u
    let integ := clamp (-lim) lim i
    let p := s.propOf n u
    let prop := clamp (-s.slope) s.slope p
    let s := s.when (integ != i) (·.flag (Od.servoSticky n) Bit.servoSticky_FreqLimitHit)
    let s := s.when (prop != p) (·.flag (Od.servoSticky n) Bit.servoSticky_SlopeLimited)
    let s := (s.modScale n fun c => { c with integ := integ }).noteU n u
    let s := (s.put (Od.phaseError n) (toI64 (to16 u))).applyLoop n prop
    let s := if n = 0 then { s with sel := { s.sel with uOld := some u } } else s
    s.judge n u

/-- u computed only to judge lock while the Keeper steers (R166). -/
def Dev.judgeOnly (s : Dev) : Dev :=
  match s.selected with
  | none => s.endLock 0
  | some m =>
    match (if s.stale 0 m then none else s.offsetNow 0 m) with
    | none => s.noU 0
    | some x =>
      let u := x - s.sel.stitch
      (s.put (Od.phaseError 0) (toI64 (to16 u))).judge 0 u

/-- On a standby u is what the active's loop works on: it enters S and what a switch of the active absorbs (R162, R246). -/
def Dev.shadowLoop (s : Dev) : Dev :=
  match s.selected with
  | none => s
  | some m =>
    match (if s.stale 0 m then none else s.offsetNow 0 m) with
    | none => s
    | some x =>
      let u := x - s.sel.stitch
      let s := (s.noteU 0 u).put (Od.phaseError 0) (toI64 (to16 u))
      { s with sel := { s.sel with uOld := some u } }

/-- What the slew of R102 applies from this update on: d, in 2^-16 ns / 125, to be moved until the next; SlopeLimit × 1/128 s is
64 of that unit for each ps/s. As a frequency offset over 1/128 s it is d × 125 / 8 of 0.001 ppt. -/
def Dev.applySlew (s : Dev) (n : Nat) (d : Int) : Dev :=
  let c := s.scale n
  let extra := rdiv (incNom * d * 125) (8 * 1000000000000000)
  let base := (s.inc n : Int) - c.slewInc
  let s := s.modScale n fun c => { c with slew := c.slew - d, slewInc := extra }
  let s := s.put (Od.slewRemaining n) (rdiv (s.scale n).slew 125)
  let s := s.put (Od.freqNow n) (s.num (Od.freqSteer n) + rdiv (d * 125) 8)
  s.setInc n (base + extra).toNat

/-- The slew of R102 for one update. -/
def Dev.slewStep (s : Dev) (n : Nat) : Dev :=
  let c := s.scale n
  let full : Int := s.num Od.slopeLimit * 64
  if c.slew = 0 then (if c.slewInc = 0 then s else s.applySlew n 0)
  else if c.slew.natAbs ≤ full.natAbs then (s.applySlew n c.slew).flag (Od.tsSticky n) Bit.tsSticky_SlewDone
  else s.applySlew n (if 0 < c.slew then full else -full)

/-- TS_0's loop at an update. -/
def Dev.rein0 (s : Dev) : Dev :=
  match s.nat (Od.incOwner 0) with
  | 1 => s.slewStep 0
  | 2 =>
    let s := s.bump (Od.servoUpdates 0)
    match s.selected with
    | some m => s.trackLoop 0 m s.sel.stitch
    | none => (s.endLock 0).applyLoop 0 0
  | 3 =>
    let p := s.predict (s.tsNow 0)
    let s := (s.bump (Od.servoUpdates 0)).modScale 0 fun c => { c with integ := p * fine }
    (s.applyLoop 0 0).judgeOnly
  | 4 => if s.boundOwner = 2 then s.shadowLoop else s
  | _ => s

/-! ### REFERENCE scales (R122, R123) -/

/-- The mean of a loop's steering over the last 16 s. -/
def Scale.heldSteer (c : Scale) : Int := rdiv (sumI c.ys) (max 1 (c.ys.length : Int))

/-- A REFERENCE scale starts at the first measurement carried after its change (R122). -/
def Dev.startReference (s : Dev) (n m k : Nat) : Dev :=
  match (s.rr m).meas.head? with
  | some e =>
    if e.tick ≤ k then s
    else
      let x := (s.offsetNow 0 m).getD 0
      let v := if s.isTimeRef m then ((s.val72 0 : Int) + x * 2 ^ 40).toNat else s.val72 0
      let s := s.startTs n v incNom
      let s := s.modScale n fun c => { c with await := none, integ := 0, ys := [], us := [] }
      let s := ((s.put (Od.freqSteer n) 0).put (Od.freqNow n) 0).endLock n
      let s := (s.modEbr n fun b => { b with last := s.boundRest 0, lastAt := s.tick }).flag (Od.tsSticky n)
        Bit.tsSticky_Started
      s.when (s.isTimeRef m) fun s =>
        (s.put (Od.timeOrigin n) 3).flag (Od.tsSticky n) Bit.tsSticky_InitialAligned
  | none => s

/-- A REFERENCE scale whose reference has gone holds its mean steering (R123). -/
def Dev.holdReference (s : Dev) (n : Nat) : Dev :=
  let y := (s.scale n).heldSteer
  let s := (((s.put (Od.tsState n) 2).flag (Od.tsSticky n) Bit.tsSticky_RefHoldEntered).latchBound n).endLock n
  (s.modScale n fun c => { c with integ := y }).steer n (rdiv y fine) (rdiv y fine)

/-- The phase a REFERENCE scale holds against reference m: none against a time reference, and that of its first u against a
frequency reference (R111, R122). -/
def Dev.heldPhase (s : Dev) (n m : Nat) : Int × Dev :=
  if s.isTimeRef m then (0, s)
  else match (s.scale n).phase0, s.offsetNow n m with
    | some p, _ => (p, s)
    | none, some x => (x, s.modScale n fun c => { c with phase0 := some x })
    | none, none => (0, s)

/-- A loop on a frequency reference that has been away takes its edges as those nearest to the phase it held, for nothing counted
periods meanwhile (R111, R123). -/
def Dev.rewrap (s : Dev) (n m : Nat) : Dev :=
  match (s.scale n).phase0, s.offsetNow n m with
  | some p, some x =>
    let f := s.refPeriodFreq m
    let k := rdiv ((x - p) * f) second
    s.modScale n fun c => { c with phase0 := some (p + rdiv (k * second) f) }
  | _, _ => s

/-- The reference of a HOLDING scale is back (R105, R123). -/
def Dev.resumeReference (s : Dev) (n m : Nat) : Dev :=
  let s := if s.isTimeRef m then s else s.rewrap n m
  let x := (s.offsetNow n m).getD 0
  let big := s.isTimeRef m && s.nat Od.stepThreshold * 65536 < x.natAbs
  let s := (s.put (Od.tsState n) 1).modEbr n fun b => { b with
    last := let v := s.nat (Od.bound n); if v = sat64 then sat64 else v - s.nat (Od.termInterval n)
    lastAt := s.flt.lastUpdate }
  if big && s.bit Od.stepPermit n && s.journalFree then s.stepTs n ((s.val72 n : Int) + x * 2 ^ 40).toNat
  else s.when big (·.flag (Od.tsSticky n) Bit.tsSticky_StepDeclined)

/-- The loop of a REFERENCE scale on reference m. -/
def Dev.trackN (s : Dev) (n m : Nat) : Dev :=
  let (o, s) := s.heldPhase n m
  s.trackLoop n m o

/-- The loop of a scale of TS_1 … TS_7 at an update. -/
def Dev.reinN (s : Dev) (n : Nat) : Dev :=
  let m := s.nat (Od.tsReference n)
  match s.nat (Od.incOwner n) with
  | 1 => if s.running n then s.slewStep n else s
  | 2 =>
    match (s.scale n).await with
    | some k => s.startReference n m k
    | none =>
      if !s.running n then s
      else
        let s := s.bump (Od.servoUpdates n)
        let st := s.nat (Od.refState m)
        let good := st = 2 ∨ st = 3
        if s.nat (Od.tsState n) = 2 then
          if good ∧ !s.stale n m then (s.resumeReference n m).trackN n m else s
        else if good then s.trackN n m
        else s.holdReference n
  | _ => s

/-- Every loop at an update (step 6 of R156). -/
def Dev.reinStep (s : Dev) : Dev := s.rein0.each [1, 2, 3, 4, 5, 6, 7] (·.reinN ·)

/-! ### Learning (R185, R186, R189, R190) -/

/-- The steering that holds TS_0, in 2^-32 of 0.001 ppt: the integrator, and on a standby what it applies, the active's INC with
the alignment trim (R189). -/
def Dev.heldSteer0 (s : Dev) : Int :=
  if s.nat (Od.incOwner 0) = 4 then rdiv (((s.inc 0 : Int) - incNom) * 1000000000000000 * fine) incNom
  else (s.scale 0).integ

/-- The conditions of R185 as they stand now, but for those on every update of an interval. A standby learns while its active is
locked (R189). -/
def Dev.mayLearn (s : Dev) : Bool :=
  let h := s.nat Od.learnHoldoff * ticksPerSec
  let locked := (s.nat (Od.incOwner 0) == 2 && (s.scale 0).locked) ||
    (s.md == Mode.follower && s.nat Od.shadowMode == Mode.locked)
  locked && !s.disagreementOpen && h ≤ s.since s.keep.lockAt && h ≤ s.since s.sel.changed && s.nat Od.loState == 2 &&
    !s.settling

/-- The Keeper at an update; `clean` where the update was neither slope limited nor missed. -/
def Dev.keeperStep (s : Dev) (clean : Bool) : Dev :=
  let fit := clean && !(s.on Od.tempCompEnable && s.tempStale)
  let w := s.num Od.anchorWindow * second
  let t := s.tsNow 0
  let u : Upd := { t, temp := s.num Od.tempInUse, integ := s.heldSteer0, ok := fit && s.mayLearn }
  let k := s.keep
  let k := { k with
    recent := u :: k.recent.filter fun e => t < e.t + w
    start := if k.n = 0 then t else k.start
    n := k.n + 1
    sumInteg := k.sumInteg + u.integ
    sumTemp := k.sumTemp + u.temp
    barred := k.barred || !fit }
  let s := { s with keep := k }
  (s.put Od.keeperPrediction (s.predict t))

/-- The determinant of a 3 × 3 matrix. -/
def det3 (a b c d e f g h i : Int) : Int := a * (e * i - f * h) - b * (d * i - f * g) + c * (d * h - e * g)

/-- A fit of m = s0 + A p + C q over points (p, q, m), as numerators over one denominator; A and C fixed to 0 where not
fitted. -/
structure Fit where
  den : Int
  s0 : Int
  a : Int
  c : Int
  /-- cofactors that give the standard errors of A and C -/
  va : Int
  vc : Int
  deriving DecidableEq, Repr

/-- The least-squares fit of R185. -/
def fitModel (ps : List (Int × Int × Int)) (fitA fitC : Bool) : Fit :=
  let n : Int := ps.length
  let sum (f : Int × Int × Int → Int) : Int := sumI (ps.map f)
  let p := sum (·.1)
  let q := sum (·.2.1)
  let m := sum (·.2.2)
  let pp := sum fun e => e.1 * e.1
  let pq := sum fun e => e.1 * e.2.1
  let qq := sum fun e => e.2.1 * e.2.1
  let pm := sum fun e => e.1 * e.2.2
  let qm := sum fun e => e.2.1 * e.2.2
  match fitA, fitC with
  | true, true =>
    ⟨det3 n p q p pp pq q pq qq, det3 m p q pm pp pq qm pq qq, det3 n m q p pm pq q qm qq, det3 n p m p pp pm q pq qm,
     n * qq - q * q, n * pp - p * p⟩
  | true, false => ⟨n * pp - p * p, m * pp - p * pm, n * pm - p * m, 0, n, 0⟩
  | false, true => ⟨n * qq - q * q, m * qq - q * qm, 0, n * qm - q * m, 0, n⟩
  | false, false => ⟨n, m, 0, 0, 0, 0⟩

/-- The square of a residual of a fit, over the square of its denominator. -/
def Fit.square (f : Fit) (e : Int × Int × Int) : Int :=
  let r := e.2.2 * f.den - f.s0 - f.a * e.1 - f.c * e.2.1
  r * r

/-- 3.89 × the root of a quotient. -/
def root389 (num den : Nat) : Nat := isqrt (num * 3890 * 3890 / max 1 (den * 1000000))

/-- A day in 2^-32 ns. -/
def dayTime : Int := 86400 * second

/-- What R185 fits over its points, newest first, at a time on TS_0; `trained` where the fit is that of a TRAINED model.
Temperatures are taken from their mean and times from the newest point; the values fitted are scaled by a day, so that A comes
out for a day. A system that has no one solution, as that of points at one time, keeps the mean with A and C at 0 (log
entry 82). -/
def Dev.fitPoints (s : Dev) (pts : List Point) (now : Int) (trained : Bool) : Refit :=
  let cnt : Int := pts.length
  let t0 := (pts.head?.map (·.t)).getD now
  let temps := pts.map (·.temp)
  let first := temps.headD 0
  let theta := rdiv (sumI temps) cnt
  let user := s.nat Od.ageingMode = 1
  let fitC := s.on Od.tempCompEnable && 1000 ≤ temps.foldl max first - temps.foldl min first
  let age := if user then s.num Od.ageingUser else 0
  let rel : List (Int × Int × Int) := pts.map fun e => (e.t - t0, e.temp - theta, e.m * dayTime - age * (e.t - t0))
  let f := fitModel rel (!user) fitC
  let f := if f.den = 0 then fitModel rel false false else f
  let day := (pts.zip rel).filter fun e => now ≤ e.1.t + dayTime
  let last := (sumI (day.map fun e => f.square e.2)).natAbs
  let all := (sumI (rel.map f.square)).natAbs
  let d := f.den.natAbs
  let dd := d * d * (dayTime.natAbs * dayTime.natAbs)
  let dof := (max 1 (cnt - 1 - (if user then 0 else 1) - (if fitC then 1 else 0))).natAbs
  let fitted : Nat × Nat × Nat :=
    (max (root389 last (day.length * dd)) (floorUy s.loClass),
     if user then s.nat Od.ageingUserUnc else root389 (all * f.va.natAbs) (dof * d * d * d),
     if fitC then root389 (all * f.vc.natAbs * 1000000) (dof * dd * d) else classUt s.loClass)
  let (uy, ua, ut) := if trained then fitted else s.untrained
  { fits := 16 ≤ pts.length || trained, s0 := rdiv f.s0 (f.den * dayTime), a := if user then age else rdiv f.a f.den,
    c := rdiv (f.c * 1000) (f.den * dayTime), anchor := t0, theta, uy, ua, ut }

/-- The end of a LearnInterval (R185, R186): M0 adds the point and fits anew; the next update writes what it finds. -/
def Dev.learn (s : Dev) : Dev :=
  let k := s.keep
  let n : Int := k.n
  let now := s.tsNow 0
  let next (s : Dev) : Dev := s.modKeep fun k => { k with n := 0, sumInteg := 0, sumTemp := 0, barred := false, start := now }
  if !s.mayLearn ∨ k.barred ∨ k.n = 0 then next (s.flag Od.keeperSticky Bit.keeperSticky_LearningPaused)
  else
    let hours : Int := let w := s.num Od.learnWindow; if w = 0 then (classWindow s.loClass : Int) else w
    let pt : Point := ⟨(k.start + now) / 2, rdiv k.sumTemp n, rdiv k.sumInteg (n * fine)⟩
    let pts := pt :: k.points.filter fun e => now ≤ e.t + hours * 3600 * second
    let trained := s.nat Od.learnMinPoints ≤ pts.length
    let reached := trained && s.nat Od.modelState != 3
    let s := s.when reached fun s =>
      (s.flag Od.keeperSticky Bit.keeperSticky_ModelTrained).modKeep fun k => { k with storeFrom := s.tick }
    let s := (s.put Od.modelState (if trained then 3 else 2)).put Od.modelPoints pts.length
    next (s.modKeep fun k => { k with points := pts, refit := some (s.fitPoints pts now trained) })

/-- The update at which what M0 fitted last is written; nothing is while the Keeper steers (R185, R197). -/
def Dev.writeRefit (s : Dev) : Dev :=
  match s.keep.refit with
  | none => s
  | some r =>
    let s := s.modKeep fun k => { k with refit := none }
    if s.nat (Od.incOwner 0) = 3 then s
    else
      let s := s.putUncertainties (r.uy, r.ua, r.ut)
      if r.fits then
        (((((s.put Od.modelOffset r.s0).put Od.modelAgeing r.a).put Od.modelTempCoef r.c).put Od.modelAnchorTime
          (tsNum r.anchor)).put Od.modelAnchorTemp r.theta).put Od.modelUpdated s.now0
      else s

end Sys2Proof.Machine
end

