-- ==== Sys2Proof/Machine/Pair.lean ====
section
/-! DEFINITION. Pair redundancy (chapter 14): the Buckle link, roles, the alignment trim, partner loss, divergence and
resynchronisation. -/

namespace Sys2Proof.Machine

/-! ### The link (R448 to R451) -/

/-- A Buckle frame has arrived with a good CRC. -/
def Dev.linkHeard (s : Dev) : Dev := { s with pair := { s.pair with frameAt := some s.tick, silent := false } }

/-- Whether Buckle frames mean anything to this engine (R471). -/
def Dev.paired (s : Dev) : Bool := s.on Od.pairEnable

/-- The gap or the bad frame found at a receiver: NAK of a range, and its counter (R449). -/
def Dev.nak (s : Dev) (first last counter : Nat) : Dev := (s.bump counter).tell 0x20 [first, last]

/-- A frame that counts in LinkSeq has arrived: whether it is in order. -/
def Dev.takeSeq (s : Dev) (seq : Nat) (crcOk : Bool) : Bool × Dev :=
  if !crcOk then (false, s.nak s.pair.seqIn s.pair.seqIn Od.linkCrcErrors)
  else
    let s := s.linkHeard
    if seq = s.pair.seqIn then (true, { s with pair := { s.pair with seqIn := (seq + 1) % 4294967296 } })
    else if seq < s.pair.seqIn then (false, s)
    else (false, s.nak s.pair.seqIn (seq - 1) Od.retransmits)

/-- An ACK frees frames up to a LinkSeq. -/
def Dev.ackUpTo (s : Dev) (seq : Nat) : Dev :=
  let left := s.pair.unacked.filter fun e => seq < e.seq
  let s := s.pmcQueue 0x0860 (keptUse s.pair.unacked)
  { s.put Od.retransmitBufferUse (keptUse left) with pair := { s.pair with unacked := left } }

/-- A NAK: the frames of the range that are still kept are sent again, with Retransmitted set. -/
def Dev.retransmit (s : Dev) (first last : Nat) : Dev :=
  s.each (s.pair.unacked.filter fun e => first ≤ e.seq && e.seq ≤ last) fun s e => s.buckle e.type e.fields 1 e.seq e.payload

/-- The PAIR lanes that are UP, as bits [3:0]. -/
def Dev.pairLanesUp (s : Dev) : Nat :=
  (List.range 4).foldl (fun m i => if s.nat (Od.laneState (16 + i)) = 3 then setBit m i else m) 0

/-- LanesInUse, LinkState and their fault at an epoch boundary (R450). -/
def Dev.takeLanes (s : Dev) : Dev :=
  let m := s.pairLanesUp
  let st := if m = 0 then 0 else if m = 15 then 1 else 2
  let s := ((s.put Od.lanesInUse m).put Od.linkState st).live 206 m (st == 2)
  s.when (st == 2) (·.flag Od.pairSticky Bit.pairSticky_LinkDegraded)

/-! ### Epochs (R452 to R455) -/

/-- The start of an epoch on TS_0. -/
def epochStart (e : Nat) : Int := e * second / 1024

/-- A divergence, as the standby declares it and the active records it (R468). -/
def Dev.diverge (s : Dev) (cause epoch : Nat) : Dev :=
  let s := { s with pair := { s.pair with diverged := true, matched := false } }
  let s := ((s.put Od.lastDivergenceCause cause).put Od.lastDivergenceEpoch epoch).put Od.digestRun 0
  if s.md = Mode.follower ∧ s.nat Od.pairState ≠ 5 then
    (((s.bump Od.divergenceCount).flag Od.pairSticky Bit.pairSticky_Divergence).report 200 cause).post (.divergence cause)
  else if s.nat Od.pairRole = 1 then s.put Od.pairState 3
  else s

/-- A resynchronisation run is complete: its last digests match (step 5 of Table 14-9, row 28). -/
def Dev.resyncConfirmed (s : Dev) : Dev :=
  let id := s.nat Od.resyncOpId
  let ms := s.since s.pair.runAt / ticksPerMs
  let s := (((s.jStep id 5).jEnd id 2).put Od.resyncStep 5).put Od.lastResyncDuration (min sat32 ms : Nat)
  let s := { s with pair := { s.pair with running := false } }
  ((s.put Od.pairState 2).flag Od.pairSticky Bit.pairSticky_Paired).post .resyncDone

/-- The digests of an epoch are compared once both are known (R455). -/
def Dev.compareDigest (s : Dev) (e : Nat) : Dev :=
  match Tab.find? s.pair.digests e, Tab.find? s.pair.theirs e with
  | some a, some b =>
    let p := { s.pair with
      digests := s.pair.digests.filter (·.1 != e), theirs := s.pair.theirs.filter (·.1 != e), matched := a == b }
    let s := ({ s with pair := p }.put Od.digestEpoch e).put Od.digestLast a
    if a == b then
      let s := s.bump64 Od.digestRun 1
      let s : Dev := if s.md = Mode.resync ∧ s.nat Od.resyncStep = 4 then
          let p := { s.pair with run := s.pair.run + 1 }
          { s with pair := p }
        else s
      if s.md = Mode.resync ∧ s.nat Od.resyncStep = 4 ∧ s.nat Od.resyncMatchEpochs ≤ s.pair.run then s.resyncConfirmed else s
    else if s.md = Mode.resync then
      { s.put Od.digestRun 0 with pair := { s.pair with run := 0 } }
    else s.diverge 1 e
  | _, _ => s

/-- The first 128 bits of SHA-256 (PRESUMED, log entry 90). -/
def sha128 (bs : List Byte) : Nat := Config.sha256 bs / 2 ^ 128

/-- d[e] from d[e-1] and what the writers of Table 14-6 have written in epoch e: the number of writes and the accumulator of each
that wrote (R455). -/
def digestOf (e prev : Nat) (ws : List (Nat × Nat × Nat)) : Nat :=
  let writer (w : Nat) : Nat × Nat := (ws.find? (·.1 == w)).elim (0, 0) (·.2)
  sha128 (beBytes 8 e ++ beBytes 16 prev ++
    (List.range 262).flatMap fun w => beBytes 2 w ++ beBytes 8 (writer w).1 ++ beBytes 16 (writer w).2)

/-- The digest of epoch e formed: sent, kept and compared. The active's goes with the number of the epoch's records. -/
def Dev.formDigest (s : Dev) (e : Nat) (ws : List (Nat × Nat × Nat)) : Dev :=
  let d := digestOf e s.pair.last ws
  let s := s.modPair fun p => { p with last := d, digests := ((e, d) :: p.digests).take 64 }
  let s := if s.nat Od.pairRole = 1 then s.sendSeq 0x11 [e, s.pair.logged', d] else s.tell 0x12 [e, d]
  s.compareDigest e

/-- The partner's digest of epoch e. -/
def Dev.takeDigest (s : Dev) (e d : Nat) : Dev :=
  { s with pair := { s.pair with theirs := ((e, d) :: s.pair.theirs).take 64 } }.compareDigest e

/-! ### Alignment trim (R460, R461) -/

/-- PcdSysTerm, as R230 gives the systematic term of a burnished device. -/
def Dev.pcdTerm (s : Dev) : Nat := sysTermOf (s.since s.pair.pcdAt / (3600 * ticksPerSec)) 0

/-- INC of scale n with the trim added to the logged INC (R453, R460). -/
def Dev.trimmedInc (s : Dev) (inc : Nat) : Nat := ((inc : Int) + rdiv (incNom * s.num Od.alignTrim) 1000000000000000).toNat

/-- 10^36. -/
def pi36Unit : Nat := 10 ^ 36

/-- One update of the alignment loop on a standby, whichever oscillator it has (R443): natural frequency 0.5 Hz, damping 1.0. -/
def Dev.alignStep (s : Dev) : Dev :=
  -- x in 2^-16 ns, as PairclkOffset carries it
  let x := rdiv (s.pair.measure - s.pair.peerMeasure) 2
  let u := fine16 x
  let kp := rdiv (u * (2 * pi36 : Nat)) (pi36Unit : Nat)
  let ki := rdiv (u * (pi36 * pi36 : Nat)) (128 * pi36Unit * pi36Unit : Nat)
  let integ := s.pair.integ + ki
  let xs := (x.natAbs :: s.pair.xs).take 2048
  let within := if x.natAbs * 1000 ≤ 5 * 65536 then s.pair.within + 1 else 0
  let s := s.modPair fun p => { p with integ, xs, within }
  let s := (s.put Od.pairclkOffset x).put Od.alignTrim (toI64 (rdiv (integ + kp) fine))
  let s := s.put Od.pcdSysTerm s.pcdTerm
  -- PairclkAsymUnc is in fs: 65,536 units to 1,000,000 fs
  let term := cdiv (s.nat Od.pairclkAsymUnc * 65536 + 2000000 * (maxN xs + 2 * s.pcdTerm)) 2000000
  let out := 656 < term
  let s := s.put Od.pairAlignTerm (min 656 term : Nat)
  let st := if out then 3 else if 128 ≤ within then 2 else 1
  let s := (s.put Od.pairAlignState st).live 203 0 out
  let s := s.when out (·.flag Od.pairSticky Bit.pairSticky_AlignOutOfRange)
  let s := s.each (List.range 8) fun s n =>
    match Tab.find? s.pair.logged n with
    | some inc => s.setIncOne n (s.trimmedInc inc)
    | none => s
  -- step 4 of Table 14-9
  if s.md = Mode.resync ∧ s.pair.running ∧ s.nat Od.resyncStep = 3 ∧ st = 2 then
    ((s.jStep (s.nat Od.resyncOpId) 4).put Od.resyncStep 4).modPair fun p => { p with stepAt := s.tick, run := 0 }
  else s

/-- Whether the alignment loop runs: a standby whose resynchronisation has set its time. -/
def Dev.aligning (s : Dev) : Bool := s.md == Mode.follower || (s.md == Mode.resync && s.pair.running && 1 ≤ s.nat Od.resyncStep)

/-- An INC of the log takes effect, with the trim added (R453). -/
def Dev.takeInc (s : Dev) (n inc : Nat) : Dev :=
  (s.modPair fun p => { p with logged := Tab.insert (Tab.erase p.logged n) n inc }).setIncOne n (s.trimmedInc inc)

/-- The INC records whose tick has come, in the order they came. -/
def Dev.runIncs (s : Dev) : Dev :=
  if s.pair.incs.isEmpty then s
  else
    let due := s.pair.incs.filter (·.1 ≤ s.tick)
    (s.modPair fun p => { p with incs := p.incs.filter (s.tick < ·.1) }).each due fun s e => s.takeInc e.2.1 e.2.2

/-! ### Health and partner loss (R463 to R465) -/

/-- A CRITICAL source is live in the collector. -/
def Dev.criticalLive (s : Dev) : Bool := s.flt.recs.any fun p => p.2.active && p.2.level == 4 && s.isLive p.1

/-- The standby is healthy (R464). -/
def Dev.healthy (s : Dev) : Bool :=
  s.md == Mode.follower && s.pair.matched && s.nat Od.pairAlignState != 3 && !s.criticalLive && s.nat Od.loState != 4

/-- What confirms partner loss (R463). -/
def Dev.lossConfirmed (s : Dev) : Bool :=
  let left := match s.pair.leaving with
    | some t => decide (t ≤ s.tsNow 0)
    | none => false
  left || (s.pair.silent && s.nat Od.aliveLossTime * ticksPerUs ≤ s.since s.pair.peerAt)

/-- Partner loss is confirmed (R463, R464, rows 29 to 31). -/
def Dev.partnerLost (s : Dev) : Dev :=
  if s.md = Mode.follower then
    if s.nat Od.pairState = 5 then s
    else if s.healthy ∧ s.on Od.failoverPermit then s.post (.failover true)
    else
      (((s.flag Od.pairSticky Bit.pairSticky_FailoverDeclined).flag Od.pairSticky Bit.pairSticky_PartnerLost).put
        Od.pairState 5).live 202 0 true
  else if s.md = Mode.resync then
    let s := if s.pair.running then s.jEnd (s.nat Od.resyncOpId) 3 else s
    { s with pair := { s.pair with running := false, failedAt := some s.tick } }.post (.partnerGone (s.on Od.soloStart))
  else if s.nat Od.pairRole = 1 then { s.put Od.pairState 3 with pair := { s.pair with hello := none } }
  else s

/-- A reset by row 1 on the partner's agreement (R446, R447): its code in LastResetCause is free, as Table 17-1 has none for
it (log entry 29). -/
def Dev.resetRow1 (s : Dev) : Dev :=
  let (x, s) := s.fresh
  (s.resetWarm 2 none).put Od.lastResetCause (x % 5)

/-! ### Resynchronisation (R469, R470) -/

/-- Limit of the step after the last one completed, in ticks (Table 14-9). -/
def Dev.resyncLimit (s : Dev) : Nat :=
  let ms := match s.nat Od.resyncStep with
    | 0 => 200
    | 1 => (304 + s.nat Od.appDramSize) * 1048576 * 18 / (10000 * max 1 (s.nat Od.resyncCopyRate))
    | 2 => 20
    | 3 => 9000
    | _ => 1000 * s.nat Od.resyncMatchEpochs / 1024
  ms * ticksPerMs

/-- A step of the run is complete. -/
def Dev.resyncStepDone (s : Dev) (n : Nat) : Dev :=
  { (s.jStep (s.nat Od.resyncOpId) n).put Od.resyncStep n with pair := { s.pair with stepAt := s.tick } }

/-- Step 1: TS_0 is set to the active's time, which lies `lead` (2^-32 ns) ahead of it, and the trim starts. -/
def Dev.linkResync (s : Dev) (lead : Int) : Dev :=
  let s := (s.setTs 0 ((s.val72 0 : Int) + lead * 2 ^ 40).toNat).modScale 0 fun c => { c with aligned := true }
  let p := { s.pair with integ := 0, xs := [], within := 0 }
  ({ s with pair := p }.put Od.pairAlignState 1).resyncStepDone 1

/-- A run of a step longer than its limit ends it. -/
def Dev.resyncFailed (s : Dev) : Dev :=
  { s.jEnd (s.nat Od.resyncOpId) 3 with pair := { s.pair with running := false, failedAt := some s.tick } }

/-! ### Writes of area 5C (R467, R471) -/

def Dev.pairCheck (s : Dev) (_w : Wr) (k : Nat) (v : Int) : Status :=
  if k = Od.pairEnable then need (!(v == 0 && s.inMode [Mode.follower, Mode.resync])) .state
  else if k = Od.roleExchangeAt then
    firstBad [need (s.nat Od.pairRole == 1 && s.nat Od.pairState == 2) .state,
      need (s.tsNow 0 + 2 * second / 1024 ≤ tsTime v.toNat) .range]
  else .ok

def Dev.pairAct (s : Dev) (_w : Wr) (k : Nat) (v : Int) : Dev :=
  if k = Od.pairSticky then s.clearBits k v
  else if k = Od.pairEnable then
    let s := s.put k v
    if v = 0 then
      let s := (s.put Od.pairState 0).put Od.pairRole 0
      let s := (s.modPair fun p => { p with hello := none, waiting := none }).live 202 0 false
      -- an engine held in WARMUP takes row 11 (R442)
      if s.md = Mode.warmup ∧ s.mode.ready then s.post .oscReady else s
    else s
  else if k = Od.roleExchangeAt then
    ((s.put Od.roleExchangeResult 1).modPair fun p => { p with exchange := some (tsTime v.toNat, false) }).tell 0x42 [v.toNat]
  else s.put k v

end Sys2Proof.Machine
end

