-- ==== Sys2Proof/Machine/Power.lean ====
section
/-! DEFINITION. The power controller (R498 to R511): requests, block answers, entries, wakes and the retention check; supplies
(R544) and memory errors (R514). -/

namespace Sys2Proof.Machine

/-! ### Unused blocks (R502) -/

/-- The kinds of block of R502 of which a unit is unused. -/
def Dev.unusedBlocks (s : Dev) : Nat :=
  let bit (i : Nat) (b : Bool) : Nat := if b then 2 ^ i else 0
  let cry := s.acc.sessions.isEmpty && !s.on Od.ntsEnable && (List.range 16).all (fun i => s.nat (Od.authMode i) == 0) &&
    (List.range 4).all (fun r => s.nat (Od.trkAuthSpp r) == 0xFF)
  let refChannel (n : Nat) : Bool := decide (32 ≤ n) && s.on (Od.refEnable (n - 32))
  bit 0 (!s.on Od.gnssEnable) + bit 1 cry + bit 2 ((List.range 22).any fun l => !s.on (Od.laneEnable l)) +
    bit 3 ((List.range 4).any fun i => !s.on (Od.osynEnable i)) +
    bit 4 ((List.range 40).any fun n => !s.on (Od.awlEnable n) && !refChannel n)

/-- TrimGated as it reads. -/
def Dev.trimNow (s : Dev) : Nat := if s.nat Od.powerState = 1 then s.nat Od.trimCandidates &&& s.unusedBlocks else 0

/-- Electrical settings of a power state (R509): body bias of PKT, CRY, MGT and HNS and of the other running islands in 10 mV, SRAM array
supply in 10 mV, read assist in mV, write assist in 10 mV. -/
structure BiasSettings where
  fast : Int
  idle : Int
  sram : Nat
  readAssist : Nat
  writeAssist : Int
  deriving DecidableEq, Repr

/-- The settings in force: those of the present state's entry. -/
def Dev.bias (s : Dev) : BiasSettings :=
  let v := s.nat (Od.biasEntry (min 3 (s.nat Od.powerState)))
  let octet (i : Nat) : Nat := v / 256 ^ (7 - i) % 256
  ⟨untwos 8 (octet 0), untwos 8 (octet 1), octet 2, octet 3, untwos 8 (octet 4)⟩

/-! ### Requests (R499, R500) -/

/-- Whether R499 accepts a state in the present mode (R39, Table 1-8). -/
def Dev.powerAllowed (s : Dev) (r : Nat) : Bool :=
  match r with
  | 2 => s.inMode [Mode.acquire, Mode.locked, Mode.holdover, Mode.freerun, Mode.follower]
  | 3 => s.inMode [Mode.locked, Mode.holdover, Mode.freerun, Mode.follower]
  | _ => true

/-- The lowest block that refuses (Table 16-2). -/
def Dev.powerRefuser (s : Dev) (r : Nat) : Option Nat :=
  if r ≠ 3 ∧ r ≠ 4 then none
  else if s.acc.journal.any fun j => j.outcome == 0 && (j.kind == 2 || j.kind == 5 || j.kind == 6) then some 3
  else if s.nat Od.pairRole = 1 ∧ s.nat Od.pairState = 2 then some 4
  else none

/-- The Delay answers that follow from the state: a key-store operation and M3's handlers. -/
def Dev.ownDelays (s : Dev) : List (Nat × Nat) :=
  (if s.keyBusy then [(1, 1)] else []) ++ (if s.pair.handlers.any fun h => !h.returned then [(9, 1)] else [])

/-- The largest delay of a list of answers, and a block that gave it. -/
def maxDelay (l : List (Nat × Nat)) : Nat × Nat := l.foldl (fun p e => if p.2 < e.2 then e else p) (0, 0)

def Dev.setChange (s : Dev) (c : Change) : Dev := s.modPower fun p => { p with change := c }

/-- A refusal: nothing has changed (R500). -/
def Dev.powerRefuse (s : Dev) (result : Nat) : Dev :=
  ((s.put Od.powerRequestResult result).flag Od.powerSticky Bit.powerSticky_RequestRefused).setChange .none

/-- Steps 2 to 4 of Table 16-3. -/
def Dev.gateDown (s : Dev) : Dev :=
  let s := s.closeSessions 5 fun _ => true
  s.each (List.range 22) fun s l => if s.nat (Od.laneState l) = 0 then s else s.laneOff l

/-- The commit of a change: it completes as a whole. -/
def Dev.powerCommit (s : Dev) (r : Nat) : Dev :=
  let s := s.setChange (.entering r)
  match r with
  | 2 => s.quietLanes
  | 3 =>
    let s := (s.modMode fun m => { m with keep33 := false }).post .keepEntered
    (s.gateDown.holdOutputs Mode.configure).modPower fun p => { p with keepAt := s.tick }
  | 4 => s.gateDown
  | _ => s

/-- A wake from KEEP starts (R506, R507); cause 1 REQUEST, 2 PATTERN, 3 TIMER. -/
def Dev.startWake (s : Dev) (target cause : Nat) : Dev :=
  (s.put Od.lastWakeCause cause).setChange (.waking target s.tick)

/-- The answers of the blocks asked (R500): refusal, a further wait, or the commit. -/
def Dev.powerAnswers (s : Dev) (r deadline : Nat) (delays : List (Nat × Nat)) : Dev :=
  let (b, n) := maxDelay delays
  if n = 0 then if s.powerAllowed r then s.powerCommit r else s.powerRefuse 3
  else if deadline < s.tick + n * ticksPerMs then (s.put Od.powerLastRefuser b).powerRefuse 5
  else s.setChange (.waiting r (s.tick + n * ticksPerMs) deadline (delays.map (·.1)))

/-- start(r) of R500. -/
def Dev.powerStart (s : Dev) (r : Nat) (delays : List (Nat × Nat)) : Dev :=
  let s := s.put Od.powerRequestResult 2
  if s.nat Od.powerState = 3 then
    if r = 4 then s.setChange (.entering 4) else s.startWake r 1
  else if !s.powerAllowed r then s.powerRefuse 3
  else
    match s.powerRefuser r with
    | some b => (s.put Od.powerLastRefuser b).powerRefuse 4
    | none => s.powerAnswers r (s.tick + s.nat Od.powerDelayMax * ticksPerMs) (s.ownDelays ++ delays)

/-- The queued request starts after a completion or a refusal: its blocks are asked then. -/
def Dev.powerQueue (s : Dev) : Dev :=
  let r := s.nat Od.powerQueued
  if s.power.change = .none ∧ r ≠ 0xFF then
    let s := s.put Od.powerQueued 0xFF
    if r = s.nat Od.powerState then s.put Od.powerRequestResult 0 else s.powerStart r []
  else s

/-- A write of PowerRequest (R500), with what the blocks beyond the model's reach answer. -/
def Dev.powerRequest (s : Dev) (r : Nat) (delays : List (Nat × Nat)) : Dev :=
  if s.power.change = .none then
    if r = s.nat Od.powerState then s.put Od.powerRequestResult 0 else (s.powerStart r delays).powerQueue
  else
    let s := if s.nat Od.powerQueued = 0xFF then s
      else (s.bump Od.powerSuperseded).flag Od.powerSticky Bit.powerSticky_Superseded
    (s.put Od.powerQueued r).put Od.powerRequestResult 1

/-- A change completes: PowerState takes the new value. -/
def Dev.powerDone (s : Dev) (r : Nat) : Dev :=
  let was := s.nat Od.powerState
  let s := ((s.put Od.powerState r).put Od.powerSince s.now0).flag Od.powerSticky Bit.powerSticky_StateChanged
  let s := (s.put Od.powerRequestResult 0).setChange .none
  let s := if was = 2 ∧ r ≠ 2 ∧ r ≠ 3 then s.unquietLanes else s
  s.serviceUpdate.powerQueue

/-- The wait ends and the blocks that delayed are asked again. -/
def Dev.powerAskAgain (s : Dev) (answers : List (Nat × Nat)) : Dev :=
  match s.power.change with
  | .waiting r t deadline blocks =>
    if t ≤ s.tick then (s.powerAnswers r deadline (answers.filter fun a => blocks.contains a.1)).powerQueue else s
  | _ => s

/-- Every transmitter of an UP data lane is in QUIET (R503). -/
def Dev.lanesQuiet (s : Dev) : Bool :=
  (List.range 16).all fun l => s.nat (Od.laneState l) != 3 || s.nat (Od.lpiTxState l) == 2

def Dev.quietEntered (s : Dev) : Dev :=
  if s.power.change = .entering 2 ∧ s.lanesQuiet then s.powerDone 2 else s

/-- Step 5 of Table 16-3. -/
def Dev.keepEntered (s : Dev) : Dev :=
  if s.power.change = .entering 3 then
    let s := s.each (List.range 4) fun s c => if s.nat (Od.coreState c) = 1 then s.put (Od.coreState c) 2 else s
    ((s.when (s.on Od.gnssEnable) (·.storeAlmanac)).idleChannels.awlKeep.bump Od.keepCount).powerDone 3
  else s

/-- The gating or ungating for RUN, TRIM or OFF ends; in OFF the time scales stop (R505). -/
def Dev.gatingDone (s : Dev) : Dev :=
  match s.power.change with
  | .entering 4 =>
    let s := s.each (List.range 8) fun s n => if s.running n then s.stopTs n else s
    { s with cntZero := none }.powerDone 4
  | .entering 2 => s
  | .entering 3 => s
  | .entering r => s.powerDone r
  | _ => s

/-! ### Wakes (R506 to R511) -/

/-- A wake pattern or WakeAt. -/
def Dev.wakeBy (s : Dev) (cause : Nat) : Dev :=
  let target := s.nat Od.wakeTarget
  if s.power.change ≠ .none then s
  else if s.nat Od.powerState = 3 then s.startWake target cause
  else if s.nat Od.powerState = 2 then
    (s.put Od.lastWakeCause cause).powerStart (if target = 2 then 0 else target) []
  else s

/-- Where a lost bank is rebuilt from (Table 16-6, R511). -/
def rebuildFrom (dram partner : Bool) (n : Nat) : Nat :=
  if partner && (n == 6 || n == 7 || (16 ≤ n && n ≤ 30)) then 2
  else if n ≤ 7 ∨ n = 14 ∨ n = 15 then 3
  else if n = 28 ∨ n = 30 then (if dram then 1 else 3)
  else 4

/-- The cores whose banks are lost. -/
def coreOfBank (n : Nat) : Option Nat := if n < 8 then some (n / 2) else none

/-- Whether transmit slot `n` of port p lies in a bank (R512). -/
def slotInBank (p n bank : Nat) : Bool :=
  let lo := 9216 * (64 * p + n)
  16 + lo / 786432 == bank || 16 + (lo + 9215) / 786432 == bank

/-- What the loss of a bank empties (Table 16-6). -/
def Dev.loseBank (s : Dev) (n : Nat) : Dev :=
  if 16 ≤ n ∧ n ≤ 27 then
    s.each (List.range 16) fun s p =>
      s.each ((List.range 64).filter fun k => slotInBank p k n) fun s k =>
        (s.modPort p fun r => { r with slots := Tab.erase r.slots k }).putBit (Od.slotsLoaded p) k false
  else if n = 29 then
    s.each (List.range 18) fun s p => (s.modPort p fun r => { r with tsq := [] }).showTsq p
  else if 8 ≤ n ∧ n ≤ 13 then s.modSvc fun v => { v with cache := [] }
  else if n = 14 ∨ n = 15 then s.modSvc fun v => { v with notices := [], waiting := [] }
  else s

/-- Steps 5 to 7 of Table 16-4: `failed` is the bit map of the banks whose check fails, `restore` the restoration of the
configuration image in flash, for bank 28 or for bank 30. Occurrences that fell due in KEEP are passed (R307). -/
def Dev.wakeDone (s : Dev) (failed : Nat) (restore : Dev → Bool → Dev) : Dev :=
  match s.power.change with
  | .waking target _ =>
    let retained := s.nat Od.retainMask
    let lost (n : Nat) : Bool := !retained.testBit n || failed.testBit n
    let bad := (List.range 32).filter fun n => retained.testBit n && failed.testBit n
    let partner := s.mode.keep33 && s.on Od.pairEnable
    let dram := s.on Od.dramKeepSelfRefresh
    let s := s.put Od.retentionLost (bad.foldl setBit 0 : Nat)
    let s := s.each bad fun s n => (s.report (224 + n) n).flag Od.powerSticky Bit.powerSticky_RetentionLost
    let src := (List.range 32).map fun n => BitVec.ofNat 8 (if lost n then rebuildFrom dram partner n else 0)
    let s := s.put Od.rebuildSource (beNat src : Nat)
    let s := s.each ((List.range 32).filter lost) (·.loseBank ·)
    let s := if lost 28 && !dram then restore s true else s
    let s := if lost 30 && !dram then restore s false else s
    let s := s.each (List.range 4) fun s c =>
      if (List.range 32).any fun n => lost n && coreOfBank n == some c then (s.put (Od.coreState c) 3).bump (Od.coreRestarts c)
      else s.put (Od.coreState c) 1
    let s := if dram then s else s.emptyClients
    let s := s.put Od.lastKeepDuration (min sat32 (s.since s.power.keepAt / ticksPerMs) : Nat)
    let s := s.startLanes.tamperAtWake
    let s := if outputsRun s.md then s.resumeOutputs s.md else s
    let s := (s.powerDone target).post .wakeFromKeep
    let s := s.each ((List.range 8).filter s.running) fun s n => s.acrossStep n (-1) (s.tsNow n)
    { s with pmc := { s.pmc with from' := s.tick }, ageing := { s.ageing with upTo := s.tick } }
  | _ => s

/-- Supplies not in range at the end of WakeSupplyWait (R508). -/
def Dev.wakeFailed (s : Dev) : Dev :=
  match s.power.change with
  | .waking _ k =>
    if s.nat Od.wakeSupplyWait * ticksPerMs ≤ s.since k then
      ((s.put Od.powerRequestResult 6).flag Od.powerSticky Bit.powerSticky_WakeFailed).setChange .none
    else s
  | _ => s

/-! ### Supplies (R544) -/

/-- Whether the main rails are monitored: from the commit of KEEP or OFF until a wake they are not. -/
def Dev.railsWatched (s : Dev) : Bool :=
  decide (s.nat Od.powerState ≤ 2) && s.power.change != .entering 3 && s.power.change != .entering 4

def Dev.railOut (s : Dev) (rail : Nat) : Dev :=
  s.modPower fun p => { p with railsOut := rail :: p.railsOut.filter (· != rail), railsOkAt := none }

/-- A rail outside its operating range. -/
def Dev.supplyOut (s : Dev) (rail : Nat) : Dev := if s.railsWatched then (s.railOut rail).live 218 rail true else s

/-- A rail within range again. -/
def Dev.supplyBack (s : Dev) (rail : Nat) : Dev :=
  let s := s.modPower fun p => { p with railsOut := p.railsOut.filter (· != rail) }
  if s.power.railsOut.isEmpty then (s.live 218 rail false).modPower fun p => { p with railsOkAt := some s.tick } else s

/-- A brownout: the reset of cause PORST, held until the rails recover. -/
def Dev.brownout (s : Dev) (rail : Nat) : Dev := if s.railsWatched then (s.railOut rail).resetWarm 1 (some 3) else s

/-! ### Memory errors (R514) -/

/-- A read finds an ECC error: in DRAM or SRAM, corrected or not, in a channel or bank. -/
def Dev.eccError (s : Dev) (dram corrected : Bool) (unit : Nat) : Dev :=
  match dram, corrected with
  | true, true => (s.bump Od.dramEccCorrected).report 212 unit
  | true, false => (s.bump Od.dramEccUncorrected).report 213 unit
  | false, true => (s.bump Od.sramEccCorrected).report 214 unit
  | false, false => (s.bump Od.sramEccUncorrected).report 215 unit

/-! ### Writes of areas 11 and 60 -/

def Dev.powerCheck (s : Dev) (_w : Wr) (k : Nat) (v : Int) : Status :=
  if k = Od.wakeTarget then need (v ≤ 2) .range
  else if k / 256 = 0x1110 then .ok
  else need (s.nat Od.powerState != 4) .state

def Dev.powerAct (s : Dev) (_w : Wr) (k : Nat) (v : Int) : Dev :=
  if k = Od.powerRequest then s.powerRequest v.toNat []
  else if k = Od.powerSticky then s.clearBits k v
  else s.put k v

end Sys2Proof.Machine
end

