-- ==== Sys2Proof/Machine/Faults.lean ====
section
/-! DEFINITION. The fault collector and the performance counters (chapter 15): sources, records and levels, the log, reactions
and settle windows, watchdogs, counters. -/

namespace Sys2Proof.Machine

/-! ### Sources (Table 15-1) -/

/-- The class of a source. -/
def sourceClass (n : Nat) : Nat :=
  if n ≤ 15 then 0 else if n ≤ 31 then 1 else if n ≤ 95 then 2 else if n ≤ 99 then 3 else if n ≤ 179 then 4
  else if n ≤ 187 then 5 else if n ≤ 194 then 6 else if n ≤ 207 then 7 else 8

/-- SourceConfig of a source: severity and cap as levels, Enable, CountRule. -/
def Dev.severity (s : Dev) (n : Nat) : Nat := s.nat (Od.sourceConfig n) % 4 + 1
def Dev.sourceCap (s : Dev) (n : Nat) : Nat := s.nat (Od.sourceConfig n) / 4 % 4 + 1
def Dev.sourceOn (s : Dev) (n : Nat) : Bool := s.bit (Od.sourceConfig n) Bit.sourceConfig_Enable
def Dev.countRule (s : Dev) (n : Nat) : Bool := s.bit (Od.sourceConfig n) Bit.sourceConfig_CountRule

/-! ### What the records show (R478, R490) -/

/-- GirthLevel and SourcesActive for the records, and ALIVE after them. -/
def Dev.showGirth (s : Dev) : Dev :=
  let act := s.flt.recs.filter fun p => p.2.active
  ((s.put Od.girthLevel (maxN (act.map fun p => p.2.level))).put Od.sourcesActive act.length).aliveUpdate

/-- TS_0 at a carried tick, as objects show it. -/
def Dev.ts0At (s : Dev) (k : Nat) : Nat :=
  if s.running 0 then
    match s.convert 0 k 0 with
    | (x, true) => tsNum x
    | _ => 0
  else 0

/-! ### The log (R489) -/

/-- Flags of a record in a log entry. -/
def FRec.logFlags (r : FRec) (conseq recovery reaction : Bool) : Nat :=
  (if conseq then 1 else 0) + (if r.countRaised then 2 else 0) + (if r.classRaised then 4 else 0) +
    (if recovery then 8 else 0) + (if reaction then 16 else 0) + (if r.transient then 32 else 0)

/-- A log entry written, or the newest one counted up: `merge` for a report. -/
def Dev.logFault (s : Dev) (src tick flags react detail : Nat) (merge : Bool) : Dev :=
  let next := s.nat Od.faultLogNext
  let newest := (next + 255) % 256
  let e := s.nat (Od.faultLogEntry newest)
  let level := (s.frec src).level
  let same := e / 256 ^ 15 % 256 == src && e / 256 ^ 14 % 256 == level && e / 256 ^ 13 % 256 == flags
  let young := match s.flt.logTick with
    | some k => decide (tick < k + ticksPerSec)
    | none => false
  if merge && same && young then
    let c := e / 2 ^ 48 % 65536
    if c < 65535 then s.put (Od.faultLogEntry newest) (e + 2 ^ 48 : Nat) else s
  else
    let v := (((((s.ts0At tick * 256 + src) * 256 + level) * 256 + flags) * 256 + react) * 2 ^ 32 + detail) * 65536 + 1
    ((s.put (Od.faultLogEntry next) (v * 2 ^ 48 : Nat)).put Od.faultLogNext ((next + 1) % 256 : Nat)).modFlt
      fun c => { c with logTick := some tick }

/-! ### Reactions (R483 to R486) -/

/-- A core restarts its running image (R515, R488). -/
def Dev.restartCore (s : Dev) (c : Nat) : Dev :=
  let s := ((s.put (Od.coreState c) 3).bump (Od.coreRestarts c)).retireMaster c
  s.modFlt fun f => { f with wdog := Tab.erase f.wdog c }

/-- Whether the action of an entry is declined (Table 15-3). -/
def Dev.reactionDeclined (s : Dev) (r : Nat) : Bool :=
  let target := s.nat (Od.reactTarget r)
  let pair := s.nat Od.pairState == 2 || s.nat Od.pairState == 4
  match s.nat (Od.reactAction r) with
  | 1 =>
    if target = 3 then pair
    else if 0x10 ≤ target ∧ target ≤ 0x13 then
      pair || (List.range 4).any fun i => i != target - 0x10 && (s.nat (Od.pipeState i) == 1 || s.nat (Od.pipeState i) == 2)
    else false
  | 2 => !s.inMode (Mode.follower :: serviceModes)
  | _ => false

/-- The effect of an entry's action but RESET_ENGINE. -/
def Dev.reactionEffect (s : Dev) (r src : Nat) : Dev :=
  let target := s.nat (Od.reactTarget r)
  match s.nat (Od.reactAction r) with
  | 1 =>
    if target ≤ 3 then s.restartCore target
    else if 0x10 ≤ target ∧ target ≤ 0x13 then (s.resetPipeline (target - 0x10)).retireMaster (target - 0x10 + 5)
    else if target = 0x20 then (s.gnssRestart).retireMaster 11
    else s
  | 2 =>
    -- a source counts from the entry to SAFE that it brings about (R487)
    let old := if s.md ≠ Mode.safe ∧ !s.mode.queue.contains .reactSafe then [] else s.flt.safeBy
    let s := s.modFlt fun c => { c with safeBy := src :: old.filter (· != src) }
    s.post .reactSafe
  | _ => s

/-- One entry taken for a report of tick k: journalled, its settle window opened (R485, R486). -/
def Dev.takeEntry (s : Dev) (r src k : Nat) : Dev :=
  let (id, s) := s.jOpen 7 3 0 0 (0x100 * r + src) 0
  let s := (s.jStep id 1).jStep id 2
  let s := (((s.bump (Od.reactTaken r)).put (Od.reactLastTime r) (s.ts0At k)).put (Od.reactOpId r) id).flag
    Od.collectorSticky Bit.collectorSticky_ReactionTaken
  let w : Settle := { entry := r, start := k, stop := k + s.nat (Od.reactSettle r) * ticksPerMs,
                      set := s.nat (Od.reactConsequences r), opId := id }
  let reset := s.nat (Od.reactAction r) = 3
  let s := s.modFlt fun c => { c with
    windows := c.windows ++ [w], resetOps := if reset then id :: c.resetOps else c.resetOps }
  s.modFrec src fun f => { f with taken := r :: f.taken }

/-- The entries that a report triggers, which raises the level of its source from `before` to `after`. -/
def Dev.triggered (s : Dev) (src before after arms : Nat) : List Nat :=
  (List.range 32).filter fun r =>
    arms.testBit r && s.nat (Od.reactSource r) == src && decide (before < s.nat (Od.reactLevel r)) &&
      decide (s.nat (Od.reactLevel r) ≤ after) && !(s.frec src).taken.contains r

/-- A declined action. -/
def Dev.declineEntry (s : Dev) (r : Nat) : Dev :=
  (s.bump (Od.reactDeclined r)).flag Od.collectorSticky Bit.collectorSticky_ReactionDeclined

/-! ### Processing (Table 15-2, R478) -/

/-- Whether a report is consequential (R485). -/
def Dev.consequential (s : Dev) (r : Report) : Bool :=
  !r.settled && s.severity r.src != 4 &&
    s.flt.windows.any fun w => decide (w.start < r.tick) && decide (r.tick ≤ w.stop) && w.set.testBit (sourceBit r.src)

/-- R478: the record of a source after a non-consequential report. -/
def Dev.recordReport (s : Dev) (r : Report) : Dev :=
  let f := s.frec r.src
  let win := s.nat Od.countWindow * ticksPerSec
  let recent := r.tick :: f.recent.filter fun k => r.tick < k + win
  let now := s.ts0At r.tick
  let counted := f.countRaised || (s.countRule r.src && s.nat Od.countThreshold ≤ recent.length)
  let others := s.flt.recs.any fun p => p.1 != r.src && sourceClass p.1 == sourceClass r.src && p.2.unacked
  let classed := f.classRaised || (!f.active && others)
  let raised := s.severity r.src + (if counted then 1 else 0) + (if classed then 1 else 0)
  let level := max f.level (max (s.severity r.src) (min (s.sourceCap r.src) raised))
  let count := (f.count + 1) % 4294967296
  let first := f.count == 0
  let s := s.modFrec r.src fun f => { f with
    active := true, level, count, first := if first then now else f.first, last := now,
    firstDetail := if first then r.detail else f.firstDetail, lastDetail := r.detail,
    unacked := f.unacked || !f.active, unread := true, countRaised := counted, classRaised := classed,
    transient := if f.active then f.transient else false, recent, quiet := max f.quiet r.tick }
  let s := if f.active then s
    else (s.flag Od.faultSticky (sourceBit r.src)).flag Od.faultUnacked (sourceBit r.src)
  (s.flag Od.faultActive (sourceBit r.src)).showGirth

/-- Rows 1 and 2: the record, the entries it triggers, the log, and then what the entries do. The answer says whether the
engine is to be reset. -/
def Dev.plainReport (s : Dev) (r : Report) : Bool × Dev :=
  let before := (s.frec r.src).level
  let s := s.recordReport r
  let go := s.triggered r.src before (s.frec r.src).level r.arms
  -- what the journal has no room for is refused (R85)
  let (no, fit) := go.partition s.reactionDeclined
  let yes := fit.take s.journalRoom
  let s := s.each (no ++ fit.drop s.journalRoom) (·.declineEntry ·)
  let s := s.each yes fun s e => s.takeEntry e r.src r.tick
  let s := s.logFault r.src r.tick ((s.frec r.src).logFlags false false (!yes.isEmpty)) (yes.headD 0xFF) r.detail true
  let s := s.each yes fun s e => s.reactionEffect e r.src
  (yes.any fun e => s.nat (Od.reactAction e) == 3, s)

/-- One report processed (Table 15-2). -/
def Dev.processReport (s : Dev) (r : Report) : Dev :=
  if !isSource r.src then s
  else if !s.sourceOn r.src then
    s.modFrec r.src fun f => { f with
      count := (f.count + 1) % 4294967296, last := s.ts0At r.tick, lastDetail := r.detail }
  else if s.consequential r then
    let s := (s.modFrec r.src fun f => { f with conseq := (f.conseq + 1) % 4294967296 }).flag Od.faultSticky (sourceBit r.src)
    s.logFault r.src r.tick ((s.frec r.src).logFlags true false false) 0xFF r.detail true
  else
    let (reset, s) := s.plainReport r
    if reset then s.resetWarm 3 none else s

/-- Whether a report comes before another (R473). -/
def Report.before (a b : Report) : Bool := decide (a.tick < b.tick) || (a.tick == b.tick && decide (a.src < b.src))

/-- A report put in its place among others. -/
def Report.insert (a : Report) : List Report → List Report
  | [] => [a]
  | b :: t => if Report.before a b then a :: b :: t else b :: Report.insert a t

/-- The reports whose release has come, in their order: 1,000 CNT ticks after their tick. While the CNT tick count does not run they
are processed in order of arrival. A settle window goes once no report of a tick within it can come. -/
def Dev.releaseReports (s : Dev) : Dev :=
  let due (r : Report) : Bool := s.cntZero.isNone || r.tick + 1000 ≤ s.tick
  let go := s.flt.queue.filter due
  let go := if s.cntZero.isNone then go else go.foldl (fun l r => Report.insert r l) []
  let s := s.modFlt fun c => { c with queue := c.queue.filter fun r => !due r }
  (s.each go (·.processReport ·)).modFlt fun c => { c with windows := c.windows.filter fun w => !(w.ended && w.stop + 1000 ≤ s.tick) }

/-- The maximum junction temperature of a grade, 0.001 C. -/
def Dev.tjMax (s : Dev) : Int := if s.nat Od.grade = 0 then 95000 else 105000

/-- A report reaches the collector: one of the source that already waits, or else one of a block that the model does not raise by
itself, detected 1,000 ticks ago (R473; log entry 27). Source 217 carries the die temperature: it is live above the grade's
maximum, and TjMaxSeen follows it. -/
def Dev.faultReport (s : Dev) (src detail : Nat) : Dev :=
  let at' := s.tick - 1000
  if src = 217 then
    let temp := untwos 32 (detail % 2 ^ 32)
    let s := if s.num Od.tjMaxSeen < temp then s.put Od.tjMaxSeen temp else s
    if temp ≤ s.tjMax then (s.live 217 detail false).releaseReports
    else if s.isLive 217 then s.releaseReports
    else ((s.flag Od.faultLive (sourceBit 217)).reportAt 217 detail at' false).releaseReports
  else if s.flt.queue.any fun r => r.src == src && decide (r.tick + 1000 ≤ s.tick) then s.releaseReports
  else (s.reportAt src detail at' false).releaseReports

/-! ### Quiet period (row 4) -/

/-- Row 4 for one source. -/
def Dev.sourceQuiet (s : Dev) (n : Nat) : Dev :=
  let f := s.frec n
  if f.active ∧ !s.isLive n ∧ s.nat Od.quietPeriod * ticksPerSec ≤ s.since f.quiet then
    let s := s.modFrec n fun f => { f with
      active := false, level := 0, countRaised := false, classRaised := false, taken := [],
      recoveries := (f.recoveries + 1) % 4294967296, lastRecovery := s.now0, transient := f.unread }
    let s := (s.unflag Od.faultActive (sourceBit n)).flag Od.collectorSticky Bit.collectorSticky_Recovered
    let s := (s.logFault n s.tick ((s.frec n).logFlags false true false) 0xFF f.lastDetail false).showGirth
    -- R487
    let was := s.flt.safeBy
    let s := s.modFlt fun c => { c with safeBy := c.safeBy.filter (· != n) }
    if was.contains n ∧ s.flt.safeBy.isEmpty then
      s.post (.quietOver (s.bit Od.modeArm Bit.modeArm_SafeHold)) else s
  else s

/-! ### Settle windows (R485, R486) -/

/-- The windows of an entry that have ended: live sources of the set report once more, and DONE is written. -/
def Dev.settleEnd (s : Dev) (r : Nat) : Dev :=
  let beyond (w : Settle) : Bool := w.entry == r && w.stop ≤ s.tick && !w.ended
  let go := s.flt.windows.filter beyond
  let s := s.modFlt fun c => { c with windows := c.windows.map fun w => if beyond w then { w with ended := true } else w }
  s.each go fun s w =>
    let s := if s.flt.resetOps.contains w.opId then s else (s.jStep w.opId 3).jEnd w.opId 2
    let lives := (List.range 256).filter fun n => w.set.testBit (sourceBit n) && s.isLive n
    s.each lives fun s n => s.reportAt n (s.frec n).lastDetail w.stop true

/-- At CONFIGURE the records of RESET_ENGINE are completed. -/
def Dev.completeResets (s : Dev) : Dev :=
  (s.each s.flt.resetOps fun s id => (s.jStep id 3).jEnd id 2).modFlt fun c => { c with resetOps := [] }

/-! ### Acknowledgement, clearing, queries (R475 to R477) -/

def Dev.ackSource (s : Dev) (n : Nat) : Dev :=
  (s.modFrec n fun f => { f with unacked := false }).unflag Od.faultUnacked (sourceBit n)

/-- A record zeroed, its configuration of no concern. -/
def Dev.clearRecord (s : Dev) (n : Nat) : Dev :=
  (s.modFrec n fun _ => {}).unflag Od.faultUnacked (sourceBit n)

/-- A requester's view of a record. -/
def Dev.queryFault (s : Dev) (q : Req) (n : Nat) : Dev :=
  let f := s.frec n
  let b (i : Nat) (x : Bool) : Nat := if x then 2 ^ i else 0
  let flags := b 0 f.transient + b 1 f.unacked + b 2 f.countRaised + b 3 f.classRaised + b 4 (s.isLive n)
  let s := s.each [(Od.faultQuerySource, n), (Od.fqState, if f.active then 1 else 0), (Od.fqLevel, f.level),
      (Od.fqClass, sourceClass n), (Od.fqCount, f.count), (Od.fqConseqCount, f.conseq), (Od.fqFirstTime, f.first),
      (Od.fqLastTime, f.last), (Od.fqFirstDetail, f.firstDetail), (Od.fqLastDetail, f.lastDetail),
      (Od.fqRecoveries, f.recoveries), (Od.fqLastRecovery, f.lastRecovery), (Od.fqFlags, flags)]
    fun s p => s.putMine q p.1 (p.2 : Nat)
  s.modFrec n fun f => { f with unread := false }

/-- Row 5: a source disabled while ACTIVE. -/
def Dev.disableSource (s : Dev) (n : Nat) : Dev :=
  if (s.frec n).active then
    ((s.modFrec n fun f => { f with active := false, level := 0, countRaised := false, classRaised := false, taken := [] }).unflag
      Od.faultActive (sourceBit n)).showGirth
  else s

/-! ### Watchdogs and ALIVE (R481, R482, R488, SRV_STALL) -/

/-- Half a period of ALIVE: 500 µs in ticks. -/
def aliveHalf : Nat := 312500

/-- ALIVE changes level when it is due. -/
def Dev.aliveToggle (s : Dev) : Dev :=
  if s.nat Od.aliveState = 1 ∧ aliveHalf ≤ s.since s.flt.aliveFrom then
    s.modFlt fun c => { c with alive := !c.alive, aliveFrom := s.tick }
  else s

/-- The collector's watchdog (R482): ALIVE stops, the island restarts, and the first report it then processes is
COLLECTOR_RESTART. -/
def Dev.collectorStall (s : Dev) : Dev :=
  let s := (s.modFlt fun c => { c with stopped := true }).aliveUpdate
  let s := (s.bump Od.collectorRestarts).flag Od.collectorSticky Bit.collectorSticky_CollectorRestarted
  let s := s.processReport { src := 219, detail := 0, tick := s.tick, arms := s.arms }
  (s.modFlt fun c => { c with stopped := false }).aliveUpdate

/-- A core's watchdog expires: it reports and counts afresh. -/
def Dev.coreWatchdog (s : Dev) (c : Nat) : Dev :=
  let period := s.nat (Od.coreWatchdogTime c)
  match Tab.find? s.flt.wdog c with
  | some k =>
    if period ≠ 0 ∧ s.nat (Od.coreState c) = 1 ∧ period * ticksPerMs ≤ s.since k then
      (s.modFlt fun f => { f with wdog := Tab.insert (Tab.erase f.wdog c) c s.tick }).report (208 + c) c
    else s
  | none => s

/-- A core is RUNNING again: its watchdog starts a full period. -/
def Dev.coreRuns (s : Dev) (c : Nat) : Dev :=
  (s.put (Od.coreState c) 1).modFlt fun f => { f with wdog := Tab.insert (Tab.erase f.wdog c) c s.tick }

/-- No servo update for 64 ms while TS_0 runs. -/
def Dev.srvStall (s : Dev) : Dev :=
  let ms := s.since s.flt.lastUpdate / ticksPerMs
  if s.running 0 ∧ 64 ≤ ms then s.live 3 ms true else s

/-! ### Performance counters (R491 to R496) -/

/-- Greatest occupancy of a queue code, none where the code is no queue code (Table 15-5). -/
def pmcQueueMax (e : Nat) : Option Nat :=
  if e = 0x0800 then some 256 else if e = 0x0801 then some 65536 else if e = 0x0802 then some 1024
  else if 0x0804 ≤ e ∧ e ≤ 0x0807 then some 64 else if 0x0810 ≤ e ∧ e ≤ 0x0813 then some 4096
  else if 0x0814 ≤ e ∧ e ≤ 0x0817 then some 256 else if 0x0820 ≤ e ∧ e ≤ 0x082F then some 1024
  else if 0x0840 ≤ e ∧ e ≤ 0x084F then some 64 else if e = 0x0860 then some 32768 else none

/-- Whether a code counts events. -/
def pmcEventCode (e : Nat) : Bool :=
  e == 0 || (0x0100 ≤ e && e ≤ 0x010F) || (0x0200 ≤ e && e ≤ 0x0210) || (0x0300 ≤ e && e ≤ 0x0309) ||
    (0x0310 ≤ e && e ≤ 0x0319) || e == 0x0320 || (0x0400 ≤ e && e ≤ 0x0403) || e == 0x0500

/-- Whether event, mode and threshold go together (R491). -/
def pmcOk (e mode threshold : Nat) : Bool :=
  match pmcQueueMax e with
  | some m => mode == 1 && decide (threshold < m)
  | none => pmcEventCode e && (mode == 0 || e == 0)

/-- A counter zeroed, its overflow bit with it (R492). -/
def Dev.pmcZero (s : Dev) (k : Nat) : Dev :=
  ((s.put (Od.pmcValue k) 0).unflag (pmcWord k) (k % 32)).pmcMark k s.tick

/-- A counter wraps at 2^48 (R493). -/
def Dev.pmcWraps (s : Dev) (k : Nat) : Dev :=
  if s.on (Od.pmcEnable k) then (s.put (Od.pmcValue k) 0).flag (pmcWord k) (k % 32) else s

/-- The occupancy of a queue the model holds, none for the others. -/
def Dev.queueNow (s : Dev) (e : Nat) : Option Nat :=
  if e = 0x0800 then some s.tugs.events.length
  else if e = 0x0801 then some s.svc.notices.length
  else if 0x0814 ≤ e ∧ e ≤ 0x0817 then some (s.bucketsWaiting (e - 0x0814))
  else if 0x0820 ≤ e ∧ e ≤ 0x082F then some ((s.port (e - 0x0820)).tsq.length)
  else if 0x0840 ≤ e ∧ e ≤ 0x084F then some (s.poolKiB (e - 0x0840))
  else if e = 0x0860 then some (keptUse s.pair.unacked)
  else none

/-- Whether the model counts the events of a code as they come. -/
def pmcModelled (e : Nat) : Bool := e == 0 || (0x0200 ≤ e && e ≤ 0x0210) || e == 0x0320 || e == 0x0500

/-- A counter latched: what the model does not hold (cycles of cores and of the Harness, DRAM bursts, the remaining queues) has counted
an open number (free values, log entry 46). -/
def Dev.pmcLatch (s : Dev) (k : Nat) : Dev :=
  let e := s.nat (Od.pmcEvent k)
  if !s.on (Od.pmcEnable k) ∨ pmcModelled e then s
  else if 0x0810 ≤ e ∧ e ≤ 0x0813 then s.pmcCrypto (e - 0x0810)
  else match s.queueNow e with
    | some occ => s.pmcQueue e occ
    | none =>
      let (x, s) := s.fresh
      s.pmcAdd k (x.toNat % 2 ^ 48)

/-- Every counter latched at one tick (R494). -/
def Dev.pmcLatchAll (s : Dev) : Dev := s.each (List.range 64) (·.pmcLatch ·)

/-- A counter's enable changes: what is past is counted, what comes is counted from now. -/
def Dev.pmcEnableTo (s : Dev) (k : Nat) (v : Int) : Dev :=
  ((s.pmcLatch k).put (Od.pmcEnable k) v).pmcMark k s.tick

/-- Every counter of a word of PmcClear. -/
def Dev.pmcClear (s : Dev) (base v : Nat) : Dev :=
  s.each ((List.range 32).filter v.testBit) fun s i => s.pmcZero (base + i)

/-! ### Writes of areas 54 and 58 -/

/-- Whether entry r may hold a target with an action (Table 15-3). -/
def reactTargetOk (action target : Nat) : Bool :=
  if action = 1 then target ≤ 3 || (0x10 ≤ target && target ≤ 0x13) || target == 0x20 else target == 0

def Dev.faultCheck (s : Dev) (w : Wr) (k : Nat) (v : Int) : Status :=
  let i := k / 256
  let sub := k % 256
  let n := v.toNat
  if k = Od.faultAck then need (n == 0xFFFF || isSource n) .range
  else if k = Od.faultRecordClear then
    firstBad [need (n == 0xFFFF || isSource n) .range, need (n == 0xFFFF || !(s.frec n).active) .state]
  else if 0x5480 ≤ i ∧ i < 0x54A0 then
    let r := i - 0x5480
    firstBad [need (sub == 1 || !s.on (Od.reactArm r)) .state, need (sub != 2 || isSource n) .range,
      need (!(w.nat (Od.reactConsequences r)).testBit (sourceBit (w.nat (Od.reactSource r)))) .range,
      need ((sub != 4 && sub != 5) || w.nat (Od.reactAction r) == 0 ||
        reactTargetOk (w.nat (Od.reactAction r)) (w.nat (Od.reactTarget r))) .range]
  else if 0x5810 ≤ i ∧ i < 0x5850 ∧ 2 ≤ sub ∧ sub ≤ 4 then
    let c := i - 0x5810
    need (pmcOk (w.nat (Od.pmcEvent c)) (w.nat (Od.pmcMode c)) (w.nat (Od.pmcThreshold c))) .range
  else .ok

def Dev.faultAct (s : Dev) (w : Wr) (k : Nat) (v : Int) : Dev :=
  let i := k / 256
  let sub := k % 256
  let n := v.toNat
  if k = Od.faultAck then
    if n = 0xFFFF then s.each (s.flt.recs.map (·.1)) (·.ackSource ·) else s.ackSource n
  else if k = Od.faultRecordClear then
    if n = 0xFFFF then s.each ((s.flt.recs.filter fun p => !p.2.active).map (·.1)) (·.clearRecord ·) else s.clearRecord n
  else if k = Od.faultQuerySource then s.queryFault w.req n
  else if k = Od.collectorSticky ∨ k = Od.faultSticky then s.clearBits k v
  else if i = 0x5410 then
    let s := s.put k v
    if n.testBit Bit.sourceConfig_Enable then s else s.disableSource sub
  else if k = Od.pmcOverflowLo ∨ k = Od.pmcOverflowHi then s.clearBits k v
  else if k = Od.pmcClearLo then s.pmcClear 0 n
  else if k = Od.pmcClearHi then s.pmcClear 32 n
  else if 0x5810 ≤ i ∧ i < 0x5850 ∧ sub = 1 then s.pmcEnableTo (i - 0x5810) v
  else if 0x5810 ≤ i ∧ i < 0x5850 ∧ 2 ≤ sub ∧ sub ≤ 4 then (s.put k v).pmcZero (i - 0x5810)
  else if 0x5450 = i then
    -- a watchdog whose time is changed counts a full period of it
    let s := s.put k v
    if s.nat (Od.coreState (sub - 1)) = 1 then s.coreRuns (sub - 1) else s
  else s.put k v

end Sys2Proof.Machine
end

