-- ==== Sys2Proof/Machine/Gnss.lean ====
section
/-! DEFINITION. The GNSS baseband (chapter 8): the sample clock, epoch marks and their detectors, channels, navigation
records, solutions with their checks, and their delivery to the references. -/

namespace Sys2Proof.Machine

/-- Whether the baseband runs: enabled, calibrated, not in KEEP (R278, R286). -/
def Dev.gnssRuns (s : Dev) : Bool := s.on Od.gnssEnable && s.awlRuns

/-- Whether it tracks: the sample clock is OK (R260). -/
def Dev.gnssTracks (s : Dev) : Bool := s.gnssRuns && s.nat Od.gifClockState == 1

/-! ### The sample clock (R260) -/

/-- GifClockState FAULT with its reason: 0 offset, 1 no edge. Tracking stops. -/
def Dev.gifFault (s : Dev) (detail : Nat) : Dev :=
  let s := (s.put Od.gifClockState 2).flag Od.gnssSticky Bit.gnssSticky_GifClkFault
  (s.each [0, 1, 2, 3] fun s k => s.stopChannels k 1).live 96 detail true

/-- The measurement of each second, in 0.001 ppt: ±100 ppm. -/
def Dev.gifCheck (s : Dev) (offset : Int) : Dev :=
  if !s.gnssRuns then s
  else
    let s := s.put Od.gifClockOffset (toI64 offset)
    if 100000000000 < offset.natAbs then s.gifFault 0 else (s.put Od.gifClockState 1).live 96 0 false

def Dev.gifLoss (s : Dev) : Dev := if s.gnssRuns then s.gifFault 1 else s

/-! ### Epoch marks and capture detectors (R261, R262) -/

/-- GcdSysTerm (R262). -/
def Dev.gcdTerm (s : Dev) : Nat :=
  sysTermOf (s.hoursSince (s.nat (if s.nat Od.gcdOnDuty = 0 then Od.gcdLastBurnish0 else Od.gcdLastBurnish1))) 0

/-- Correction of a detector's stamps, 2^-16 tick. -/
def Dev.gcdCorr (s : Dev) (d : Nat) : Int := Tab.get (fun _ => 0) s.gnss.corr d

/-- Duty passes to the other detector at a mark, or is refused. The skew is the mean of (old - new) over the marks kept,
and its predecessor that of the same detector's last handover. -/
def Dev.gcdHandover (s : Dev) : Dev :=
  let old := s.nat Od.gcdOnDuty
  let new := 1 - old
  let sum := sumI s.gnss.diffs
  let n : Int := max 1 (s.gnss.diffs.length : Int)
  let mean := rdiv (if old = 0 then sum else -sum) n + s.gcdCorr old
  let skew := rdiv (mean * 16) 10
  let s := s.modGnss fun g => { g with handover := false }
  let prev := Tab.get (fun _ => none) s.gnss.skews new
  let far := match prev with
    | some p => (s.nat Od.handoverTolerance * 65536 < (skew - p).natAbs * 1000000 : Bool)
    | none => false
  if far then (s.flag Od.gnssSticky Bit.gnssSticky_GcdHandoverFault).report 97 new
  else
    let s := s.modGnss fun g => { g with
      corr := Tab.set (fun _ => 0) g.corr new mean, skews := Tab.set (fun _ => none) g.skews new (some skew) }
    (s.put Od.gcdOnDuty new).put Od.gcdSkew skew

/-- A sample decoded from the four pins of IF k (R259): S and M of I, S and M of Q; Q negated where IfInvertQ is 1. -/
def Dev.ifSample (s : Dev) (k pins : Nat) : Int × Int :=
  let part (sign mag : Nat) : Int := (if pins.testBit sign then -1 else 1) * (if pins.testBit mag then 3 else 1)
  (part 3 2, (if s.on (Od.ifInvertQ k) then -1 else 1) * part 1 0)

/-- The loops of Table 8-3 at work in a channel. -/
def Dev.loopsOf (s : Dev) (c : Nat) : List Loop :=
  let dll : Loop := { disc := 3, bandwidth := s.nat Od.dllBandwidth, spacing := s.nat Od.dllSpacing }
  match s.nat (Od.chState c) with
  | 2 => [{ disc := 0, bandwidth := s.nat Od.fllBandwidth, spacing := 0 }, dll]
  | 3 => [{ disc := if s.nat (Od.chSignal c) = 0 then 1 else 2, bandwidth := s.nat Od.pllBandwidth, spacing := 0 }, dll]
  | _ => []

def Dev.chan (s : Dev) (c : Nat) : Chan := Tab.get (fun _ => {}) s.gnss.chans c

def Dev.modChan (s : Dev) (c : Nat) (f : Chan → Chan) : Dev :=
  s.modGnss fun g => { g with chans := Tab.set (fun _ => {}) g.chans c (f (s.chan c)) }

/-- What a channel at work measures at a mark: its C/N0 and its Doppler, the carrier's frequency less IfCenterFreq (R259); the
times of R268; and, in TRACK, what it latches (R269). -/
def Dev.chanMeasured (s : Dev) (m : EpochMark) (x : ChanMeas) : Dev :=
  let c := x.ch
  if s.gnssTracks ∧ (s.nat (Od.chState c) = 2 ∨ s.nat (Od.chState c) = 3) then
    let doppler := clamp (-2147483648) 2147483647 (x.freq - s.num (Od.ifCenterFreq (c / 48)) * 1000)
    let s := (s.put (Od.chCno c) (min 65535 x.cno : Nat)).put (Od.chDoppler c) doppler
    let locked := x.lock.testBit 0
    let s := s.modChan c fun r => {
      code := x.code
      lockAt := if locked then some (r.lockAt.getD s.tick) else none
      failAt := if locked then none else some (r.failAt.getD s.tick)
      lowAt := if x.cno < s.nat Od.cnoLossThreshold then some (r.lowAt.getD s.tick) else none }
    if s.nat (Od.chState c) = 3 then
      let l : ChanLatch := { tick := m.tick, fine := m.fine, code := x.code, carrier := x.carrier, doppler, cno := x.cno,
                             lock := x.lock, slips := x.slips, loops := s.loopsOf c }
      s.modGnss fun g => { g with latches := Tab.set (fun _ => none) g.latches c (some l) }
    else s
  else s

/-- What R286 has a solution take as it is now. -/
def Dev.gnssCal (s : Dev) : GnssCal :=
  let ks := [0, 1, 2, 3]
  { delay := ks.map fun k => s.num (Od.ifDelay k), unc := ks.map fun k => s.nat (Od.ifDelayUnc k)
    gal := ks.map fun k => s.num (Od.ifBiasGal k), bds := ks.map fun k => s.num (Od.ifBiasBds k)
    utc := s.nat Od.utcTransferUnc, tropo := s.nat Od.tropoUnc, multipath := s.nat Od.multipathUnc
    iono := s.nat Od.ionoModelUnc }

/-- An epoch mark (R261): both detectors latch a TCLK cycle and a bin, GCD_0 in this tick and GCD_1 dk ticks later, and each table
gives its Fine. The samples the mark completes, and what the channels measure, come with it. -/
def Dev.epochMark (s : Dev) (tclk0 bin0 : Nat) (dk : Int) (tclk1 bin1 : Nat) (pins : List Nat) (meas : List ChanMeas) : Dev :=
  if !s.gnssRuns then s
  else
    let s := if s.gnss.handover then s.gcdHandover else s
    let d := s.nat Od.gcdOnDuty
    let a0 : Int := fineOf (s.cap 96).table s.tick (tclk0 % 4) (bin0 % 256)
    let a1 : Int := fineOf (s.cap 97).table ((s.tick : Int) + dk).toNat (tclk1 % 4) (bin1 % 256)
    let at' := ((if d = 0 then a0 else a1) + s.gcdCorr d).toNat
    let m : EpochMark := { number := s.gnss.count + 1, tick := at' / 65536, fine := at' % 65536, cal := s.gnssCal }
    let s := s.modGnss fun g => { g with
      count := g.count + 1, marks := (m :: g.marks).take 4096, diffs := ((a0 - a1) :: g.diffs).take 1024 }
    let s := s.each ([0, 1, 2, 3].filter fun k => s.on (Od.ifEnable k)) fun s k => match pins[k]? with
      | some p => s.modGnss fun g => { g with samples := Tab.set (fun _ => (0, 0)) g.samples k (s.ifSample k p) }
      | none => s
    s.each meas (·.chanMeasured m ·)

/-- The Burnish of the detector that is off duty (R262): steps 3 and 4 of Table 6-4. -/
def Dev.gcdBurnish (s : Dev) (h : List Nat) : Dev :=
  let step := s.nat Od.gcdBurnishStep
  if !s.awlRuns ∨ step = 0 ∨ s.since s.gnss.gcdAt < step * ticksPerSec ∨ !s.isHistogram h ∨
      !s.journalFree then s
  else
    let d := 1 - s.nat Od.gcdOnDuty
    let (id, s) := s.jOpen 4 2 0 0 (0x100 + d) 0
    let s := s.modGnss fun g => { g with gcdAt := s.tick }
    if histogramOk h (sumN h) then
      let s := (s.loadTable (96 + d) h id).jMod id fun r => { r with done := 2, lastStep := 4 }
      (s.jEnd id 2).modGnss fun g => { g with handover := true }
    else s.jEnd id 3

/-! ### Channels (R266 to R268) -/

/-- A channel in PULLIN on a signal of a satellite, with its code phase. -/
def Dev.pullIn (s : Dev) (c sig sv : Nat) (doppler : Int) (code : Nat) : Dev :=
  let s := (((s.put (Od.chState c) 2).put (Od.chSignal c) sig).put (Od.chSv c) sv).put (Od.chDoppler c)
    (clamp (-2147483648) 2147483647 doppler)
  (s.modChan c fun _ => { code }).countTracking (c / 48)

/-- Period of a signal's primary code, in ms (Table 8-2). -/
def codePeriod (sig : Nat) : Nat := if sig = 2 then 4 else if sig = 4 then 10 else 1

/-- The search at the front of the queue ends, no sooner than AcqNoncoherent code periods after its begin (R266): the peak, in
0.01 dB-Hz, lies in a Doppler bin counted from that of the predicted Doppler. A channel that was LOST and finds nothing is searched
for again. -/
def Dev.searchDone (s : Dev) (peak : Nat) (bin : Int) (code : Nat) : Dev :=
  match s.gnss.queue with
  | [] => s
  | q :: rest =>
    if s.gnssTracks ∧ s.on (Od.ifEnable (q.ch / 48)) ∧
        s.nat Od.acqNoncoherent * codePeriod q.sig * ticksPerMs ≤ s.since s.gnss.searchAt then
      let s := (s.modGnss fun g => { g with queue := rest, searchAt := s.tick }).bump Od.acqSearches
      -- a bin is 1/(2 Tcoh) wide: 500,000 mHz over the period in ms
      let off := bin * (500000 / codePeriod q.sig : Nat)
      if s.nat Od.acqThreshold ≤ peak ∧ off.natAbs ≤ s.nat Od.acqDopplerRange * 1000 then
        (s.bump Od.acqDetections).pullIn q.ch q.sig q.sv (q.doppler + off) code
      else if s.nat (Od.chState q.ch) = 4 then s.queueSearch q
      else s.put (Od.chState q.ch) 0
    else s

/-- M1 assigns a channel of the antenna's L5 IF to the satellite of a channel of its L1 IF: the lowest that is IDLE, unless one has
the satellite; with code phase and Doppler scaled (R267). -/
def Dev.assignL5 (s : Dev) (c : Nat) : Dev :=
  let k := c / 48 + 1
  let sig := s.nat (Od.chSignal c) + 1
  let has := (ifChannels k).any fun e => s.nat (Od.chState e) != 0 && s.nat (Od.chSignal e) == sig && s.nat (Od.chSv e) == s.nat (Od.chSv c)
  if c / 48 % 2 = 1 ∨ has ∨ !s.on (Od.ifEnable k) then s
  else match (ifChannels k).find? fun e => s.nat (Od.chState e) == 0 with
    | some e =>
      s.pullIn e sig (s.nat (Od.chSv c)) (rdiv (s.num (Od.chDoppler c) * 117645) 157542)
        (rdiv ((s.chan c).code * 117645 : Nat) 157542).toNat
    | none => s

/-- A channel's PLL lock has held for 1 s (R268). -/
def Dev.channelTrack (s : Dev) (c : Nat) : Dev :=
  if s.gnssTracks ∧ s.nat (Od.chState c) = 2 ∧ ((s.chan c).lockAt.any fun k => ticksPerSec ≤ s.since k) then
    ((s.put (Od.chState c) 3).countTracking (c / 48)).assignL5 c
  else s

/-- A channel at work has lost its signal: C/N0 low for 1 s, or no PLL lock for 2 s (R268). -/
def Dev.signalGone (s : Dev) (c : Nat) : Bool :=
  ((s.chan c).lowAt.any fun k => decide (ticksPerSec ≤ s.since k)) ||
    ((s.chan c).failAt.any fun k => decide (2 * ticksPerSec ≤ s.since k))

/-- A channel loses its signal and is searched again, or its satellite is no longer predicted as visible (R268). -/
def Dev.channelLost (s : Dev) (c : Nat) (visible : Bool) : Dev :=
  let st := s.nat (Od.chState c)
  if !visible then ((s.dropSearches (· == c)).put (Od.chState c) 0).countTracking (c / 48)
  else if (st = 2 ∨ st = 3) ∧ s.signalGone c then ((s.put (Od.chState c) 4).countTracking (c / 48)).searchAgain c
  else s

/-! ### Navigation records (R270 to R272) -/

/-- The first `bits` bits of a payload, in 72 octets, the others zero (R271). -/
def navPayload (bits : Nat) (payload : List Byte) : List Byte :=
  let v := beNat ((payload ++ List.replicate 72 0).take 72)
  beBytes 72 (v / 2 ^ (576 - bits) * 2 ^ (576 - bits))

/-- The 240 data bits of an LNAV subframe, those of the words that fail zero (R270). -/
def lnavPayload (mask : Nat) (payload : List Byte) : List Byte :=
  ((List.range 30).map fun i => if mask.testBit (i / 3) then payload.getD i 0 else 0)

/-- The octets of a navigation record (Table 8-4). -/
def navRecord (tick c sig sv status mask bits seq : Nat) (payload : List Byte) : List Byte :=
  leBytes 8 tick ++ leBytes 1 c ++ leBytes 1 sig ++ leBytes 1 sv ++ leBytes 1 status ++ leBytes 2 mask ++ leBytes 2 bits ++
    leBytes 4 seq ++ leBytes 4 0 ++ navPayload bits payload

/-- A unit of navigation data of channel c decoded: the words of an LNAV subframe that pass (bit w - 1), any other mask
zero where the check fails. A payload has 1 to 576 bits, that of an LNAV subframe 240. The record goes to M1; the answer is its octets
for the copy ring and their place. -/
def Dev.navUnit (s : Dev) (c mask bits : Nat) (payload : List Byte) : Option (Nat × List Byte) × Dev :=
  if !s.gnssTracks ∨ s.nat (Od.chState c) ≠ 3 then (none, s)
  else
    let sig := s.nat (Od.chSignal c)
    let lnav := sig == 0
    let bits := if lnav then 240 else max 1 (min 576 bits)
    let payload := if lnav then lnavPayload mask payload else payload
    let bad := if lnav then ((List.range 10).filter fun w => !mask.testBit w).length else if mask = 0 then 1 else 0
    let s := s.bumpBy (Od.chNavErrors c) bad
    if !lnav && mask == 0 then (none, s)
    else
      let seq := Tab.get (fun _ => 0) s.gnss.msgSeq c
      let mark := (s.gnss.marks.head?.map (·.tick)).getD s.tick
      let r := navRecord (mark - (s.tick - s.cnt)) c sig (s.nat (Od.chSv c)) (if lnav && 0 < bad then 1 else 0)
        (if lnav then mask % 1024 else 1) bits seq payload
      let s := (s.bump (Od.chNavRecords c)).modGnss fun g =>
        { g with msgSeq := Tab.set (fun _ => 0) g.msgSeq c ((seq + 1) % 4294967296), nav := Tab.set (fun _ => []) g.nav c r }
      if !s.on Od.navCopyRun then (none, s)
      else
        let w := s.nat Od.navCopyWriteIndex
        let next := (w + 1) % max 1 (s.nat Od.navCopyRecords)
        if next = s.nat Od.navCopyReadIndex then
          (none, (s.bump Od.navCopyDropped).flag Od.gnssSticky Bit.gnssSticky_NavRingFull)
        else
          (some (s.nat Od.navCopyBase + 96 * w, r), s.put Od.navCopyWriteIndex next)

/-- The record is written to the copy ring. -/
def State.navWrite (s : State) (c mask bits : Nat) (payload : List Byte) : State :=
  match s.dev.navUnit c mask bits payload with
  | (some (a, bs), d) => { s with dev := d, mem := writeBytes s.mem a bs }
  | (none, d) => { s with dev := d }

/-! ### Solutions (R273 to R283) -/

/-- Whether an antenna's two IFs are enabled. -/
def Dev.antennaOn (s : Dev) (a : Nat) : Bool := s.on (Od.ifEnable (2 * a)) && s.on (Od.ifEnable (2 * a + 1))

/-- A satellite in a solution: what M1 has of it, its system and PRN, and the bands it may be used on. -/
structure Sat where
  z : GSat
  sys : Nat
  sv : Nat
  l1 : Bool
  l5 : Bool
  deriving DecidableEq, Repr

/-- The channel of an antenna's IF that tracks a satellite. -/
def Dev.tracks (s : Dev) (k : Nat) (c : Option Nat) : Option Nat := c.filter fun c => c / 48 == k && s.nat (Od.chState c) == 3

/-- A satellite that antenna a tracks, with the bands on which C/N0 is CnoUseMin or more. -/
def Dev.satOf (s : Dev) (a : Nat) (z : GSat) : Option Sat :=
  let good (c : Option Nat) : Bool := c.any fun c => decide (s.nat Od.cnoUseMin ≤ s.nat (Od.chCno c))
  let c1 := s.tracks (2 * a) z.c1
  let c5 := s.tracks (2 * a + 1) z.c5
  let who (c : Nat) : Nat × Nat := (s.nat (Od.chSignal c) / 2, s.nat (Od.chSv c))
  match c1, c5 with
  | none, none => none
  | some c, none => some { z, sys := (who c).1, sv := (who c).2, l1 := good c1, l5 := false }
  | none, some c => some { z, sys := (who c).1, sv := (who c).2, l1 := false, l5 := good c5 }
  | some c, some e => if who c = who e then some { z, sys := (who c).1, sv := (who c).2, l1 := good c1, l5 := good c5 } else none

/-- Whether a satellite belongs to S of R273, but for the code-carrier check. -/
def Dev.inSolution (s : Dev) (x : Sat) : Bool :=
  s.bit Od.systemsEnabled x.sys && x.z.ephemeris && x.z.healthy && decide (s.nat Od.elevationMask ≤ x.z.elevation) && (x.l1 || x.l5)

/-- The ionosphere-free combination of R273. -/
def ionoFree (p1 p5 : Int) : Int := rdiv (2260604 * p1 - 1260604 * p5) 1000000

/-- The code-carrier check of a dual-frequency satellite (Table 8-5): whether its code minus carrier differs from the mean of its values
of the last 60 s, this one included, by more than CodeCarrierTolerance. -/
def Dev.codeCarrier (s : Dev) (a : Nat) (x : Sat) : Bool × Dev :=
  let key := 64 * x.sys + x.sv
  let v := ionoFree x.z.p1 x.z.p5 - x.z.carrier
  let old := (Tab.get (fun _ => []) (s.antenna a).codeCarrier key).filter fun p => s.since p.1 ≤ 60 * ticksPerSec
  let all := (s.tick, v) :: old
  let mean := rdiv (sumI (all.map (·.2))) (all.length : Int)
  (decide (s.nat Od.codeCarrierTolerance * 4294967296 < (v - mean).natAbs * 1000),
    s.modAntenna a fun r => { r with codeCarrier := Tab.set (fun _ => []) r.codeCarrier key all })

/-- SolutionStatus and SolutionBand of the satellites available (R274). -/
def Dev.solutionKind (s : Dev) (l : List Sat) : Nat × Nat :=
  let min := s.nat Od.solutionMinSv
  let dual := (l.filter fun x => x.l1 && x.l5).length
  let l1 := (l.filter (·.l1)).length
  let l5 := (l.filter (·.l5)).length
  if min ≤ dual then (2, 3)
  else if min ≤ max l1 l5 then (1, if l5 ≤ l1 then 1 else 2)
  else (0, 0)

/-- The satellites a solution on a band, or on both, can use. -/
def onBand (band : Nat) (l : List Sat) : List Sat := l.filter fun x => band == 3 || (if band = 1 then x.l1 else x.l5)

/-- IfDelay and IfBias of an IF for a system, in 2^-32 ns. -/
def GnssCal.delayOf (c : GnssCal) (k sys : Nat) : Int :=
  (c.delay.getD k 0 + (if sys = 1 then c.gal.getD k 0 else if sys = 2 then c.bds.getD k 0 else 0)) * 65536

/-- P of R273 of a satellite of antenna a, for a solution on a band or on both. -/
def Sat.range (x : Sat) (c : GnssCal) (a band : Nat) : Int :=
  let p1 := x.z.p1 - c.delayOf (2 * a) x.sys
  let p5 := x.z.p5 - c.delayOf (2 * a + 1) x.sys
  (if band = 3 ∧ x.l1 ∧ x.l5 then ionoFree p1 p5
    else if band = 2 ∨ !x.l1 then p5 - x.z.iono5
    else p1 - x.z.iono1) - x.z.geo

/-- The satellites of a system. -/
def ofSystem (sys : Nat) (l : List Sat) : List Sat := l.filter (·.sys == sys)

/-- The antenna clock against a system's time: with an offset of its own for every system but one, least squares gives each the mean
of its satellites by their weights (R273). -/
def systemTime (c : GnssCal) (a band : Nat) (l : List Sat) : Int :=
  rdiv (sumI (l.map fun x => (max 1 x.z.weight : Nat) * x.range c a band)) (sumN (l.map fun x => max 1 x.z.weight) : Nat)

/-- The system whose time a solution is in: SystemPrimary, or the next enabled one with valid UTC parameters (R273). -/
def Dev.primaryFor (s : Dev) (z : GSol) : Nat :=
  let p := s.nat Od.systemPrimary
  let valid (i : Nat) : Bool := (z.utc.getD i none).isSome
  if valid p then p else ([0, 1, 2].find? fun i => s.bit Od.systemsEnabled i && valid i).getD p

/-- The systems with at least 2 satellites whose time differs from that of the primary's by more than ConstellationTolerance. -/
def Dev.outliers (s : Dev) (z : GSol) (c : GnssCal) (a band p : Nat) (l : List Sat) : List Nat :=
  let time (i : Nat) : Int := systemTime c a band (ofSystem i l) - z.isb.getD i 0
  if (ofSystem p l).isEmpty then []
  else [0, 1, 2].filter fun i =>
    i != p && 2 ≤ (ofSystem i l).length &&
      decide (s.nat Od.constellationTolerance * 4294967296 < (time i - time p).natAbs * 1000)

/-- Whether at least 6 L1-band satellites above 30° have C/N0 within a standard deviation below CnoSpreadMin. -/
def Dev.cnoUniform (s : Dev) (l : List Sat) : Bool :=
  let v := (l.filter fun x => x.z.c1.isSome && 300 < x.z.elevation).map fun x => s.nat (Od.chCno (x.z.c1.getD 0))
  let n := v.length
  let sum := sumN v
  decide (6 ≤ n) && decide (n * sumN (v.map fun x => x * x) - sum * sum < n * n * (s.nat Od.cnoSpreadMin * s.nat Od.cnoSpreadMin))

/-- D of R275 in 2^-16 ns, rounded up once. -/
def Dev.solutionD (s : Dev) (c : GnssCal) (a : Nat) (single : Bool) : Nat :=
  let ps := c.utc + c.tropo + c.multipath + if single then c.iono else 0
  -- ps / 1000 + mm * 10^6 / 299792458, in ns
  cdiv ((ps * 299792458 + s.nat (Od.positionUnc a) * 1000000000) * 65536) (1000 * 299792458)

/-- Msys of R275. -/
def Dev.solutionMsys (s : Dev) (c : GnssCal) (a band : Nat) : Nat :=
  let u1 := c.unc.getD (2 * a) 0
  let u5 := c.unc.getD (2 * a + 1) 0
  let ps := if band = 3 then 2260604 * u1 + 1260604 * u5 else 1000000 * (if band = 1 then u1 else u5)
  s.gcdTerm + cdiv (ps * 65536) 1000000000

/-- σ of R275: at least 300 ps, of the satellites' residuals (2^-32 ns) and the unknowns solved; without redundancy it is free (log entry
39). -/
def Dev.solutionSigma (s : Dev) (residuals : List Int) (unknowns : Nat) : Nat × Dev :=
  let floor := cdiv (300 * 65536) 1000
  let n := residuals.length
  if n ≤ unknowns then let (v, s) := s.fresh; (max floor v.toNat, s)
  else (max floor (csqrt (cdiv (sumN (residuals.map fun r => r.natAbs * r.natAbs)) (n * (n - unknowns) * 4294967296))), s)

/-- Whether a solution fails the Keeper check (R283), at TS_0 time t with offset x (2^-32 ns) and σ (2^-16 ns). -/
def Dev.keeperFails (s : Dev) (a : Nat) (t x : Int) (sigma : Nat) : Bool :=
  match (s.antenna a).passed with
  | none => false
  | some p =>
    if !(s.scale 0).aligned then false
    else
      let d : Int := max 0 (t - p.t)
      -- 0.001 ppt over an update period is 2^32 / (128 * 10^6) of 2^-32 ns
      let pred := p.x + rdiv ((s.gnss.drift - p.drift) * 4294967296) 128000000
      -- G in 2^-32 ns over a denominator of 100 * 172800 * 10^15 * second
      let den : Int := 100 * 172800 * 1000000000000000 * second
      let g : Int := s.num Od.keeperCheckMargin * 4294967296 * (den / 1000) + 389 * sigma * 65536 * (den / 100) +
        s.num Od.modelFreqUnc * d * (den / 1000000000000000) + s.num Od.modelAgeingUnc * d * d * 100
      decide (g < (x - pred).natAbs * den)

/-- One check of Table 8-5 on a solution: its cause is set, or clears after CauseClearCount passes. -/
def Dev.causeCheck (s : Dev) (a i : Nat) (fails : Bool) : Dev :=
  if fails then
    ((s.modAntenna a fun x => { x with passes := Tab.set (fun _ => 0) x.passes i 0 }).flag (Od.gnssCauseLive a) i).flag
      (Od.gnssCauseSticky a) i
  else
    let n := Tab.get (fun _ => 0) (s.antenna a).passes i + 1
    let s := s.modAntenna a fun x => { x with passes := Tab.set (fun _ => 0) x.passes i n }
    if s.nat Od.causeClearCount ≤ n then s.unflag (Od.gnssCauseLive a) i else s

/-- ExternalCause of the antenna's reference (R282). -/
def Dev.externalCause (s : Dev) (a : Nat) : Dev :=
  let live := s.nat (Od.gnssCauseLive a) != 0
  let s := s.when (live && !s.bit (Od.refLive (8 + a)) Bit.refLive_ExternalCause)
    (·.flag (Od.refSticky (8 + a)) Bit.refSticky_ExternalCause)
  if s.nat (Od.refState (8 + a)) = 0 then s else s.halfCause (8 + a) Bit.refLive_ExternalCause live

/-- 3.89 standard errors of a survey's mean position in mm, of samples 300 s apart as independent (R279). -/
def Antenna.posError (x : Antenna) (elapsed : Nat) : Nat :=
  let n := x.fixes
  let (a, b, c) := x.sum
  let spread := n * x.squares - (a * a + b * b + c * c).toNat
  csqrt (cdiv (151321 * spread) (10000 * (n * n * max 1 (elapsed / 300))))

/-- The distance in mm of the mean of position fixes from a position. -/
def meanDistance (l : List (Nat × Int × Int × Int)) (x y z : Int) : Nat :=
  let n : Int := l.length
  let d (f : Int × Int × Int → Int) (v : Int) : Int := sumI (l.map fun p => f p.2) - n * v
  let q := d (·.1) x * d (·.1) x + d (·.2.1) y * d (·.2.1) y + d (·.2.2) z * d (·.2.2) z
  if n = 0 then 0 else (isqrt (4 * q.toNat / (l.length * l.length)) + 1) / 2

/-- What a solution's position adds to a survey (R279), and to PositionDeviation (R280). -/
def Dev.surveyStep (s : Dev) (a : Nat) (z : GSol) : Dev :=
  let (x, y, w) := z.fix
  if s.nat (Od.surveyState a) = 1 then
    let s := s.modAntenna a fun r => { r with
      fixes := r.fixes + 1
      sum := (r.sum.1 + x, r.sum.2.1 + y, r.sum.2.2 + w)
      squares := r.squares + (x * x + y * y + w * w).toNat }
    let e := s.since (s.antenna a).surveyAt / ticksPerSec
    (s.put (Od.surveyElapsed a) (min sat32 e : Nat)).put (Od.positionUnc a)
      (if 600 ≤ e then max 10 (min sat32 ((s.antenna a).posError e)) else 100000 : Nat)
  else if s.nat (Od.surveyState a) = 2 then
    let s := s.modAntenna a fun r => { r with recent := (s.tick, z.fix) :: r.recent.filter fun p => s.since p.1 < 300 * ticksPerSec }
    s.put (Od.positionDeviation a)
      (min sat32 (meanDistance (s.antenna a).recent (s.num (Od.antennaPosX a)) (s.num (Od.antennaPosY a)) (s.num (Od.antennaPosZ a))) : Nat)
  else s

/-- The satellites of S, and what the code-carrier check leaves out of them. -/
def Dev.satellites (s : Dev) (a : Nat) (z : GSol) : (List Sat × List Sat) × Dev :=
  ((z.sats.filterMap (s.satOf a)).filter s.inSolution).foldl (init := (([], []), s)) fun (ls, s) x =>
    if x.l1 && x.l5 then
      let (bad, s) := s.codeCarrier a x
      if bad then ((ls.1, ls.2 ++ [x]), s) else ((ls.1 ++ [x], ls.2), s)
    else ((ls.1 ++ [x], ls.2), s)

/-- x of R273 for the satellites used: t_mark and dt as TAI by what the system broadcasts. The spec gives none where the system has no
satellite, or none has valid UTC parameters: it is free (log entry 39). -/
def Dev.solutionOffset (s : Dev) (z : GSol) (c : GnssCal) (a band p : Nat) (l : List Sat) : Int × Dev :=
  match z.utc.getD p none with
  | some u => if (ofSystem p l).isEmpty then s.fresh else (u.toTai - systemTime c a band (ofSystem p l), s)
  | none => s.fresh

/-- A solution computed for antenna a at the epoch of a mark. -/
def Dev.solve (s : Dev) (a : Nat) (z : GSol) (m : EpochMark) : Dev :=
  let ((sats, out), s) := s.satellites a z
  let s := s.each (out.flatMap fun x => x.z.c1.toList ++ x.z.c5.toList) fun s c => s.bump (Od.chExcluded c)
  let p := s.primaryFor z
  let first := (s.solutionKind sats).2
  let odd := s.outliers z m.cal a first p (onBand first sats)
  let systems := [0, 1, 2].filter fun i => !(ofSystem i (onBand first sats)).isEmpty
  let sats := if systems.length = 3 ∧ odd.length = 1 then sats.filter fun x => !odd.contains x.sys else sats
  let (st, band) := s.solutionKind sats
  let s := (s.put (Od.solutionStatus a) st).put (Od.solutionBand a) band
  if st = 0 then s
  else
    let used := onBand band sats
    let duals := if band = 3 then (used.filter fun x => x.l1 && x.l5).length else 0
    let both := (sats.filter fun x => x.l1 && x.l5).length
    let (c, s) := s.conv 0 m.tick m.fine
    let t := c.1
    let s := s.surveyStep a z
    let (x, s) := s.solutionOffset z m.cal a band p used
    let d := s.solutionD m.cal a (st == 1)
    let msys := s.solutionMsys m.cal a band
    let unknowns := ([0, 1, 2].filter fun i => !(ofSystem i used).isEmpty).length + if s.nat (Od.surveyState a) = 1 then 3 else 0
    let (sigma, s) := s.solutionSigma (used.map fun x => x.range m.cal a band - systemTime m.cal a band (ofSystem x.sys used)) unknowns
    let excess := !out.isEmpty && (both + out.length < 3 * out.length || both < s.nat Od.solutionMinSv)
    let moved := s.nat (Od.surveyState a) == 2 && s.nat Od.positionTolerance < s.nat (Od.positionDeviation a)
    let jump := s.keeperFails a t x sigma
    let spread := s.cnoUniform (z.sats.filterMap (s.satOf a)) && s.nat Od.cnoSpreadMin != 0
    let s := s.each [(0, excess), (1, !odd.isEmpty), (2, spread), (3, moved), (4, jump)]
      fun s p => s.causeCheck a p.1 p.2
    let pos := s.bit (Od.gnssCauseLive a) 3
    let s := s.modAntenna a fun x => { x with posSince := if pos then some (x.posSince.getD s.tick) else none }
    let s := if jump then s.bump (Od.keeperRejects a)
      else s.modAntenna a fun r => { r with passed := some { t, x, drift := s.gnss.drift } }
    let s := s.when (p != s.nat Od.systemPrimary) (·.flag Od.gnssSticky Bit.gnssSticky_PrimaryFallback)
    let s := s.each [(Od.solutionOffset a, toI64 (to16 x)), (Od.solutionEpochTime a, (tsNum t : Int)),
      (Od.solutionDeclared a, (d : Int)), (Od.solutionMeasSys a, (msys : Int)), (Od.solutionSigma a, (sigma : Int)),
      (Od.svUsed a, (min 255 used.length : Nat)), (Od.svUsedDual a, (min 255 duals : Nat))] fun s p => s.put p.1 p.2
    let utc := z.utc.getD p none
    let r : SolRec := { epoch := m.number, x, status := st, band, d, msys, sigma, causes := s.nat (Od.gnssCauseLive a),
                        withheld := jump, utc := utc.map (·.offset), leap := utc.bind (·.leap) }
    s.modAntenna a fun x => { x with outbox := x.outbox ++ [r] }

/-- GNSS_SOLUTION: at a solution epoch, the latest mark whose number SolutionRate takes (R273). -/
def Dev.gnssSolution (s : Dev) (a : Nat) (z : GSol) : Dev :=
  if !s.gnssTracks ∨ !s.antennaOn a ∨ !s.running 0 then s
  else match s.gnss.marks.find? fun m => m.number % (1000 / max 1 (s.nat Od.solutionRate)) == 0 with
    | some m => s.solve a z m
    | none => s

/-! ### Delivery (R285) -/

/-- A solution record referred to its mark. -/
def Dev.takeSolution (s : Dev) (a : Nat) (r : SolRec) (m : EpochMark) : Dev :=
  let n := 8 + a
  let s := s.put (Od.solutionAge a) (min sat32 (s.since m.tick / ticksPerMs) : Nat)
  let s := s.externalCause a
  if s.nat (Od.refState n) = 0 then s
  else
    let s := (s.receiveQl n (if r.status = 2 then 2 else 4)).put (Od.refDeclaredSource n) 2
    let s := s.modRr n fun x => { x with
      declared := some r.d, declaredAt := m.tick, msys := r.msys, sigma := r.sigma }
    let s := s.signalSeen n m.tick
    let st : Option LeapSt := match r.utc, r.leap with
      | some o, some (l, sec) => some { leap := l, offset := o, time := sec * second }
      | _, _ => none
    let s := match r.utc with
      | some o => s.utcStatement n 2 o st
      | none => s
    -- a withheld solution is a signal and no measurement (R284)
    if r.withheld then s else s.measure n m.tick ((s.convert 0 m.tick 0).1 + r.x)

/-- The oldest record of antenna a arrives: paired with its mark, or late. On a standby it serves as a cross-check. -/
def Dev.solutionArrives (s : Dev) (a : Nat) : Dev :=
  match (s.antenna a).outbox with
  | [] => s
  | r :: rest =>
    let s := s.modAntenna a fun x => { x with outbox := rest }
    match s.gnss.marks.find? (·.number == r.epoch) with
    | none => ((s.bump Od.solutionsLate).flag Od.gnssSticky Bit.gnssSticky_SolutionLate).report 99 a
    | some m =>
      if s.fromLog then
        match (s.rr (8 + a)).meas.head? with
        | some e => s.crossCheck (8 + a) 2 (r.x - e.x)
        | none => s
      else (s.takeSolution a r m).logInput 4 [a, r.epoch, m.tick, m.fine, twos 128 r.x, r.d, r.msys, r.sigma]

/-! ### Survey (R279, R280) -/

/-- A survey begins. -/
def Dev.surveyBegin (s : Dev) (a : Nat) : Dev :=
  (((s.put (Od.surveyState a) 1).put (Od.surveyElapsed a) 0).put (Od.positionUnc a) 100000).modAntenna a fun x =>
    { x with surveyAt := s.tick, fixes := 0, sum := (0, 0, 0), squares := 0, recent := [] }

/-- Any survey ends with the antenna SURVEYED; a survey begun by R280 is then done where `done` says so. -/
def Dev.surveyEnd (s : Dev) (a : Nat) (done : Bool) : Dev :=
  let op := (s.antenna a).surveyOp
  let s := (s.put (Od.surveyState a) 2).modAntenna a fun x => { x with surveyOp := none }
  match op with
  | some id => if done then (s.jStep id 3).jEnd id 2 else s.jEnd id 4
  | none => s

/-- SURVEY_DONE: SurveyDuration is over, and at least one solution has given a position: the mean position and its uncertainty are
stored. -/
def Dev.surveyDone (s : Dev) (a : Nat) : Dev :=
  let r := s.antenna a
  if s.nat (Od.surveyState a) = 1 ∧ s.nat (Od.surveyDuration a) * ticksPerSec ≤ s.since r.surveyAt ∧ 0 < r.fixes then
    let mean (v : Int) : Int := toI64 (rdiv v (r.fixes : Int))
    let s := (((s.put (Od.antennaPosX a) (mean r.sum.1)).put (Od.antennaPosY a) (mean r.sum.2.1)).put (Od.antennaPosZ a)
      (mean r.sum.2.2)).put (Od.positionUnc a) (max 10 (min sat32 (r.posError (s.since r.surveyAt / ticksPerSec))) : Nat)
    (s.surveyEnd a true).flag Od.gnssSticky Bit.gnssSticky_SurveyDone
  else s

/-- RESURVEY_DELAY_ELAPSED. -/
def Dev.resurvey (s : Dev) (a : Nat) : Dev :=
  match (s.antenna a).posSince with
  | some k =>
    if s.nat (Od.surveyState a) = 2 ∧ s.nat Od.resurveyDelay * ticksPerSec ≤ s.since k ∧ s.bit Od.surveyPermit a ∧
        s.journalFree then
      let (id, s) := s.jOpen 7 3 0 0 0 0
      let s := ((s.jStep id 1).surveyBegin a).jStep id 2
      (s.modAntenna a fun x => { x with surveyOp := some id }).flag Od.gnssSticky Bit.gnssSticky_ResurveyStarted
    else s
  | none => s

/-- M1 stores almanac and ephemeris every 3,600 s (R278). -/
def Dev.almanacStore (s : Dev) : Dev :=
  if s.gnssRuns ∧ (s.gnss.storedAt.all fun k => 3600 * ticksPerSec ≤ s.since k) then
    s.storeAlmanac
  else s

/-- IfMagOccupancy of an IF over 1 s, in 0.1 %. -/
def Dev.ifLevel (s : Dev) (k occ : Nat) : Dev :=
  let s := s.put (Od.ifMagOccupancy k) (min 1000 occ : Nat)
  if s.on (Od.ifEnable k) ∧ (occ < 200 ∨ 450 < occ) then (s.flag Od.gnssSticky Bit.gnssSticky_IfLevelFault).live 98 k true
  else
    let others := [0, 1, 2, 3].any fun j => s.on (Od.ifEnable j) && s.nat (Od.ifMagOccupancy j) != 0 &&
      (decide (s.nat (Od.ifMagOccupancy j) < 200) || decide (450 < s.nat (Od.ifMagOccupancy j)))
    if others then s else s.live 98 k false

/-! ### Writes of areas 30 and 31 -/

/-- Octet i of a GfeTransfer: select, Len, then the octets. -/
def gfeByte (v : Int) (i : Nat) : Nat := v.toNat / 256 ^ (33 - i) % 256

def Dev.gnssCheck (s : Dev) (_ : Wr) (k : Nat) (v : Int) : Status :=
  if k = Od.gfeTransfer then need (gfeByte v 0 < 4 && 1 ≤ gfeByte v 1 && gfeByte v 1 ≤ 32) .range
  else if 0x3010 ≤ k / 256 ∧ k / 256 < 0x3014 ∧ k % 256 = 0x0A then need (scriptOf 256 (beBytes 256 v.toNat)).isSome .range
  else if k = Od.navCopyBase ∨ k = Od.navCopyRecords then need (!s.on Od.navCopyRun) .state
  else .ok

/-- GfeTransfer: the transaction sent; the octets received come with GFE_TRANSFER's command. -/
def Dev.gfeTransfer (s : Dev) (v : Int) (resp : List Byte) : Dev :=
  let len := gfeByte v 1
  let s := s.gfeSend (gfeByte v 0) (((beBytes 34 v.toNat).drop 2).take len)
  s.put Od.gfeResponse (beNat ((resp ++ List.replicate 32 0).take len ++ List.replicate (32 - len) 0) : Nat)

def Dev.gnssAct (s : Dev) (w : Wr) (k : Nat) (v : Int) : Dev :=
  let i := k / 256
  let sub := k % 256
  if k = Od.gnssEnable then
    let was := s.on k
    let s := s.put k v
    if v = 0 then ((s.idleChannels).put Od.gifClockState 0).live 96 0 false
    else if was then s
    else
      let s := s.modGnss fun g => { g with count := 0, marks := [] }
      s.each ([0, 1].filter fun a => s.nat (Od.surveyState a) == 0) (·.surveyBegin ·)
  else if k = Od.gnssSticky then s.clearBits k v
  else if k = Od.gfeTransfer then
    -- what the front-end answers is free where the write does not carry it (log entry 39)
    let (x, s) := s.fresh
    s.gfeTransfer v (beBytes 32 x.toNat)
  else if 0x3010 ≤ i ∧ i < 0x3014 then
    match sub with
    | 0x01 => let s := s.put k v; if v = 0 then s.stopChannels (i - 0x3010) 0 else s
    | 0x0B => if v = 0 then s else s.playScript (i - 0x3010)
    | _ => s.put k v
  else if 0x3040 ≤ i ∧ i < 0x3042 then
    let a := i - 0x3040
    if sub = 0x0A then s.clearBits k v
    else if sub = 0x13 then if v = 0 then s else s.surveyBegin a
    else if 0x0E ≤ sub ∧ sub ≤ 0x11 then
      let s := s.put k v
      if w.leads k [Od.antennaPosX a, Od.antennaPosY a, Od.antennaPosZ a, Od.positionUnc a] then s.surveyEnd a false else s
    else s.put k v
  else if k = Od.navCopyRun then
    let s := s.put k v
    if v = 0 then s else (s.put Od.navCopyWriteIndex 0).put Od.navCopyReadIndex 0
  else s.put k v

end Sys2Proof.Machine
end

