-- ==== Sys2Proof/Machine/LaneWrites.lean ====
section
/-! DEFINITION. Writes of areas 38 and 39: the checks and effects of the lane, pattern and eye-scan objects (R314 to R344). -/

namespace Sys2Proof.Machine

/-- Whether a lane's type and FEC, as a write leaves them, are allowed (R314, R316). -/
def Wr.laneTypeOk (w : Wr) (l : Nat) : Bool :=
  let pcs (m : Nat) : Int := w.num (Od.lanePcs m)
  let one (m : Nat) : Bool := (laneTypes m).contains (pcs m) && (fecModes (pcs m)).contains (w.num (Od.laneFec m))
  let g := [l / 4 * 4, l / 4 * 4 + 1, l / 4 * 4 + 2, l / 4 * 4 + 3]
  one l && (16 ≤ l || !g.any (fun m => pcs m == 3) || g.all (fun m => pcs m == 3 && one m))

/-- Whether a loop or pattern may be set on a lane (R340, R342). -/
def Dev.loopAllowed (s : Dev) (l : Nat) : Bool := s.nat (Od.laneState l) == 4 || s.md == Mode.test

/-- Number of 1 bits among the low n. -/
def ones (v : Nat) : Nat → Nat
  | 0 => 0
  | n + 1 => (if v.testBit n then 1 else 0) + ones v n

/-- Checks of a write to lane l of subindex `sub` of Table 10-7. -/
def Dev.laneObjCheck (s : Dev) (w : Wr) (l sub : Nat) (v : Int) : Status :=
  let control := s.laneHead l == l
  match sub with
  | 0x01 => need control .state
  | 0x02 => need (w.laneTypeOk l) .range
  | 0x03 => need (w.laneTypeOk l) .range
  | 0x07 => need control .state
  | 0x08 => need (v == 0 || (control && (s.nat (Od.laneState l) == 4 || s.nat (Od.laneState l) == 6))) .state
  | 0x09 => need (control && (v == 0 || s.loopAllowed l)) .state
  | 0x0A => need (!(16 ≤ l && l < 20 && v != 0)) .range
  | _ => .ok

/-- The checker of a pair or management lane starts afresh. With its own generator of the same pattern in the near-end serial
loop it locks; what another transmitter sends is open (log entry 65). -/
def Dev.startChecker (s : Dev) (i : Nat) : Dev :=
  if s.nat (Od.patRxMode i) = 0 then s.put (Od.patLocked i) 0
  else if s.nat (Od.laneLoop (16 + i)) = 1 ∧ s.nat (Od.patTxMode i) ≠ 0 then
    s.putB (Od.patLocked i) (s.nat (Od.patTxMode i) == s.nat (Od.patRxMode i))
  else
    let (x, s) := s.fresh
    s.putB (Od.patLocked i) (x % 2 == 1)

/-- The effect of a write to lane l. -/
def Dev.laneObjAct (s : Dev) (l sub k : Nat) (v : Int) : Dev :=
  let st := s.nat (Od.laneState l)
  let g := s.laneGroup l
  let put (s : Dev) (f : Nat → Nat) : Dev := s.each g fun s m => s.put (f m) v
  let all (f : Nat → Nat) : Dev := put s f
  match sub with
  | 0x01 =>
    let s := all Od.laneEnable
    if v = 0 then (if st = 0 then s else s.laneOff l)
    else if st = 0 ∧ 2 ≤ s.md then s.laneCalibrate l else s
  | 0x02 => ((s.put k v).eqPending l).portFollows l
  | 0x07 =>
    let s := all Od.laneDrain
    let s := if v ≠ 0 ∧ l < 16 ∧ st = 3 ∧ s.tick < (Tab.get (fun _ => {}) s.ports l).lastFrag then
        s.bump (Od.txAbortedFragments l) else s
    if v ≠ 0 then (if st = 2 ∨ st = 3 then (s.lanesTo l 4).logInput 9 [l, 4] else s)
    else if st = 4 then
      let to' := if s.on (Od.laneLinkUp l) then 3 else 2
      (s.lanesTo l to').logInput 9 [l, to']
    else s
  | 0x08 => if v = 0 then s else s.laneCalibrate l
  | 0x09 =>
    let s := if 16 ≤ l then s.patSettle (l - 16) else s
    let s := if v ≠ 0 then
        let s := put s Od.laneLoop
        if st = 4 ∨ (s.md = Mode.test ∧ (st = 2 ∨ st = 3)) then s.lanesTo l 5 else s
      else if st = 5 then s.lanesTo l (if s.md = Mode.test then 2 else 4)
      else put s Od.laneLoop
    if 16 ≤ l ∧ s.nat (Od.patRxMode (l - 16)) ≠ 0 then (s.startChecker (l - 16)).patSettle (l - 16) else s
  | 0x18 => s.clearBits k v
  | _ => s.put k v

/-- Checks of a write of areas 38 and 39 beside those of R48. -/
def Dev.lanesCheck (s : Dev) (w : Wr) (k : Nat) (v : Int) : Status :=
  let i := k / 256
  let sub := k % 256
  if i / 256 = 0x39 then need (eqValid sub v.toNat) .range
  else if k = Od.wakeCode then
    need (v.toNat.testBit 15 && 4 ≤ ones v.toNat 16 && ones v.toNat 16 ≤ 12) .range
  else if k = Od.wakeSend then
    firstBad [need (16 ≤ v && v ≤ 21) .range,
      need (s.nat (Od.laneState v.toNat) == 2 || s.nat (Od.laneState v.toNat) == 4) .state]
  else if k = Od.eyeScanStart then need (v == 0 || s.nat Od.eyeScanState != 1) .state
  else if 0x3880 ≤ i then
    if sub = 1 ∨ sub = 2 then need (v == 0 || s.loopAllowed (16 + (i - 0x3880))) .state else .ok
  else if i < 0x3816 then s.laneObjCheck w (i - 0x3800) sub v
  else .ok

/-- The effect of a write to pattern objects. -/
def Dev.patternAct (s : Dev) (i sub k : Nat) (v : Int) : Dev :=
  let s := s.patSettle i
  match sub with
  | 0x01 => (s.put k v |> fun s => if s.nat (Od.laneLoop (16 + i)) = 1 then s.startChecker i else s).patSettle i
  | 0x02 => ((s.put k v).startChecker i).patSettle i
  | 0x04 => (s.put k v).patSettle i
  | 0x06 =>
    if v ≠ 0 ∧ s.nat (Od.patTxMode i) ≠ 0 then
      (s.bump64 (Od.patInjected i) 1).when (s.nat (Od.laneLoop (16 + i)) == 1 && s.on (Od.patLocked i))
        (·.bump64 (Od.patErrors i) 1)
    else s
  | 0x0C =>
    if v = 0 then s
    else s.each [Od.patBits i, Od.patErrors i, Od.patInjected i, Od.patLockLosses i] fun s k => s.put k 0
  | _ => s.put k v

/-- The effect of a write of areas 38 and 39. -/
def Dev.lanesAct (s : Dev) (_w : Wr) (k : Nat) (v : Int) : Dev :=
  let i := k / 256
  let sub := k % 256
  if i / 256 = 0x39 then (s.put k v).eqPending (i % 256)
  else if k = Od.wakeSend then
    s.modLane v.toNat fun r => { r with waking := some (s.tick + 4096 * ticksPerUs) }
  else if k = Od.eyeScanStart then
    if v = 0 then s
    else
      let l := s.nat Od.eyeScanLane
      let st := s.nat (Od.laneState l)
      let s := (s.put Od.eyeScanState 1).modLane l fun r => { r with eyeAt := some s.tick }
      if 3 ≤ st ∧ st ≤ 5 ∧ s.nat (Od.lpiRxState l) = 0 then s else s.eyeAbort l
  else if 0x3880 ≤ i then s.patternAct (i - 0x3880) sub k v
  else if i < 0x3816 then (s.laneObjAct (i - 0x3800) sub k v).synceSignal
  else s.put k v

end Sys2Proof.Machine
end

