-- ==== Sys2Proof/Machine/PtpService.lean ====
section
/-! DEFINITION. The PTP master service (R386 to R397): instances and their served values, authentication, the Error Bound TLV,
multicast and unicast transmissions, and the answers to delay requests. -/

namespace Sys2Proof.Machine

/-! ### Instances -/

def Dev.instReg (s : Dev) (i : Nat) : InstReg := Tab.get (fun _ => {}) s.svc.insts i

def Dev.modInst (s : Dev) (i : Nat) (f : InstReg → InstReg) : Dev :=
  s.modSvc fun v => { v with insts := Tab.set (fun _ => {}) v.insts i (f (Tab.get (fun _ => {}) v.insts i)) }

/-- Whether an instance uses the peer delay mechanism (Table 12-3). -/
def Dev.peerDelay (s : Dev) (i : Nat) : Bool := [1, 4, 5].contains (s.nat (Od.instProfile i))

/-- Whether a profile serves the telecom column of Table 7-7. -/
def Dev.telecom (s : Dev) (i : Nat) : Bool := s.nat (Od.instProfile i) == 2 || s.nat (Od.instProfile i) == 3

/-- The enabled instance of a port, a domain and a transport. -/
def Dev.findInst (s : Dev) (port domain transport : Nat) : Option Nat :=
  (List.range 32).find? fun i => s.on (Od.instEnable i) && s.nat (Od.instPort i) == port &&
    s.nat (Od.instDomain i) == domain && s.nat (Od.instTransport i) == transport

/-- The instance whose InstMalformed counts a message that suits none: one of the same domain, else the first of the port. -/
def Dev.blameInst (s : Dev) (port domain : Nat) : Option Nat :=
  let on := (List.range 32).filter fun i => s.on (Od.instEnable i) && s.nat (Od.instPort i) == port
  match on.find? fun i => s.nat (Od.instDomain i) == domain with
  | some i => some i
  | none => on.head?

/-! ### Timestamps (R89, R90) -/

/-- A PTP timestamp of a time in 2^-32 ns: secondsField, nanosecondsField, and the fraction for correctionField. -/
def ptpStamp (t : Int) : List Nat :=
  let n := t.toNat
  [n / 2 ^ 32 / 1000000000 % 2 ^ 48, n / 2 ^ 32 % 1000000000, n % 2 ^ 32]

/-- A PTP timestamp's time in 2^-32 ns. -/
def ptpTime (sec ns : Nat) : Int := ((sec * 1000000000 + ns) * 2 ^ 32 : Nat)

/-! ### Served values (Table 12-5) -/

/-- PtpClockIdentityInUse. -/
def Dev.clockIdentity (s : Dev) : Nat :=
  let own := s.nat Od.ptpClockIdentity
  if own ≠ 0 then own else s.nat Od.vendorOui % 2 ^ 24 * 2 ^ 40 + s.nat Od.serialNumber * 256

/-- clockClass of an instance for an output at tick k. -/
def Dev.instClass (s : Dev) (i k : Nat) : Nat :=
  let v := s.servedFor (s.nat (Od.instTimeScale i)) k
  if s.md = Mode.acquire then 248 else if s.telecom i then v.clsTelecom else v.clsDefault

/-- The leap announced at TS_0 value t: 0 none, 1 insert, 2 delete (R128). -/
def Dev.leapAt (s : Dev) (t : Int) : Nat :=
  let p := s.nat Od.leapPending
  let at' := tsTime (s.nat Od.leapTime)
  if p ≠ 0 ∧ at' - s.num Od.leapFlagLead * second ≤ t ∧ t < at' then p else 0

/-- frequencyTraceable of scale n. -/
def Dev.freqTraceable (s : Dev) (n k : Nat) : Bool :=
  let v := s.servedFor n k
  v.flags.testBit 0 || (v.flags.testBit 3 && v.entry / 2 ^ 104 % 256 ≤ 2)

/-- The fields of an Announce of instance i sent at tick k, in the order of Table 12-5. -/
def Dev.announceFields (s : Dev) (i k : Nat) : List Nat :=
  let n := s.nat (Od.instTimeScale i)
  let b := s.portBound n (s.nat (Od.instPort i)) k
  let t := (s.convert 0 k 0).1
  let zero := n == 0
  let leap := if zero then s.leapAt t else 0
  let two := s.nat (Od.instProfile i) == 2
  let bit (c : Bool) : Nat := if c then 1 else 0
  [s.clockIdentity, i + 1, s.instClass i k, clockAccuracy b,
   if (s.servedFor n k).bound = sat64 then 0xFFFF else s.nat Od.ptpVariance,
   if two then 128 else s.nat Od.ptpPriority1, if two then 128 else s.nat Od.ptpPriority2, 0, (s.servedFor n k).source,
   if zero && s.svc.utcKnown then twos 16 (s.num Od.utcOffset) else 0, bit (zero && s.svc.utcKnown), bit zero,
   bit (leap == 1), bit (leap == 2), bit (zero && (s.servedFor 0 k).flags.testBit 0), bit (zero && s.freqTraceable n k)]

/-! ### Error Bound TLV (R249 to R252) -/

/-- A bound in 2^-16 ns as ps, rounded up (Table 7-6). -/
def psUp (b : Nat) : Nat := if b = sat64 then sat32 else min sat32 (cdiv (b * 1000) 65536)

/-- The upstream entries, each one hop further. -/
def hopFurther (e : Nat) : Nat :=
  let h := e / 2 ^ 96 % 256
  if h < 255 then e + 2 ^ 96 else e

/-- The chain of scale n on port p for an output at tick k (R250). -/
def Dev.chain (s : Dev) (i n p k : Nat) : List Nat :=
  let v := s.servedFor n k
  let b := s.portBound n p k
  let own := chainEntry 0 0 (classQl (s.instClass i k)) 0 s.clockIdentity (if b = sat64 then sat32 else psUp (b - v.declared))
  if v.trace < 16 then own :: (v.entry + psUp v.declared) :: v.chain.map hopFurther else [own]

/-- The octets of the TLV of instance i on an output at tick k (Table 7-5), by the update whose window holds it (R384). -/
def Dev.boundTlv (s : Dev) (i k : Nat) : List Nat :=
  let n := s.nat (Od.instTimeScale i)
  let p := s.nat (Od.instPort i)
  let v := s.servedFor n k
  let c := s.chain i n p k
  let t := tsTime ((s.servedAt k).elim 0 (·.time))
  let flags := v.flags % 64 + (if 8 < c.length then 64 else 0)
  let cs := c.take 8
  let head := beBytes 2 (s.nat Od.ebTlvType) ++ beBytes 2 (36 + 16 * cs.length) ++ beBytes 3 (s.nat Od.vendorOui) ++
    beBytes 3 1 ++ beBytes 1 1 ++ beBytes 1 flags ++ beBytes 8 (s.portBound n p k) ++
    beBytes 6 ((ptpStamp t).getD 0 0) ++ beBytes 4 ((ptpStamp t).getD 1 0) ++ beBytes 4 v.age ++ beBytes 4 v.calAge ++
    beBytes 1 cs.length ++ beBytes 1 0
  (head ++ (cs.map (beBytes 16 ·)).flatten).map (·.toNat)

/-! ### Authentication (R394 to R396, R423, R434) -/

/-- The enabled entry of an SPP value. -/
def Dev.sppEntry (s : Dev) (spp : Nat) : Option Nat :=
  (List.range 16).find? fun e => s.on (Od.sppEnable e) && s.nat (Od.sppValue e) == spp

/-- Key types that suit an entry's algorithm. -/
def Dev.sppTypes (s : Dev) (e : Nat) : List Nat := if s.nat (Od.sppAlgorithm e) = 0 then [2] else [1]

/-- Whether a sealed key store lets messages pass without authentication. -/
def Dev.unauth (s : Dev) : Bool := s.isSealed && s.on Od.unauthServe

/-- What signing a message comes to: sent unsigned, signed under a keyID, or not sent; `done` is the cycle of
the CRY island at which a signature is there. -/
inductive Signed where
  | plain
  | signed (keyId done : Nat)
  | withheld
  deriving DecidableEq, Repr

/-- Lane-cycles of generating or verifying under an entry (Table 12-1). -/
def Dev.sppCost (s : Dev) (e : Nat) : Nat := if s.nat (Od.sppAlgorithm e) = 0 then 200 else 60

/-- A message of pipeline q signed under an SPP. -/
def Dev.sign (s : Dev) (q spp : Nat) : Signed × Dev :=
  if s.unauth then (.plain, s)
  else
    let s := if s.isSealed then s.bump Od.sealedDrops else s
    match s.sppEntry spp with
    | none => (.withheld, s)
    | some e =>
      let (done, s) := s.cryptoTake q (s.sppCost e)
      match done with
      | none => (.withheld, s)
      | some k =>
        let (ok, s) := s.keyUse (s.nat (Od.sppKeySlot e)) 0 (s.sppTypes e)
        (if ok then .signed (s.nat (Od.sppKeyId e)) k else .withheld, s)

/-- A message of instance i signed as its AuthMode asks. -/
def Dev.signInst (s : Dev) (q i : Nat) : Signed × Dev :=
  if s.nat (Od.authMode i) = 0 then (.plain, s) else s.sign q (s.nat (Od.authSpp i))

/-- The slot whose key a keyID names in an entry (R395). -/
def Dev.keyNamed (s : Dev) (e id : Nat) : Option Nat :=
  let next := s.nat (Od.sppNextKeySlot e)
  let soon := tsTime (s.nat (Od.sppNextStart e)) - s.num Od.authKeyOverlap * second ≤ s.tsNow 0
  if id = s.nat (Od.sppKeyId e) then some (s.nat (Od.sppKeySlot e))
  else if next ≠ 0xFFFF ∧ id = s.nat (Od.sppNextKeyId e) ∧ soon then some next
  else match Tab.get (fun _ => none) s.svc.spp e with
    | some o => if o.keyId = id ∧ s.tick ≤ o.until' then some o.slot else none
    | none => none

/-- The check of R396 of a received message by pipeline q: none where its crypto queue is full and the message is dropped. -/
def Dev.authOk (s : Dev) (q : Nat) (a : AuthF) : Option Bool × Dev :=
  if s.unauth then (some true, s)
  else if a.count ≠ 1 ∨ !a.last then (some false, s)
  else match s.sppEntry a.spp with
    | none => (some false, s)
    | some e => match s.keyNamed e a.keyId with
      | none => (some false, s)
      | some n =>
        let (done, s) := s.cryptoTake q (s.sppCost e)
        if done.isNone then (none, s)
        else
          let (ok, s) := s.keyUse n 0 (s.sppTypes e)
          (some (ok && a.icvOk), s)

/-- The check of a message to instance i. -/
def Dev.authInst (s : Dev) (q i : Nat) (a : AuthF) : Option Bool × Dev :=
  if s.nat (Od.authMode i) = 2 then s.authOk q a else (some true, s)

/-- At SppNextStart the next key becomes the current one. -/
def Dev.sppSwitch (s : Dev) (e : Nat) : Dev :=
  let next := s.nat (Od.sppNextKeySlot e)
  if next = 0xFFFF ∨ !s.running 0 ∨ s.tsNow 0 < tsTime (s.nat (Od.sppNextStart e)) then s
  else
    let old : SppOld :=
      { slot := s.nat (Od.sppKeySlot e)
        keyId := s.nat (Od.sppKeyId e)
        until' := s.tick + s.nat Od.authKeyOverlap * ticksPerSec }
    let s := s.modSvc fun v => { v with spp := Tab.set (fun _ => none) v.spp e (some old) }
    ((s.put (Od.sppKeySlot e) next).put (Od.sppKeyId e) (s.num (Od.sppNextKeyId e))).put (Od.sppNextKeySlot e) 0xFFFF

/-! ### Sending -/

/-- A message of instance i composed by pipeline q: whether it is a launch-time frame when it is authenticated (R385). -/
def Dev.ptpSend (s : Dev) (q i kind : Nat) (body : Body) (launch : Bool) : Dev :=
  let (x, s) := s.signInst q i
  let port := s.nat (Od.instPort i)
  match x with
  | .withheld => s
  | .plain => s.svcQueue { pipe := q, port, kind, body }
  | .signed id done =>
    if launch then
      let (t, s) := s.launchTime port
      s.svcQueue { pipe := q, port, kind, body, keyId := some id, launch := some t, done }
    else s.svcQueue { pipe := q, port, kind, body, keyId := some id, done }

/-- Sync of an instance; `dst` is 0 for multicast, else 1 + record. In two-step mode it carries nothing of its transmission, which
its Follow_Up tells. -/
def Dev.sendSync (s : Dev) (q i dst seq : Nat) : Dev :=
  if s.on (Od.instTwoStep i) then s.ptpSend q i 0x20 (.syncTwo i dst seq) false else s.ptpSend q i 0x20 (.sync i dst seq) true

/-- The Follow_Up of a two-step Sync sent at a stamp. -/
def Dev.sendFollowUp (s : Dev) (q i dst seq k fi : Nat) : Dev :=
  s.ptpSend q i 0x28 (.followUp i dst seq k fi) (s.on Od.ebTlvOnSync)

/-- Announce of an instance. -/
def Dev.sendAnnounce (s : Dev) (q i dst seq : Nat) : Dev := s.ptpSend q i 0x2B (.announce i dst seq) true

/-- followUpInformation of profiles 4 and 5 (R388). -/
def Dev.followInfo (s : Dev) (i : Nat) : List Nat :=
  let n := s.nat (Od.instTimeScale i)
  if 4 ≤ s.nat (Od.instProfile i) then [s.nat (Od.stepCount n) % 65536, twos 64 (s.num (Od.lastStepSize n))] else []

/-- What an Announce carries beside its address, sent at tick k. -/
def Dev.announceBody (s : Dev) (i k : Nat) : List Nat :=
  s.announceFields i k ++ (if s.nat (Od.instProfile i) = 4 then [s.clockIdentity] else []) ++
    (if s.on Od.ebTlvOnAnnounce then s.boundTlv i k else [])

/-- What a Sync or Follow_Up carries of the time t of its Sync, sent itself at tick k. -/
def Dev.syncBody (s : Dev) (i k : Nat) (t : Int) : List Nat :=
  ptpStamp t ++ s.followInfo i ++ (if s.on Od.ebTlvOnSync then s.boundTlv i k else [])

/-- 2^log s in 2^-32 ns. -/
def periodOf (log : Int) : Int := if log < 0 then second / 2 ^ (-log).toNat else second * 2 ^ log.toNat

/-- The number of the interval of a length that a scale is in. -/
def Dev.intervalOn (s : Dev) (n : Nat) (log : Int) : Int := s.tsNow n / periodOf log

/-- Whether a transmission numbered by intervals is due. -/
def slotDue (last : Option Int) (now : Int) : Bool :=
  match last with
  | some k => k < now
  | none => true

/-- Multicast Sync (R386, Table 12-4). -/
def Dev.mcSync (s : Dev) (i : Nat) : Dev :=
  let now := s.intervalOn (s.nat (Od.instTimeScale i)) (s.num (Od.logSyncInterval i))
  let r := s.instReg i
  if s.on (Od.instEnable i) && s.on (Od.instMulticast i) && s.serves && slotDue r.sync now then
    let s := s.modInst i fun r => { r with sync := some now, seqSync := (r.seqSync + 1) % 65536 }
    s.sendSync (s.pipeOfInst i) i 0 r.seqSync
  else s

/-- Multicast Announce. -/
def Dev.mcAnnounce (s : Dev) (i : Nat) : Dev :=
  let now := s.intervalOn (s.nat (Od.instTimeScale i)) (s.num (Od.logAnnounceInterval i))
  let r := s.instReg i
  if s.on (Od.instEnable i) && s.on (Od.instMulticast i) && s.serves && slotDue r.ann now then
    let s := s.modInst i fun r => { r with ann := some now, seqAnn := (r.seqAnn + 1) % 65536 }
    s.sendAnnounce (s.pipeOfInst i) i 0 r.seqAnn
  else s

/-- Pdelay_Req of a peer-delay instance. -/
def Dev.sendPdelay (s : Dev) (i : Nat) : Dev :=
  let now := s.intervalOn (s.nat (Od.instTimeScale i)) (s.num (Od.logPdelayReqInterval i))
  let r := s.instReg i
  if s.on (Od.instEnable i) && s.peerDelay i && s.serves && slotDue r.pdelay now then
    let s := s.modInst i fun r => { r with pdelay := some now, seqPdelay := (r.seqPdelay + 1) % 65536 }
    s.ptpSend (s.pipeOfInst i) i 0x22 (.pdelayReq i r.seqPdelay) false
  else s

/-! ### Screening of received messages (Table 12-10) -/

/-- A drop of cause 1. -/
def Dev.ptpMalformed (s : Dev) (f : SvcF) (domain : Nat) : Dev :=
  let s := match s.blameInst f.port domain with
    | some i => s.bump (Od.instMalformed i)
    | none => s
  (s.flag Od.serviceSticky Bit.serviceSticky_Malformed).violation 1 f none

/-- A drop of cause 2. -/
def Dev.ptpAuthFail (s : Dev) (f : SvcF) (i : Nat) : Dev :=
  ((s.bump (Od.instAuthFailures i)).flag Od.serviceSticky Bit.serviceSticky_AuthFailure).violation 2 f (s.findClient 1 i f)

/-- A drop of cause 3. -/
def Dev.ptpPoliced (s : Dev) (f : SvcF) (i : Nat) (n : Option Nat) : Dev := (s.bump (Od.instPoliced i)).violation 3 f n

/-- A message taken by its pipeline, or dropped where nothing is served. -/
def Dev.svcTake (s : Dev) (f : SvcF) : Bool × Dev :=
  if !s.portUp f.port then (false, s)
  else if !s.serves then (false, s.bump Od.serviceOffDrops)
  else
    let q := s.pipeOf f.bucket
    let s := (s.bump64 (Od.pipeRxPackets q) 1).pmcCount (0x0200 + q) 1
    (true, s.tooOld 0 f.tick)

/-- The instance a PTP message is for, where it passes the checks that come before its client is looked up. -/
def Dev.ptpScreen (s : Dev) (f : SvcF) (p : PtpF) (peer : Option Bool) : Option Nat × Dev :=
  match s.findInst f.port p.domain p.transport with
  | none => (none, s.ptpMalformed f p.domain)
  | some i =>
    let suits := match peer with
      | some b => s.peerDelay i == b
      | none => true
    if !f.ok || !suits then (none, s.ptpMalformed f p.domain)
    else
      let (ok, s) := s.authInst (s.pipeOf f.bucket) i p.auth
      let ts := s.nat (Od.instTimeScale i)
      match ok with
      | some true => (some i, if ts = 0 then s else s.tooOld ts f.tick)
      | some false => (none, s.ptpAuthFail f i)
      | none => (none, s)

/-! ### Answers to delay requests -/

/-- Delay_Resp with the request's receive stamp. -/
def Dev.sendDelayResp (s : Dev) (f : SvcF) (p : PtpF) (i dst : Nat) : Dev :=
  s.ptpSend (s.pipeOf f.bucket) i 0x29 (.fixed ([i, dst, p.seq] ++ ptpStamp (s.rxTime (s.nat (Od.instTimeScale i)) f))) false

/-- A Delay_Req to a multicast instance (R393). -/
def Dev.mcDelay (s : Dev) (f : SvcF) (p : PtpF) (i : Nat) : Dev :=
  let sec := (s.rxTime 0 f / second).toNat
  let r := s.instReg i
  let n := if r.second = sec then r.answers else 0
  if n < s.nat (Od.instMcDelayRespMax i) ∧ s.on (Od.instMulticast i) then
    (s.modInst i fun r => { r with second := sec, answers := n + 1 }).sendDelayResp f p i 0
  else s.ptpPoliced f i (s.findClient 1 i f)

/-- A unicast Delay_Req whose client is at hand. -/
def Dev.uniDelay (s : Dev) (f : SvcF) (p : PtpF) (i : Nat) : Dev :=
  match s.findClient 1 i f with
  | none => s.ptpPoliced f i none
  | some n =>
    if s.isRefused n then (s.bump Od.admissionsRefused).violation 13 f (some n)
    else if !((s.client n).elim false (s.granted · 2)) then s.ptpPoliced f i (some n)
    else
      let (ok, s) := s.policeDelay n f
      if ok then s.sendDelayResp f p i (n + 1) else s.ptpPoliced f i (some n)

/-- A Pdelay_Req answered by a Pdelay_Resp, whose Follow_Up comes in two-step mode when it has been sent. -/
def Dev.pdelayAnswer (s : Dev) (f : SvcF) (p : PtpF) : Dev :=
  let (ok, s) := s.svcTake f
  if !ok then s
  else
    let (i, s) := s.ptpScreen f p (some true)
    match i with
    | none => s
    | some i =>
      let q := s.pipeOf f.bucket
      if s.on (Od.instTwoStep i) then s.ptpSend q i 0x23 (.pdelayRespTwo i p.seq f.tick f.fine) false
      else s.ptpSend q i 0x23 (.pdelayResp i p.seq f.tick f.fine) true

/-- A Pdelay_Resp, complete with its Follow_Up where it is two-step: InstLinkDelay is half of the round trip less the
responder's time, both in 2^-32 ns. -/
def Dev.pdelayResp (s : Dev) (f : SvcF) (p : PtpF) (residence : Int) : Dev :=
  let (ok, s) := s.svcTake f
  if !ok then s
  else
    let (i, s) := s.ptpScreen f p (some true)
    match i with
    | none => s
    | some i =>
      match (s.instReg i).pdelayAt with
      | some (k, fi) =>
        if (p.seq + 1) % 65536 ≠ (s.instReg i).seqPdelay then s
        else
          let n := s.nat (Od.instTimeScale i)
          s.put (Od.instLinkDelay i) (toI64 (rdiv (s.rxTime n f - (s.convert n k fi).1 - residence) 131072))
      | none => s

/-- An Announce of another master on a served port and domain (R386). -/
def Dev.foreignAnnounce (s : Dev) (port domain : Nat) : Dev :=
  let served := (List.range 32).any fun i => s.on (Od.instEnable i) && s.nat (Od.instPort i) == port &&
    s.nat (Od.instDomain i) == domain
  s.when (served && s.portUp port) (·.flag Od.serviceSticky Bit.serviceSticky_ForeignAnnounce)

/-! ### Unicast negotiation (R390 to R392) -/

/-- The least logInterMessagePeriod of a message type. -/
def Dev.ucMin (s : Dev) (i typ : Nat) : Int :=
  s.num (match typ with
    | 0 => Od.ucMinLogAnnounce i
    | 1 => Od.ucMinLogSync i
    | _ => Od.ucMinLogDelayResp i)

/-- Whether R390 accepts a request of a client with a record. -/
def Dev.grantable (s : Dev) (i n : Nat) (r : UniReq) (rs : List UniReq) : Bool :=
  match s.client n with
  | some c =>
    let own := if c.mask.testBit 1 then rateOf (c.logs.getD 1 0) else 0
    let (_, sum) := s.syncGrants i
    s.serves && s.on (Od.instUnicast i) && decide (s.ucMin i r.typ ≤ r.log) && decide (10 ≤ r.duration) &&
      (r.typ == 0 || s.granted c 0 || rs.any (·.typ == 0)) &&
      (r.typ != 1 || decide (sum - own + rateOf r.log ≤ 2 ^ 128 * s.nat (Od.instSyncRateMax i)))
  | none => false

/-- Phase of a record's transmissions of a period, in 2^-32 ns (R392). -/
def phaseOf (n : Nat) (log : Int) : Int := n * periodOf log / 4194304

/-- The first transmission after t. -/
def firstAfter (t : Int) (n : Nat) (log : Int) : Int := (t - phaseOf n log) / periodOf log + 1

/-- A GRANT sent: message type, period, duration. -/
def Dev.sendGrant (s : Dev) (f : SvcF) (i dst typ : Nat) (log : Int) (d : Nat) : Dev :=
  s.ptpSend (s.pipeOf f.bucket) i 0x2C (.fixed [0x0004, i, dst, typ, twos 8 log, d]) false

/-- A refusal: rows 2 and 4 of Table 12-6. -/
def Dev.denyGrant (s : Dev) (f : SvcF) (i : Nat) (n : Option Nat) (r : UniReq) : Dev :=
  let s := (s.bump (Od.instGrantsDenied i)).flag Od.serviceSticky Bit.serviceSticky_GrantDenied
  let log := if r.log < s.ucMin i r.typ then s.ucMin i r.typ else r.log
  ((s.violation 4 f n).when n.isSome (·.signaled (n.getD 0) 1)).sendGrant f i (n.elim 0 (· + 1)) r.typ log 0

/-- One request TLV of a client: rows 1 to 4. -/
def Dev.oneRequest (s : Dev) (f : SvcF) (i n : Nat) (rs : List UniReq) (r : UniReq) : Dev :=
  if s.grantable i n r rs then
    let d := min r.duration (s.nat (Od.ucDurationMax i))
    let scale := s.nat (Od.instTimeScale i)
    let rx := (s.rxTime 0 f / second).toNat
    let s := s.modClient n fun c => { c with
      mask := setBit c.mask r.typ
      logs := c.logs.set r.typ r.log
      expiry := c.expiry.set r.typ ((rx + d) % 65536)
      nexts := c.nexts.set r.typ (firstAfter (s.tsNow scale) n r.log) }
    ((s.showGrants i).signaled n 1).sendGrant f i (n + 1) r.typ r.log d
  else s.denyGrant f i (some n) r

/-- A Signaling message with requests, its client's record at hand. -/
def Dev.uniRequest (s : Dev) (f : SvcF) (i : Nat) (rs : List UniReq) : Dev :=
  if !s.on (Od.instUnicast i) then s.each rs (·.denyGrant f i none ·)
  else
    let (a, s) := s.clientOrAdmit 1 i f
    match a with
    | .refused => s.violation 13 f none |>.each rs (·.denyGrant f i none ·)
    | .full => s.violation 14 f none |>.each rs (·.denyGrant f i none ·)
    | .ok n =>
      if s.isRefused n then (s.bump Od.admissionsRefused).violation 13 f (some n)
      else
        let (ok, s) := s.policeSignal n f
        if ok then s.each rs (·.oneRequest f i n rs ·)
        else (s.bump (Od.instPoliced i)).violation 5 f (some n)

/-- A CANCEL_UNICAST_TRANSMISSION: row 6. -/
def Dev.uniCancel (s : Dev) (f : SvcF) (i typ : Nat) : Dev :=
  match s.findClient 1 i f with
  | none => s.ptpPoliced f i none
  | some n =>
    if s.isRefused n then (s.bump Od.admissionsRefused).violation 13 f (some n)
    else
      let (ok, s) := s.policeSignal n f
      if !ok then (s.bump (Od.instPoliced i)).violation 5 f (some n)
      else
        let held := (s.client n).elim false (s.granted · typ)
        if held then
          let s := (s.modClient n fun c => { c with mask := clrBit c.mask typ }).showGrants i
          (s.signaled n 1).ptpSend (s.pipeOf f.bucket) i 0x2C (.fixed [0x0006, i, n + 1, typ]) false
        else s

/-- A grant's expiry is reached: row 5. -/
def Dev.grantExpiry (s : Dev) (n typ : Nat) : Dev :=
  match s.client n with
  | some c =>
    if c.kind = 1 ∧ c.mask.testBit typ ∧ s.grantOver c typ then
      (s.modClient n fun c => { c with mask := clrBit c.mask typ }).showGrants c.inst
    else s
  | none => s

/-- A granted Sync or Announce whose instant has come (R392). -/
def Dev.grantSend (s : Dev) (n typ : Nat) : Dev :=
  match s.client n with
  | some c =>
    let log := c.logs.getD typ 0
    let k := c.nexts.getD typ 0
    let now := s.tsNow (s.nat (Od.instTimeScale c.inst))
    if c.kind = 1 ∧ typ < 2 ∧ s.granted c typ ∧ phaseOf n log + k * periodOf log ≤ now then
      let s := s.modClient n fun c => { c with nexts := c.nexts.set typ (max (k + 1) (firstAfter now n log)) }
      if !s.serves then s
      else if typ = 0 then
        (s.modClient n fun c => { c with seqAnnounce := (c.seqAnnounce + 1) % 65536 }).sendAnnounce (s.pipeOfInst c.inst) c.inst
          (n + 1) c.seqAnnounce
      else
        (s.modClient n fun c => { c with seqSync := (c.seqSync + 1) % 65536 }).sendSync (s.pipeOfInst c.inst) c.inst (n + 1) c.seqSync
    else s
  | none => s

end Sys2Proof.Machine
end

