-- ==== Sys2Proof/Machine/NtpService.lean ====
section
/-! DEFINITION. NTP, NTS and NTS-KE (R90, R128, R129, R256, R398 to R402), and service requests that wait for a client record
(R406). -/

namespace Sys2Proof.Machine

/-! ### UTC as NTP serves it (R90, R128, R129) -/

/-- The offset TAI - UTC in force for NTP at TS_0 value t by what is on record, newest change first (R90). -/
def offsetAt (t : Int) : List (Int × Int) → Int → Int
  | [], now => now
  | (from', before) :: l, now => if t < from' then offsetAt t l before else now

/-- The offset TAI - UTC that NTP uses at TS_0 value t, in 2^-32 ns (R90, R129): that of a pending leap from its switch on, else
the one that was in force at t. With NtpSmear a leap applied less than half a window ago is still being smeared. -/
def Dev.ntpOffset (s : Dev) (t : Int) : Int :=
  let now := s.num Od.utcOffset * second
  let p := s.nat Od.leapPending
  let at' := tsTime (s.nat Od.leapTime)
  if s.on Od.ntpSmear then
    let w := s.num Od.smearWindow * second
    let part (step at' : Int) : Int := step * clamp 0 w (t - (at' - w / 2)) / w
    let done := leapStep s.svc.leapDone * second
    now - done + part done s.svc.leapAt + part (leapStep p * second) at'
  else if p ≠ 0 ∧ leapSwitch p at' ≤ t then now + leapStep p * second
  else offsetAt t s.svc.utcHist (s.num Od.utcOffset) * second

/-- The NTP timestamp of a TS_0 value: seconds and fraction as one number of 64 bits. -/
def Dev.ntpStamp (s : Dev) (t : Int) : Nat :=
  let u := t - s.ntpOffset t + 2208988800 * second
  let sec := (u / second) % 4294967296
  let f := rdiv (u % second) 1000000000
  (sec * 4294967296 + min f 4294967295).toNat

/-- The leap indicator at TS_0 value t. -/
def Dev.ntpLeap (s : Dev) (t : Int) (unsync : Bool) : Nat :=
  if unsync then 3 else if s.on Od.ntpSmear then 0 else s.leapAt t

/-- Root dispersion of a served bound in units of 2^-16 s, rounded up (R256). -/
def rootDispersion (b : Nat) : Nat := if b = sat64 then sat32 else min sat32 (cdiv b 1000000000)

/-- Reference ID by the kind of TraceRef. -/
def refIdOf (m : Nat) : Nat :=
  if 16 ≤ m then 0x494E4954 else match refKind m with
    | 1 => 0x50505300
    | 2 => 0x474E5353
    | 3 => 0x50545000
    | _ => 0x46524551

/-- Reference timestamp. -/
def Dev.refStamp (s : Dev) (m : Nat) : Nat :=
  if s.nat (Od.incOwner 0) = 3 then
    let t := s.nat Od.holdoverEntryTime
    if t = 0 then 0 else s.ntpStamp (tsTime t)
  else if m < 16 then
    match (s.rr m).meas.head? with
    | some e => s.ntpStamp (s.convert 0 e.tick 0).1
    | none => 0
  else 0

/-- The fields of Table 12-7 for a response sent at a stamp. -/
def Dev.ntpFields (s : Dev) (f : SvcF) (n : NtpF) (k fi : Nat) : List Nat :=
  let unsync := match s.servedAt k with
    | some v => v.unsync
    | none => true
  let t := (s.convert 0 k fi).1
  let m := (s.servedFor 0 k).trace
  [s.ntpLeap t unsync, n.version, 4, if unsync then 16 else 1, max 4 (min 17 n.poll), 224, 0,
   rootDispersion (s.portBound 0 f.port k), refIdOf m, s.refStamp m, n.txTime, s.ntpStamp (s.rxTime 0 f), s.ntpStamp t]

/-! ### Screening -/

/-- Whether NTP is answered on a port. -/
def Dev.ntpOn (s : Dev) (p : Nat) : Bool := s.on Od.ntpEnable && s.bit Od.ntpPorts p

/-- Whether a request is one that R398 answers. -/
def ntpValid (f : SvcF) (n : NtpF) : Bool :=
  f.ok && n.mode == 3 && (n.version == 3 || n.version == 4) && 48 ≤ n.len && !n.mac

/-- A drop of cause 7. -/
def Dev.ntpBad (s : Dev) (f : SvcF) (kind : Nat) : Dev :=
  ((s.bump Od.ntpMalformed).flag Od.serviceSticky Bit.serviceSticky_Malformed).violation 7 f (s.findClient kind 0 f)

/-! ### NTP -/

/-- The record of an NTP or NTS client, admitted where it is new; none where its frame is dropped. -/
def Dev.ntpClient (s : Dev) (kind : Nat) (f : SvcF) : Option Nat × Dev :=
  let (a, s) := s.clientOrAdmit kind 0 f
  match a with
  | .refused => (none, s.violation 13 f none)
  | .full => (none, s.violation 14 f none)
  | .ok n => if s.isRefused n then (none, (s.bump Od.admissionsRefused).violation 13 f (some n)) else (some n, s)

/-- A plain NTP request whose client is at hand. -/
def Dev.ntpServe (s : Dev) (f : SvcF) (n : NtpF) : Dev :=
  let (c, s) := s.ntpClient 2 f
  match c with
  | none => s
  | some c =>
    let (v, s) := s.policeNtp c f
    let q := s.pipeOf f.bucket
    match v with
    | .serve => (s.svcQueue { pipe := q, port := f.port, kind := 0x30, body := .ntp f n [] }).bump64 Od.ntpResponses 1
    | .kiss => (s.svcSend q f.port 0x31 [n.version, 0x52415445, n.txTime]).violation 8 f (some c)
    | .drop => s.violation 8 f (some c)

/-! ### NTS (R399 to R401) -/

/-- The number of the cookie period now. -/
def Dev.cookiePeriod (s : Dev) : Nat := s.sec0 / max 1 (s.nat Od.cookieKeyPeriod)

/-- New cookies made under the current period's key: each draws its nonce from the DRBG. -/
def Dev.newCookies (s : Dev) (n : Nat) : Dev := { s with keys := { s.keys with draws := s.keys.draws + n } }

/-- An NTS NAK (cause 9). -/
def Dev.ntsNak (s : Dev) (f : SvcF) (n : NtpF) : Dev :=
  let s := ((s.bump Od.ntsNakSent).flag Od.serviceSticky Bit.serviceSticky_NtsNakSent).violation 9 f (s.findClient 3 0 f)
  s.svcSend (s.pipeOf f.bucket) f.port 0x33 [n.version, n.txTime]

/-- An NTS request whose client is at hand. -/
def Dev.ntsServe (s : Dev) (f : SvcF) (n : NtpF) (x : NtsF) : Dev :=
  let k := s.cookiePeriod
  let known := x.opens && (x.keyId == k || x.keyId + 1 == k)
  let (done, s) := s.cryptoTake (s.pipeOf f.bucket) (if known then 1000 + 150 * x.placeholders else 250)
  if done.isNone then s
  else
  let (ok, s) := s.keyUse (s.nat Od.cookieMasterSlot) 2 [3]
  if !ok ∨ !known then s.ntsNak f n
  else if !x.authOk then
    ((s.bump Od.ntsAuthFailures).flag Od.serviceSticky Bit.serviceSticky_AuthFailure).violation 10 f (s.findClient 3 0 f)
  else
    let (c, s) := s.ntpClient 3 f
    match c with
    | none => s
    | some c =>
      let (v, s) := s.policeNtp c f
      let q := s.pipeOf f.bucket
      match v with
      | .serve =>
        let s := s.newCookies (1 + x.placeholders)
        let (t, s) := s.launchTime f.port
        let m : Queued := { pipe := q, port := f.port, kind := 0x32, body := .ntp f n [1 + x.placeholders, k], launch := some t,
                            done := done.getD 0 }
        ((s.svcQueue m).bump64 Od.ntpResponses 1).bump64 Od.ntsExchanges 1
      | .kiss =>
        let s := s.newCookies 1
        let (t, s) := s.launchTime f.port
        let m : Queued := { pipe := q, port := f.port, kind := 0x31, body := .fixed [n.version, 0x52415445, n.txTime, 1, k],
                            launch := some t, done := done.getD 0 }
        (s.svcQueue m).violation 8 f (some c)
      | .drop => s.violation 8 f (some c)

/-! ### Requests and the records they wait for (R406) -/

def reqFrame : SvcReq → SvcF
  | .delay f _ => f
  | .request f _ _ => f
  | .cancel f _ _ => f
  | .ntp f _ => f
  | .nts f _ _ => f

/-- The kind and instance of the record a request looks up. -/
def Dev.reqClient (s : Dev) (r : SvcReq) : Option Nat :=
  let inst (f : SvcF) (p : PtpF) : Option Nat := (s.findInst f.port p.domain p.transport).bind fun i => s.findClient 1 i f
  match r with
  | .delay f p => if p.unicast then inst f p else none
  | .request f p _ => inst f p
  | .cancel f p _ => inst f p
  | .ntp f _ => s.findClient 2 0 f
  | .nts f _ _ => s.findClient 3 0 f

/-- A request served, its record at hand or absent. -/
def Dev.serveReq (s : Dev) : SvcReq → Dev
  | .delay f p =>
    match s.findInst f.port p.domain p.transport with
    | none => s
    | some i => if p.unicast then s.uniDelay f p i else s.mcDelay f p i
  | .request f p rs =>
    match s.findInst f.port p.domain p.transport with
    | none => s
    | some i => s.uniRequest f i rs
  | .cancel f p typ =>
    match s.findInst f.port p.domain p.transport with
    | none => s
    | some i => s.uniCancel f i typ
  | .ntp f n => s.ntpServe f n
  | .nts f n x => s.ntsServe f n x

/-- The frames of a bucket that wait. -/
def Dev.bucketWaits (s : Dev) (b : Nat) : List SvcReq := Tab.get (fun _ => []) s.svc.waiting b

def Dev.setWaits (s : Dev) (b : Nat) (l : List SvcReq) : Dev :=
  (s.pmcQueue (0x0814 + s.pipeOf b) (s.bucketsWaiting (s.pipeOf b))).modSvc fun v => { v with waiting := Tab.set (fun _ => []) v.waiting b l }

/-- A request in the order of its bucket: behind a miss it waits, a record not in the cache is a miss, else it is served. -/
def Dev.reqStep (s : Dev) (r : SvcReq) : Dev :=
  let b := (reqFrame r).bucket
  let w := s.bucketWaits b
  if !w.isEmpty then s.setWaits b (w ++ [r])
  else match s.reqClient r with
    | none => s.serveReq r
    | some n =>
      let q := s.pipeOf b
      if s.cached n then (((s.bump64 Od.cacheHits 1).pmcCount (0x0208 + q) 1).cacheUse n).serveReq r
      else
        -- its 64 octets are read from DRAM
        (((s.bump64 Od.cacheMisses 1).pmcCount (0x020C + q) 1).busAsk (5 + q) (s.dramTarget (64 * n)) 1).setWaits b [r]

/-- The record a bucket waits for has come from DRAM: `checkOk` says whether its Check holds (R405), and that its read met no uncorrected
error (R514). -/
def Dev.missFill (s : Dev) (b : Nat) (checkOk : Bool) : Dev :=
  match s.bucketWaits b with
  | [] => s
  | r :: rest =>
    let s := s.setWaits b []
    let s := match s.reqClient r with
      | none => s
      | some n =>
        if checkOk then s.cacheUse n
        else (((s.freeClient n).bump Od.recordCheckFails).flag Od.serviceSticky Bit.serviceSticky_RecordCheckFail).report 185 n
    (s.serveReq r).each rest (·.reqStep ·)

/-! ### Arrivals -/

/-- A Delay_Req. -/
def Dev.delayReq (s : Dev) (f : SvcF) (p : PtpF) : Dev :=
  let (ok, s) := s.svcTake f
  if !ok then s
  else
    let (i, s) := s.ptpScreen f p (some false)
    if i.isSome then s.reqStep (.delay f p) else s

/-- A Signaling message with requests. -/
def Dev.signalRequest (s : Dev) (f : SvcF) (p : PtpF) (rs : List UniReq) : Dev :=
  let (ok, s) := s.svcTake f
  if !ok then s
  else
    let (i, s) := s.ptpScreen f p none
    if i.isSome then s.reqStep (.request f p (rs.map fun r => { r with typ := min 2 r.typ })) else s

/-- A Signaling message that cancels. -/
def Dev.signalCancel (s : Dev) (f : SvcF) (p : PtpF) (typ : Nat) : Dev :=
  let (ok, s) := s.svcTake f
  if !ok then s
  else
    let (i, s) := s.ptpScreen f p none
    if i.isSome then s.reqStep (.cancel f p typ) else s

/-- A plain NTP request. -/
def Dev.ntpRequest (s : Dev) (f : SvcF) (n : NtpF) : Dev :=
  if !s.ntpOn f.port then s
  else
    let (ok, s) := s.svcTake f
    if !ok then s
    else
      let s := s.bump64 Od.ntpRequests 1
      if ntpValid f n then s.reqStep (.ntp f n) else s.ntpBad f 2

/-- An NTS request. -/
def Dev.ntsRequest (s : Dev) (f : SvcF) (n : NtpF) (x : NtsF) : Dev :=
  if !s.ntpOn f.port then s
  else
    let (ok, s) := s.svcTake f
    if !ok then s
    else
      let s := s.bump64 Od.ntpRequests 1
      if !ntpValid f n || !s.on Od.ntsEnable then s.ntpBad f 3
      else if !x.fieldsOk ∨ 7 < x.placeholders then
        ((s.bump Od.ntsAuthFailures).flag Od.serviceSticky Bit.serviceSticky_AuthFailure).violation 10 f (s.findClient 3 0 f)
      else s.reqStep (.nts f n x)

/-! ### NTS-KE (R402) -/

/-- A connection to NtsKePort while `open'` are open: whether TLS and the records go through. -/
def Dev.ntsKe (s : Dev) (f : SvcF) (open' : Nat) (ok : Bool) : Dev :=
  if !s.on Od.ntsKeEnable ∨ !s.portUp f.port then s
  else if s.nat Od.serviceState ≠ 1 then s.bump Od.serviceOffDrops
  else if s.nat Od.ntsKeQueueMax ≤ open' then
    (((s.bump Od.ntsKeBusy).flag Od.serviceSticky Bit.serviceSticky_NtsKeBusy).violation 11 f (s.findClient 3 0 f)).emit
      (.frame f.port 0x34 [])
  else
    let (signed, s) := s.keyUse (s.nat Od.ntsKeCertSlot) 3 [4]
    let (master, s) := if signed && ok then s.keyUse (s.nat Od.cookieMasterSlot) 2 [3] else (false, s)
    if signed && ok && master then
      ((s.newCookies 8).bump Od.ntsKeHandshakes).emit (.frame f.port 0x35 [8, s.cookiePeriod])
    else ((s.bump Od.ntsKeFailures).violation 12 f (s.findClient 3 0 f)).emit (.frame f.port 0x36 [1])

/-- A cookie period begins (R401). -/
def Dev.cookiePeriodBegins (s : Dev) : Dev := s.put Od.cookieKeyIdNow (s.cookiePeriod % 4294967296 : Nat)

end Sys2Proof.Machine
end

