-- ==== Sys2Proof/Machine/Tracker.lean ====
section
/-! DEFINITION. The trackers of REF_10 to REF_13 (R141, R167, R168, R253, R397), and the writes of areas 40, 44 and 48. -/

namespace Sys2Proof.Machine

def Dev.trk (s : Dev) (r : Nat) : Trk := Tab.get (fun _ => {}) s.svc.trks r

def Dev.modTrk (s : Dev) (r : Nat) (f : Trk → Trk) : Dev :=
  s.modSvc fun v => { v with trks := Tab.set (fun _ => {}) v.trks r (f (Tab.get (fun _ => {}) v.trks r)) }

/-- The tracker of a reference forgets its master: the next one is a change of master. -/
def Dev.resetTrk (s : Dev) (r : Nat) : Dev := s.modTrk r fun t => { changed := t.changed || t.master.isSome }

/-- Whether the tracker of REF_(10 + r) runs. -/
def Dev.trkOn (s : Dev) (r : Nat) : Bool := s.on (Od.refEnable (10 + r)) && s.portUp (s.nat (Od.ptpPort (10 + r)))

/-- Whether the Announce comparison of IEEE 1588-2019 ranks a above b: by the grandmaster's attributes, then its identity; of one
grandmaster by stepsRemoved, then the sender's identity (R168). -/
def Master.better (a b : Master) : Bool :=
  if a.gm = b.gm then a.steps < b.steps || (a.steps == b.steps && a.ident < b.ident)
  else
    match (a.dataset.zip b.dataset).find? fun p => p.1 != p.2 with
    | some (x, y) => x < y
    | none => a.gm < b.gm

/-- The best of the masters heard. -/
def bestMaster : List Master → Option Master
  | [] => none
  | m :: ms => match bestMaster ms with
    | some b => some (if b.better m then b else m)
    | none => some m

/-- Whether a message comes in on the port, domain and transport of a tracker and, where PtpMaster names one, from that
address (R167, R168, R397). -/
def Dev.trkHears (s : Dev) (r : Nat) (f : TrkF) : Bool :=
  let m := 10 + r
  f.port == s.nat (Od.ptpPort m) && f.domain == s.nat (Od.ptpDomain m) && f.transport == s.nat (Od.trkTransport r) &&
    (s.nat (Od.ptpMaster m) == 0 || f.addr == s.nat (Od.ptpMaster m))

/-- An Announce among the masters heard. One whose Announces have ceased for LossTimeout no longer counts (log entry 81). -/
def Dev.trkHear (s : Dev) (r : Nat) (f : TrkF) (a : AnnF) : Dev :=
  let old := s.nat (Od.lossTimeout (10 + r)) * ticksPerMs
  let x : Master := ⟨f.ident, [a.priority1, a.cls, a.accuracy, a.variance, a.priority2], a.gm, a.steps, f.tick⟩
  s.modTrk r fun t => { t with heard := x :: t.heard.filter fun y => y.ident != x.ident && f.tick < y.tick + old }

/-- The master a tracker follows by what it has heard: the one PtpMaster names, else the best of its domain (R168). -/
def Dev.trkBest (s : Dev) (r : Nat) : Option Nat :=
  if s.nat (Od.ptpMaster (10 + r)) = 0 then (bestMaster (s.trk r).heard).map (·.ident)
  else (s.trk r).heard.head?.map (·.ident)

/-- A message that a tracker hears, taken where it passes R396. -/
def Dev.trkTake (s : Dev) (r : Nat) (f : TrkF) : Bool × Dev :=
  if !s.trkOn r || !s.trkHears r f || !f.ok then (false, s)
  else
  let s := s.tooOld 0 f.tick
  if s.nat (Od.trkAuthSpp r) = 0xFF then (true, s)
  else
    let (ok, s) := s.authOk (s.pipeOfInst r) f.auth
    match ok with
    | some true => (true, s)
    | some false => (false, (s.bump (Od.trkAuthFailures r)).flag Od.serviceSticky Bit.serviceSticky_AuthFailure)
    | none => (false, s)

/-- A message from the master a tracker follows. -/
def Dev.trkFrom (s : Dev) (r : Nat) (f : TrkF) : Bool × Dev :=
  if (s.trk r).master = some f.ident then s.trkTake r f else (false, s)

/-! ### What a master declares (R240, R253, Table 7-2) -/

/-- Whether R253 accepts a TLV. -/
def Dev.tlvValid (s : Dev) (x : TlvF) : Bool :=
  [0x0003, 0x4000, 0x8000].contains x.typ && x.org == s.nat Od.vendorOui % 2 ^ 24 && x.sub == 1 && x.version == 1 &&
    1 ≤ x.count && x.count ≤ 8 && x.length == 36 + 16 * x.count && x.chain.length == x.count

/-- The tick at which TS_0 had a value, counted back from now at the nominal rate. -/
def Dev.tickOf (s : Dev) (t : Int) : Nat := s.tick - ((s.tsNow 0 - t) * 10 / (16 * 2 ^ 32)).toNat

/-- D by the clockAccuracy of the latest Announce of a tracker's master (Table 7-2). -/
def Dev.declareAccuracy (s : Dev) (r : Nat) : Dev :=
  let t := s.trk r
  let d := accuracyBound t.accuracy
  (s.modRr (10 + r) fun x => { x with declared := d, declaredAt := t.accuracyAt, chain := [] }).put
    (Od.refDeclaredSource (10 + r)) (if d.isSome then 4 else 0)

/-- A TLV of the tracked master: its bound is the declaration where EbTlvAccept is 1; one that R253 rejects leaves D to
clockAccuracy. -/
def Dev.takeTlv (s : Dev) (r : Nat) (x : TlvF) : Dev :=
  let m := 10 + r
  if !s.tlvValid x then (s.flag (Od.boundSticky 0) Bit.boundSticky_UpstreamTlvRejected).declareAccuracy r
  else if s.on Od.ebTlvAccept then
    (s.modRr m fun r => { r with declared := some x.bound, declaredAt := s.tickOf x.time, chain := x.chain }).put
      (Od.refDeclaredSource m) 3
  else s

/-- Whether a TLV is one that brings the declaration. -/
def Dev.tlvDeclares (s : Dev) (x : Option TlvF) : Bool :=
  match x with
  | some x => s.tlvValid x && s.on Od.ebTlvAccept
  | none => false

/-- An Announce from the tracked master (R141, R126, R253). -/
def Dev.trkAnnounce (s : Dev) (r : Nat) (f : TrkF) (a : AnnF) : Dev :=
  let m := 10 + r
  let (ok, s) := s.trkTake r f
  let s := if ok then s.trkHear r f a else s
  if !ok ∨ s.trkBest r ≠ some f.ident then s
  else
    let s := s.put (Od.ptpClockClass m) a.cls
    let s := (s.modRr m fun x => { x with announceAt := f.tick, traceable := a.traceable }).lossNow m
    let other := match (s.trk r).master with
      | some i => i != f.ident
      | none => false
    let s := s.modTrk r fun t => { t with
      master := some f.ident, accuracy := a.accuracy, accuracyAt := f.tick, changed := t.changed || other, diff := if other then none else t.diff,
      delay := if other then none else t.delay, wait := if other then none else t.wait }
    let s := s.receiveQl m (announceQl a.cls a.accuracy (s.nat (Od.ptpAccuracyLimit m)))
    let s := match a.tlv with
      | some x => s.takeTlv r x
      | none => s
    let s := if s.tlvDeclares a.tlv then s else s.declareAccuracy r
    let offset := if a.utcValid then a.utcOffset else s.num Od.utcOffset
    let leap := if a.leap61 then 1 else if a.leap59 then 2 else 0
    let rx := (s.convert 0 f.tick f.fine).1
    let st : LeapSt := ⟨leap, offset, nextMidnight rx (offset + leapStep leap)⟩
    if a.utcValid then s.utcStatement m 3 offset (some st)
    else if s.selected = some m then s.leapStatement 3 st
    else s

/-! ### Offsets (R167) -/

/-- The mean path delay of a tracker; before the first exchange is complete it is free (log entry 42). -/
def Dev.trkDelay (s : Dev) (r : Nat) : Int × Dev :=
  match (s.trk r).delay with
  | some d => (d, s)
  | none =>
    let (d, s) := s.fresh
    (d, s.modTrk r fun t => { t with delay := some d })

/-- A Sync complete: it left the master at t1, its correctionField being corr, and came at a stamp. A change of master of the
selected reference is a switch, and a Stitch applies (R168). -/
def Dev.trkMeasure (s : Dev) (r tick fine : Nat) (t1 corr : Int) : Dev :=
  let m := 10 + r
  let t2 := (s.convert 0 tick fine).1
  let s := s.modTrk r fun t => { t with diff := some (t2 - t1 - corr), wait := none }
  let (d, s) := s.trkDelay r
  let s := s.measure m tick (t1 + corr + d - (t2 - (s.convert 0 tick 0).1))
  if (s.trk r).changed then
    let s := s.modTrk r fun t => { t with changed := false }
    if s.selected = some m then
      match s.offsetNow 0 m with
      | some x => s.stitchTo (x - s.sel.uOld.getD 0)
      | none => s
    else s
  else s

/-- A Sync from the tracked master; `origin` and `corr` in 2^-32 ns. -/
def Dev.trkSync (s : Dev) (r : Nat) (f : TrkF) (seq : Nat) (twoStep : Bool) (origin corr : Int) (tlv : Option TlvF) : Dev :=
  let m := 10 + r
  let (ok, s) := s.trkFrom r f
  if !ok then s
  else
    let s := s.signalSeen m f.tick
    let s := match tlv with
      | some x => s.takeTlv r x
      | none => s
    if twoStep then s.modTrk r fun t => { t with wait := some (seq, f.tick, f.fine, corr) }
    else s.trkMeasure r f.tick f.fine origin corr

/-- A Follow_Up completes a two-step Sync of its sequenceId. -/
def Dev.trkFollowUp (s : Dev) (r : Nat) (f : TrkF) (seq : Nat) (origin corr : Int) (tlv : Option TlvF) : Dev :=
  let (ok, s) := s.trkFrom r f
  if !ok then s
  else
    let s := match tlv with
      | some x => s.takeTlv r x
      | none => s
    match (s.trk r).wait with
    | some (n, k, fi, c) => if n = seq then s.trkMeasure r k fi origin (c + corr) else s
    | none => s

/-- A Delay_Resp that answers the Delay_Req on the way: t4 and correctionField in 2^-32 ns. -/
def Dev.trkDelayResp (s : Dev) (r : Nat) (f : TrkF) (seq : Nat) (t4 corr : Int) : Dev :=
  let (ok, s) := s.trkFrom r f
  if !ok then s
  else match (s.trk r).sent, (s.trk r).diff with
    | some (n, t3), some diff =>
      if n = seq then s.modTrk r fun t => { t with sent := none, delay := some (rdiv (diff + (t4 - corr - t3)) 2) } else s
    | _, _ => s

/-! ### What a tracker sends (R397) -/

/-- A message of a tracker, signed where TrkAuthSpp asks; its crypto work is that of the pipeline of instance r (log entry 88). -/
def Dev.trkSend (s : Dev) (r kind : Nat) (body : Body) : Bool × Dev :=
  let spp := s.nat (Od.trkAuthSpp r)
  let (x, s) := if spp = 0xFF then (.plain, s) else s.sign (s.pipeOfInst r) spp
  let port := s.nat (Od.ptpPort (10 + r))
  match x with
  | .withheld => (false, s)
  | .plain => (true, s.svcQueue { pipe := 4, port, kind, body })
  | .signed id done => (true, s.svcQueue { pipe := 4, port, kind, body, keyId := some id, done })

/-- Whether a tracker negotiates unicast. -/
def Dev.trkUni (s : Dev) (r : Nat) : Bool := s.on (Od.trkUnicast r) && s.nat (Od.ptpMaster (10 + r)) != 0

/-- A grant of a tracker: the tick it ends. -/
def Dev.trkGrant (s : Dev) (r typ : Nat) : Option Nat := Tab.get (fun _ => none) (s.trk r).grants typ

/-- Delay_Req at TrkLogDelayReq intervals. -/
def Dev.trkDelayReq (s : Dev) (r : Nat) : Dev :=
  let now := s.intervalOn 0 (s.num (Od.trkLogDelayReq r))
  let granted := !s.trkUni r || (match s.trkGrant r 2 with
    | some k => decide (s.tick < k)
    | none => false)
  if s.trkOn r && granted && s.running 0 && (s.trk r).slot < now then
    let n := (s.trk r).seq
    let s := s.modTrk r fun t => { t with slot := now }
    let (ok, s) := s.trkSend r 0x21 (.trkDelay r n)
    if ok then s.modTrk r fun t => { t with seq := (n + 1) % 65536 } else s
  else s

/-- Grants asked for where none is held or 60 s are left: Announce, Sync, Delay_Resp, for 300 s. -/
def Dev.trkRenew (s : Dev) (r : Nat) : Dev :=
  if s.trkOn r && s.trkUni r then
    let due (typ : Nat) : Bool := match s.trkGrant r typ with
      | some k => k ≤ s.tick + 60 * ticksPerSec
      | none => true
    let log (typ : Nat) : Int := match typ with
      | 0 => 0
      | 1 => s.num (Od.trkLogSync r)
      | _ => s.num (Od.trkLogDelayReq r)
    let asked := ([0, 1, 2].filter due).map fun typ => [typ, twos 8 (log typ), 300]
    if asked.isEmpty then s else (s.trkSend r 0x2C (.fixed ([0x0004, 10 + r] ++ asked.flatten))).2
  else s

/-- A GRANT, or a refusal with a duration of 0, from the tracked master. -/
def Dev.trkGranted (s : Dev) (r : Nat) (f : TrkF) (typ duration : Nat) : Dev :=
  let (ok, s) := s.trkTake r f
  if !ok then s
  else
    let g := if duration = 0 then none else some (s.tick + duration * ticksPerSec)
    s.modTrk r fun t => { t with grants := Tab.set (fun _ => none) t.grants (min 2 typ) g }

/-! ### Writes of areas 40, 44 and 48 -/

/-- Whether a value lies in lo … hi. -/
def within (lo hi v : Int) : Bool := decide (lo ≤ v) && decide (v ≤ hi)

/-- Whether the settings of an instance stand in the row of Table 12-3 for its profile. -/
def Wr.profileOk (w : Wr) (i : Nat) : Bool :=
  let tr := w.nat (Od.instTransport i)
  let dom := w.num (Od.instDomain i)
  let sync := w.num (Od.logSyncInterval i)
  let ann := w.num (Od.logAnnounceInterval i)
  let uni := w.on (Od.instUnicast i)
  let mc := w.on (Od.instMulticast i)
  match w.nat (Od.instProfile i) with
  | 0 => within 0 127 dom && within (-7) 1 sync && within (-3) 4 ann
  | 1 => within 0 127 dom && within (-7) 1 sync && within (-3) 4 ann && !uni
  | 2 => tr == 0 && within 24 43 dom && sync == -4 && ann == -3 && !uni
  | 3 => tr != 0 && within 44 63 dom && within (-7) 0 sync && within (-3) 0 ann && uni && !mc
  | 4 => tr == 0 && within 0 127 dom && within (-7) 0 sync && within (-3) 1 ann && !uni
  | 5 => tr == 0 && within 0 127 dom && within (-7) (-3) sync && within (-3) 0 ann && !uni
  | _ => false

/-- Whether no other enabled instance has the same port and domain (R387). -/
def Wr.instAlone (w : Wr) (i : Nat) : Bool :=
  (List.range 32).all fun j => j == i || !w.on (Od.instEnable j) || w.nat (Od.instPort j) != w.nat (Od.instPort i) ||
    w.nat (Od.instDomain j) != w.nat (Od.instDomain i)

/-- Whether no other enabled entry has the same SPP value. -/
def Wr.sppAlone (w : Wr) (e : Nat) : Bool :=
  (List.range 16).all fun d => d == e || !w.on (Od.sppEnable d) || w.nat (Od.sppValue d) != w.nat (Od.sppValue e)

/-- Checks of a write beside those of R48. -/
def Dev.svcCheck (s : Dev) (w : Wr) (k : Nat) (v : Int) : Status :=
  let i := k / 256
  let n := v.toNat
  if 0x4010 ≤ i ∧ i < 0x4030 then
    let u := i - 0x4010
    firstBad [need (!w.on (Od.instEnable u) || (w.profileOk u && w.instAlone u)) .range,
      need (k != Od.authSpp u || (List.range 16).any fun e => w.on (Od.sppEnable e) && w.num (Od.sppValue e) == v) .range]
  else if 0x4060 ≤ i ∧ i < 0x4070 then
    let e := i - 0x4060
    need (!w.on (Od.sppEnable e) || w.sppAlone e) .range
  else if k = Od.cookieMasterSlot then need ((s.slot n).typ != 0 && (s.slot n).imported) .range
  else if 0x4820 ≤ i ∧ i < 0x4824 then
    let q := i - 0x4820
    need (v == 0 || (List.range 4).all fun j => j == q || s.nat (Od.pipeState j) == 0) .state
  else if i = 0x4810 ∧ k % 256 ≠ 0 then
    need (n / 2 ^ 24 % 256 ≤ 128 && n / 2 ^ 16 % 256 ≤ 1 && n / 256 % 256 < 8 && n % 256 == 0) .range
  else .ok

/-- The effect of a write. -/
def Dev.svcAct (s : Dev) (_w : Wr) (k : Nat) (v : Int) : Dev :=
  let i := k / 256
  if k = Od.serviceSticky then s.clearBits k v
  else if 0x4010 ≤ i ∧ i < 0x4030 ∧ k % 256 = 1 then
    let u := i - 0x4010
    if v = 0 then
      let own := (s.svc.clients.filter fun p => match p.2 with
        | some c => c.kind == 1 && c.inst == u
        | none => false).map (·.1)
      (s.each own (·.endGrants ·)).put k v
    else if s.on k then s
    else (s.put k v).modInst u fun _ => {}
  else if 0x4820 ≤ i ∧ i < 0x4824 then
    let q := i - 0x4820
    let s := s.put k v
    if v = 0 then s.pipeBack q else if s.nat (Od.pipeState q) = 0 then s.pipeDrain q else s
  else s.put k v

/-- A draining pipeline is empty. -/
def Dev.pipeEmpty (s : Dev) (q : Nat) : Dev :=
  if s.nat (Od.pipeState q) = 1 ∧ s.bucketsWaiting q = 0 ∧ s.svc.queue.all (·.pipe != q) then s.put (Od.pipeState q) 2 else s

end Sys2Proof.Machine
end

