-- ==== Sys2Proof/Machine/Transmit.lean ====
section
/-! DEFINITION. The messages of the service pipelines and trackers as the MACs send them (R355, R357 to R359, R384, R385, R388):
what depends on the transmission formed for its instant, launch-time frames sent or missed, and frames of transmit slots. -/

namespace Sys2Proof.Machine

/-- A frame with its insertion request met for a point that crosses the reference plane at a stamp (R357): the field is written, and
the checksum follows. The fraction below 1 ns of a PTP timestamp is added to correctionField, which stands 26 octets before. -/
def Dev.inserted (s : Dev) (x : SlotFrame) (k fi : Nat) : List Byte :=
  match x.insert with
  | none => x.frame
  | some r =>
    let t := (s.convert r.scale k fi).1
    let new := if r.format = 1 then putBytes r.offset (beBytes 8 (s.ntpStamp t)) x.frame
      else
        let c := beNat ((x.frame.drop (r.offset - 26)).take 8)
        let part := (rdiv (t % 2 ^ 32) 65536).toNat
        putBytes (r.offset - 26) (beBytes 8 (c + part))
          (putBytes r.offset (beBytes 6 ((ptpStamp t).getD 0 0) ++ beBytes 4 ((ptpStamp t).getD 1 0)) x.frame)
    fixChecksum x.frame new

/-- What a message carries whose point crosses the reference plane at a stamp: every field that depends on the bound is of the update
whose window holds that time (R247, R384, R385). -/
def Dev.bodyFields (s : Dev) (b : Body) (k fi : Nat) : List Nat :=
  let at' (i k fi : Nat) : Int := (s.convert (s.nat (Od.instTimeScale i)) k fi).1
  match b with
  | .fixed fs => fs
  | .announce i dst seq => [i, dst, seq] ++ s.announceBody i k
  | .sync i dst seq => [i, dst, seq, 0] ++ s.syncBody i k (at' i k fi)
  | .syncTwo i dst seq => [i, dst, seq, 1]
  | .followUp i dst seq k0 f0 => [i, dst, seq] ++ s.syncBody i k (at' i k0 f0)
  | .pdelayReq i seq => [i, seq]
  | .pdelayResp i seq k0 f0 => [i, seq, 0] ++ ptpStamp (at' i k0 f0) ++ ptpStamp (at' i k fi)
  | .pdelayRespTwo i seq k0 f0 => [i, seq, 1] ++ ptpStamp (at' i k0 f0)
  | .pdelayFollow i seq k0 f0 => [i, seq] ++ ptpStamp (at' i k0 f0)
  | .ntp f n extra => s.ntpFields f n k fi ++ extra
  | .trkDelay r seq => [10 + r, s.nat (Od.ptpDomain (10 + r)), seq]
  | .slot n x => n :: (s.inserted x k fi).map (·.toNat)

/-- What follows the transmission of a message at a stamp: InstClockClass and InstClockAccuracy show what was served, a two-step
message has its Follow_Up composed, and the stamp of a delay request is kept. -/
def Dev.afterSent (s : Dev) (m : Queued) (k fi : Nat) : Dev :=
  match m.body with
  | .announce i _ _ =>
    let fs := s.announceFields i k
    (s.put (Od.instClockClass i) (fs.getD 2 248)).put (Od.instClockAccuracy i) (fs.getD 3 0xFE)
  | .syncTwo i dst seq => s.sendFollowUp m.pipe i dst seq k fi
  | .pdelayRespTwo i seq _ _ => s.ptpSend m.pipe i 0x2A (.pdelayFollow i seq k fi) false
  | .pdelayReq i _ => s.modInst i fun r => { r with pdelayAt := some (k, fi) }
  | .trkDelay r seq => s.modTrk r fun t => { t with sent := some (seq, (s.convert 0 k fi).1) }
  | _ => s

/-- The first message of a list that a test picks, and the others. -/
def pickFirst (pick : Queued → Bool) : List Queued → Option Queued × List Queued
  | [] => (none, [])
  | m :: ms =>
    if pick m then (some m, ms)
    else
      let (x, rest) := pickFirst pick ms
      (x, m :: rest)

/-- A message sent as a frame whose point crosses the reference plane at x: out of the queue, counted for its pipeline. -/
def Dev.sendQueued (s : Dev) (m : Queued) (rest : List Queued) (f : TxF) (x : Nat) : Dev :=
  let (k, fi) := carried x
  let fields := s.bodyFields m.body k fi ++ m.keyId.toList ++ m.launch.toList
  let s := (s.modSvc fun v => { v with queue := rest }).when (m.pipe < 4) fun s =>
    (s.bump64 (Od.pipeTxPackets m.pipe) 1).pmcCount (0x0204 + m.pipe) 1
  (s.sendFrame m.port m.kind { f with core := false, ready := m.ready, ordinal := m.ordinal } x fields (some m)).afterSent m k fi

/-- The next message of a port that is no launch-time frame and whose crypto work is done; on a pair none passes one before it in
the order of R456. -/
def Dev.nextQueued (s : Dev) (p : Nat) : Option Queued × List Queued :=
  if s.leads ∨ s.md = Mode.follower then
    let (m, rest) := pickFirst (fun m => m.port == p && m.launch.isNone) s.svc.queue
    if m.any (·.done ≤ s.cryNow) then (m, rest) else (none, s.svc.queue)
  else pickFirst (fun m => m.port == p && m.launch.isNone && m.done ≤ s.cryNow) s.svc.queue

/-- TX_FRAME_COMMIT: a frame of a management core, or the next message of the port, or a frame of the MAC itself. A late FRAME_SEND
waits for no gate (R361). -/
def Dev.txCommit (s : Dev) (p : Nat) (f : TxF) : Dev :=
  if f.core then s.commitFrame p f
  else
    let (m, rest) := s.nextQueued p
    match m with
    | none => s.commitFrame p f
    | some m =>
      let x := s.pointAt p f
      let f := { f with core := false, ready := m.ready, ordinal := m.ordinal }
      match m.body with
      | .slot _ y =>
        let f := { f with cls := y.cls, len := y.frame.length }
        if s.txFree p y.cls x ∧ s.guardsClear p f x then s.sendQueued m rest f x else s
      | _ => if s.mayStart p f ∧ s.inOrder p f then s.sendQueued m rest f x else s

/-! ### Launch-time frames (R358, R385) -/

/-- Whether a message is signed once more as it is composed again: those of an instance are. -/
def Dev.signAgain (s : Dev) (m : Queued) : Signed × Dev :=
  match m.body with
  | .announce i _ _ => s.signInst m.pipe i
  | .sync i _ _ => s.signInst m.pipe i
  | .followUp i _ _ _ _ => s.signInst m.pipe i
  | .pdelayResp i _ _ _ => s.signInst m.pipe i
  | _ => (match m.keyId with
    | some id => .signed id m.done
    | none => .plain, s)

/-- A launch that the MAC reports as missed: the message is composed once more for a new T; a second miss drops it. -/
def Dev.launchMiss (s : Dev) (m : Queued) (rest : List Queued) : Dev :=
  let s := s.modSvc fun v => { v with queue := rest }
  if m.again then ((s.bump (Od.launchDrops m.pipe)).flag Od.serviceSticky Bit.serviceSticky_LaunchDrop).report 186 m.port
  else
    let (x, s) := s.signAgain m
    let (t, s) := s.launchTime m.port
    match x with
    | .signed id done => s.svcQueue { m with keyId := some id, launch := some t, again := true, done }
    | .plain => s.svcQueue { m with keyId := none, launch := some t, again := true }
    | .withheld => s

/-- The launch-time frame of a port whose T comes first. -/
def Dev.nextLaunch (s : Dev) (p : Nat) : Option Queued × List Queued :=
  let ts := s.svc.queue.filterMap fun m => if m.port = p then m.launch else none
  pickFirst (fun m => m.port == p && m.launch == some (ts.foldl min (ts.headD 0))) s.svc.queue

/-- T of a port's next launch-time frame has come, which reached the MAC at a tick: it is sent, or discarded as missed where it came
late or the transmitter is not free. On a standby it is withheld, and misses come with the log. -/
def Dev.launchFrame (s : Dev) (p arrived : Nat) (f : TxF) : Dev :=
  let (m, rest) := s.nextLaunch p
  match m with
  | none => s
  | some m =>
    let t := m.launch.getD 0
    if s.tick < t then s
    else if s.md = Mode.follower then
      (s.modSvc fun v => { v with launched := Tab.set (fun _ => none) v.launched p (some m) }).sendQueued m rest f (t * 65536)
    else if s.afterExchange f then s.modSvc fun v => { v with queue := rest }
    else if arrived + 2 * ticksPerUs ≤ t ∧ s.txFree p f.cls (t * 65536) then s.sendQueued m rest f (t * 65536)
    else
      (((s.bump (Od.launchMissed p)).flag (Od.portSticky p) Bit.portSticky_LaunchMissed).logInput 6 [p, s.cntOf t]).launchMiss m rest

/-- A missed launch as the log tells a standby of it: of the frame that waits there, or of the one withheld last. -/
def Dev.launchMissed (s : Dev) (p q kind : Nat) : Dev :=
  let (m, rest) := pickFirst (fun m => m.port == p && m.pipe == q && m.kind == kind && m.launch.isSome) s.svc.queue
  match m with
  | some m => s.launchMiss m rest
  | none => match Tab.get (fun _ => none) s.svc.launched p with
    | some m => if m.pipe = q ∧ m.kind = kind then s.launchMiss m s.svc.queue else s
    | none => s

end Sys2Proof.Machine
end

