-- ==== Sys2Proof/Machine/Outputs.lean ====
section
/-! DEFINITION. The Tugs (chapter 9): the runs of schedule entries, periodic pulses, snapshots, barriers, time-of-day outputs,
and the writes of areas 28. -/

namespace Sys2Proof.Machine

/-! ### Pins (R290, R291) -/

/-- 2 ns in 1.6 ns / 2^20. -/
def mergeGap : Int := 1310720

/-- An instant on the 1.5625 ps grid of the phase interpolators, the nearest (R290; DESIGN CHOICE, log entry 86). -/
def onGrid (x : Int) : Int := rdiv x 1024 * 1024

/-- TioOutDelay of a pin in 1.6 ns / 2^20. -/
def Dev.outDelay (s : Dev) (p : Nat) : Int := rdiv (s.num (Od.tioOutDelay p) * 1048576 * 10) (65536 * 16)

/-- The electrical level of a pin for its active level: TioPolarity maps it (R291). -/
def Dev.highFor (s : Dev) (p : Nat) (active : Bool) : Bool := active != (s.nat (Od.tioPolarity p) == 1)

/-- The level a pin is driven to now, none while it is high-impedance: DISABLED, CAPTURE, shared and not of the ACTIVE engine
(R288, R444), or while a reset is held (R550). Held or muted it is low (R292); else its pulses and its latch together, by TioPolarity (R291). -/
def Dev.pinLevel (s : Dev) (p : Nat) : Option Bool :=
  let x := s.tio p
  let now : Int := (s.fineNow : Int) + s.outDelay p
  if s.nat (Od.tioFunction p) ≠ 2 ∨ !s.drivesNet Od.tioShared p ∨ s.mode.held.isSome then none
  else if s.nat (Od.tioState p) ≠ 1 then some false
  else some (s.highFor p (x.latch || (decide (x.onAt ≤ now) && decide (now < x.offAt))))

/-- An active interval of a driven pin from one instant to another: it merges with one that has not ended 2 ns before. A shared
pin of an engine that is not ACTIVE counts it, so that the two engines' objects agree, and stays high-impedance (R444). -/
def Dev.drive (s : Dev) (p : Nat) (start stop : Int) : Dev :=
  if s.nat (Od.tioState p) ≠ 1 then s
  else
    let x := s.tio p
    let d := s.outDelay p
    let joins := decide (start ≤ x.offAt + mergeGap) && x.offAt != 0
    let s := if x.latch ∨ joins then (s.bump (Od.tioMerged p)).flag Od.schedSticky Bit.schedSticky_Merged
      else s.bump (Od.tioPulses p)
    (s.modTio p fun y => { y with onAt := if joins then y.onAt else start, offAt := max y.offAt stop.toNat }).when
      (s.drivesNet Od.tioShared p) (·.emit (.pulse p (onGrid (start - d)) (onGrid (stop - d)) (s.highFor p true)))

/-- The level latch of a pin set (R291, R292). -/
def Dev.setLatch (s : Dev) (p : Nat) (on : Bool) : Dev :=
  let x := s.tio p
  let driven := s.nat (Od.tioState p) == 1
  let s := s.modTio p fun y => { y with latch := on, offAt := if y.latch && !on then max y.offAt s.fineNow else y.offAt }
  if !driven ∨ x.latch = on then s
  else
    let s := if !on then s
      else if (s.fineNow : Int) ≤ x.offAt + mergeGap ∧ x.offAt ≠ 0 then
        (s.bump (Od.tioMerged p)).flag Od.schedSticky Bit.schedSticky_Merged
      else s.bump (Od.tioPulses p)
    s.when (s.drivesNet Od.tioShared p) (·.emit (.latch p (s.highFor p on)))

/-- The next instant of a pin's periodic generator, in 2^-32 ns on its scale (R289). -/
def Dev.nextPulse (s : Dev) (p : Nat) : Int :=
  let per := fine16 (s.num (Od.tioPeriod p))
  let base := fine16 (s.num (Od.tioPhase p)) + (s.tio p).align
  base + ((s.tio p).pos - base) / per * per + per

/-- A pin's periodic pulse whose instant has come. -/
def Dev.periodicPulse (s : Dev) (p : Nat) : Dev :=
  let n := s.nat (Od.tioTimeScale p)
  if s.nat (Od.tioFunction p) = 2 ∧ s.nat (Od.tioPeriod p) ≠ 0 ∧ s.nat (Od.tioState p) = 1 ∧ s.running n then
    let t := s.nextPulse p
    if t ≤ s.tsNow n then
      let s := s.modTio p fun x => { x with pos := t }
      s.drive p (s.instantOf n t) (s.instantOf n (t + fine16 (s.num (Od.tioWidth p))))
    else s
  else s

/-! ### Actions (Table 9-2) -/

/-- A record for M3's queue (R309). -/
def Dev.coreRecord (s : Dev) (r : CoreRec) : Dev :=
  let s := s.pmcQueue 0x0800 s.tugs.events.length
  if s.tugs.events.length < 256 then
    let r := { r with flags := r.flags + (if s.tugs.eventLoss then 2 else 0) }
    s.modTugs fun t => { t with events := t.events ++ [r], eventLoss := false }
  else
    ((s.bump Od.coreEventDropped).flag Od.schedSticky Bit.schedSticky_CoreEventDropped).modTugs fun t =>
      { t with eventLoss := true }

/-- The next record delivered to M3. -/
def Dev.deliverEvent (s : Dev) : Option CoreRec × Dev :=
  match s.tugs.events with
  | [] => (none, s)
  | r :: rest => (some r, (s.pmcQueue 0x0800 s.tugs.events.length).modTugs fun t => { t with events := rest })

/-- FRAME_SEND: whether it runs, or is skipped (R308, R358, R361). -/
def Dev.frameSend (s : Dev) (p slot : Nat) (t : Int) (n : Nat) : Bool × Dev :=
  let at' := (s.instantOf n t / 16).toNat
  let x := s.slotFrame p slot (at' / 65536)
  let none' := s.nat Od.serviceState == 0 || s.nat Od.serviceState == 3
  if none' ∨ x.frame.isEmpty ∨ !s.portUp p then (false, s)
  else
    let f : TxF := { cls := x.cls, len := x.frame.length, core := false, request := none, tick := at' / 65536,
                     fine := at' % 65536, fragments := 0, lastFrag := 0,
                     ready := at' / 65536 - s.cntZero.getD 0, ordinal := slot }
    if s.afterExchange f then (true, s)
    else if s.txFree p x.cls at' then
      (true, s.sendFrame p 6 f at' (slot :: (s.inserted x (at' / 65536) (at' % 65536)).map (·.toNat)))
    else
      -- it leaves at the first instant the transmitter is free, before what else waits there
      let s := (s.bump Od.schedLateRuns).flag Od.schedSticky Bit.schedSticky_FrameLate
      (true, s.modSvc fun v => { v with queue := { pipe := 4, port := p, kind := 6, body := .slot slot x } :: v.queue })

/-- The counters of ports copied to their snapshot objects (R378). -/
def Dev.snapPorts (s : Dev) : Dev :=
  let keys := ((List.range 18).map fun p => (List.range 19).filterMap fun j =>
      if p < 16 ∨ j ≤ 9 ∨ 17 ≤ j then some (Od.rxFrames p + j) else none).flatten ++
    ((List.range 16).map fun p => (List.range 16).map fun j => Od.rxDropClass p 0 + j).flatten
  s.each keys fun s k => s.put (k + 0x80) (s.num k)

/-- The client-table counters copied (R414). -/
def Dev.snapClients (s : Dev) : Dev :=
  s.each ((List.range 6).map (Od.clientCount + ·) ++ (List.range 6).map (Od.admitReviewLost + ·)) fun s k =>
    s.put (k + 0x80) (s.num k)

/-- The performance counters copied (R494). -/
def Dev.snapPmc (s : Dev) : Dev :=
  let s := s.pmcLatchAll
  let s := s.each (List.range 64) fun s k => s.put (Od.pmcSnapValue k) (s.num (Od.pmcValue k))
  (s.put Od.pmcSnapOverflowLo (s.num Od.pmcOverflowLo)).put Od.pmcSnapOverflowHi (s.num Od.pmcOverflowHi)

/-- A snapshot of the sets of a mask, for an entry (R310). -/
def Dev.snapshot (s : Dev) (mask entry : Nat) : Dev :=
  let s := ((s.bump Od.snapSeq).put Od.snapEntry entry).put Od.snapTick s.cnt
  let s := (s.put Od.snapMask mask).when (mask.testBit 0) fun s =>
    s.each (List.range 8) fun s n => s.put (Od.snapTs n) (if s.running n then tsNum (s.tsNow n) else 0)
  ((s.when (mask.testBit 1) (·.snapPmc)).when (mask.testBit 2) (·.snapPorts)).when (mask.testBit 3) (·.snapClients)

/-- Whether the engine is one of a pair at work, so that a barrier waits for the digests (R311). -/
def Dev.barrierWaits (s : Dev) : Bool := s.nat Od.pairState == 2 || s.nat Od.pairState == 4

/-- BARRIER. -/
def Dev.barrier (s : Dev) (r : CoreRec) (t : Int) : Dev :=
  let s := ((s.put Od.barrierId r.param).put Od.barrierTime (tsNum t)).put Od.barrierTick r.tick
  if s.barrierWaits then
    ((s.put Od.barrierConfirmed 0).coreRecord { r with flags := r.flags + 4 }).modTugs fun g =>
      { g with barriers := g.barriers ++ [(r, (s.tsNow 0 * 1024 / second).toNat)] }
  else (s.put Od.barrierConfirmed 1).coreRecord { r with flags := r.flags + 12 }

/-- The barriers whose epoch and the one after it have matched are confirmed. -/
def Dev.confirmBarriers (s : Dev) (matched : Nat → Bool) : Dev :=
  let done (b : CoreRec × Nat) : Bool := matched b.2 && matched (b.2 + 1)
  let go := s.tugs.barriers.filter done
  let s := s.modTugs fun t => { t with barriers := t.barriers.filter fun b => !done b }
  s.each go fun s b => (s.coreRecord { b.1 with flags := b.1.flags % 2 + 12 }).put Od.barrierConfirmed 1

/-! ### Runs (R304 to R308) -/

/-- Whether an entry has a run to make now. -/
def Dev.entryDueNow (s : Dev) (e : Nat) : Bool :=
  let v := s.nat (Od.schedEntry e)
  let x := s.sched e
  let n := entryScale v
  x.state == 1 && s.running n && (x.late || decide (x.next < entryReached v (s.tsNow n)))

/-- An occurrence counted as skipped. -/
def Dev.skipRun (s : Dev) (e : Nat) : Dev :=
  (s.modSched e fun y => { y with skipped := y.skipped + 1 }).flag Od.schedSticky Bit.schedSticky_Skipped

/-- An entry's run noted: its number and time, a late one as such; DONE after the last. -/
def Dev.noteRun (s : Dev) (e : Nat) (t : Int) (late ran : Bool) : Dev :=
  let v := s.nat (Od.schedEntry e)
  let x := s.sched e
  let next := if late then x.next else x.next + 1
  let s := s.modSched e fun y => { y with
    next, late := false, runs := if ran then (y.runs + 1) % 4294967296 else y.runs,
    lastRun := if ran then tsNum t else y.lastRun, state := stateAfter v next y }
  let s := if ran then s.bump Od.schedRuns else s.skipRun e
  let s := if late then (s.bump Od.schedLateRuns).flag Od.schedSticky Bit.schedSticky_LateRun else s
  s.when (decide ((s.sched e).state = 2) && (entryFlags v).testBit 0) (·.flag Od.schedSticky Bit.schedSticky_EntryDone)

/-- One run of an entry, its snapshot left to the whole tick. -/
def Dev.runEntry (s : Dev) (e : Nat) : Dev :=
  let v := s.nat (Od.schedEntry e)
  let x := s.sched e
  let late := x.late
  let n := entryScale v
  -- a late run stands for the last occurrence passed
  let k := if late then x.next - 1 else x.next
  let t := entryAt v k
  let target := entryTarget v
  let tick := if late then s.cnt else s.cntOf (s.tickAt n t)
  let r : CoreRec := { tick, occurrence := (k + 1) % 4294967296, param := entryParam v, entry := e, line := target,
                       flags := if late then 1 else 0 }
  match entryAction v with
  | 1 => (s.drive target (s.instantOf n t) (s.instantOf n (t + fine16 (entryWidth v)))).noteRun e t late true
  | 2 => (s.setLatch target (entryArg v == 1)).noteRun e t late true
  | 3 => (s.coreRecord r).noteRun e t late true
  | 4 =>
    let (ran, s) := s.frameSend target (entryParam v) t n
    s.noteRun e t late ran
  | 6 => (s.barrier r t).noteRun e t late true
  | _ => s.noteRun e t late true

/-- The runs of one tick, by action and number (R305). A COMMIT comes before them and is not among them. -/
def Dev.runSchedule (s : Dev) : Dev :=
  if s.nat Od.powerState = 3 then s
  else
    let due := s.entries.filter s.entryDueNow
    let of' (a : Nat) : List Nat := due.filter fun e => entryAction (s.nat (Od.schedEntry e)) == a
    let snaps := of' 5
    let mask := snaps.foldl (fun m e => m ||| entryParam (s.nat (Od.schedEntry e))) 0
    let s := s.each (of' 2 ++ of' 1 ++ of' 4) (·.runEntry ·)
    let s := match snaps.head? with
      | some e => (s.snapshot mask e).each snaps (·.runEntry ·)
      | none => s
    s.each (of' 3 ++ of' 6) (·.runEntry ·)

/-! ### Entries written (R302) -/

/-- SchedEntriesUsed. -/
def Dev.showEntries (s : Dev) : Dev := s.put Od.schedEntriesUsed s.entries.length

/-- Whether the fields of an entry stand in Table 9-2 and its Period is long enough. -/
def entryFieldsOk (v : Nat) : Bool :=
  let target := entryTarget v
  let arg := entryArg v
  let width := entryWidth v
  let param := entryParam v
  let per := entryPeriod v
  let common := entryScale v ≤ 7 && entryFlags v ≤ 1 && tsNs (entryField v 8 16) < 1000000000
  let least := per == 0 || (if entryAction v = 1 then 262144 else 65536000) ≤ per
  common && least && match entryAction v with
  | 1 => target ≤ 31 && arg == 0 && param == 0 && 131072 ≤ width && (per == 0 || width + 131072 ≤ per)
  | 2 => target ≤ 31 && arg ≤ 1 && param == 0 && width == 0
  | 3 => target ≤ 63 && arg == 0 && width == 0
  | 4 => target ≤ 15 && arg == 0 && width == 0 && param ≤ 63
  | 5 => target == 0 && arg == 0 && width == 0 && param != 0 && param < 16
  | 6 => target ≤ 63 && arg == 0 && width == 0
  | _ => false

/-- The checks of R302 but those of a stopped scale and of TOO_LATE, which a restored entry is spared. -/
def Dev.entryCheck (s : Dev) (w : Wr) (e v : Nat) (live : Bool) : Status :=
  let n := entryScale v
  if entryAction v = 0 then firstBad [need (v == 0) .range, need ((s.sched e).state != 4) .state]
  else firstBad [
    need (entryFieldsOk v) .range,
    need ((s.sched e).state != 4) .state,
    need (!live || s.running n) .state,
    need ((entryAction v != 1 && entryAction v != 2) || w.nat (Od.tioFunction (entryTarget v)) == 2) .state,
    need (!live || decide (s.tsNow n + (s.nat Od.schedMinLead * 1000 : Nat) * 2 ^ 32 ≤ entryTime v)) .tooLate]

/-- The runs an entry still has to make now, those of a SNAPSHOT with their snapshot. -/
def Dev.runWhatIsDue (s : Dev) (e : Nat) : Dev :=
  let v := s.nat (Od.schedEntry e)
  let x := s.sched e
  let owed := entryReached v (s.tsNow (entryScale v)) - x.next + if x.late then 1 else 0
  if !s.entryDueNow e ∨ s.nat Od.powerState = 3 then s
  else s.each (List.range owed) fun s _ =>
    (s.when (entryAction v == 5) (·.snapshot (entryParam v) e)).runEntry e

/-- An entry replaced or freed; an occurrence due before still runs (R302). -/
def Dev.writeEntry (s : Dev) (e v : Nat) : Dev :=
  let s := (s.runWhatIsDue e).put (Od.schedEntry e) v
  (s.modSched e fun _ => if entryAction v = 0 then {} else { state := 1 }).showEntries

/-- A requester's view of an entry. -/
def Dev.querySched (s : Dev) (q : Req) (e : Nat) : Dev :=
  let x := s.sched e
  let next := if x.state = 0 ∨ x.state = 2 then 0
    else if x.state = 4 then s.nat Od.stageAt
    else tsNum (entryAt (s.nat (Od.schedEntry e)) x.next)
  s.each [(Od.schedQueryEntry, e), (Od.schedQState, x.state), (Od.schedQNextTime, next), (Od.schedQRuns, x.runs),
    (Od.schedQSkipped, x.skipped), (Od.schedQLastRun, x.lastRun), (Od.schedQOpId, x.opId)]
    fun s p => s.putMine q p.1 (p.2 : Nat)

/-- TioFunction changes from OUTPUT (R303). -/
def Dev.leaveOutput (s : Dev) (p : Nat) : Dev :=
  let cut := s.nat (Od.tioState p) == 1 && s.pinActive p
  let s := (s.when cut (·.bump (Od.tioTruncated p))).modTio p fun x =>
    { x with latch := false, offAt := min x.offAt s.fineNow }
  let hit (e : Nat) : Bool :=
    let v := s.nat (Od.schedEntry e)
    (entryAction v == 1 || entryAction v == 2) && entryTarget v == p && (s.sched e).state == 1
  let go := s.entries.filter hit
  (s.each go fun s e => s.modSched e fun x => { x with state := 3, late := false }).when (!go.isEmpty)
    (·.flag Od.schedSticky Bit.schedSticky_Skipped)

/-! ### Time-of-day outputs (R297 to R299) -/

/-- The projection of R299 for a pulse at a time on TS_0, in 2^-16 ns. -/
def Dev.todProjection (s : Dev) (t : Int) : Nat :=
  let b := s.nat (Od.bound 0)
  let c := (s.ebe.served.head?.map (·.tick)).getD s.tick
  let ahead := s.tickAt 0 t - c
  if b = sat64 then sat64
  else satAdd b (s.nat Od.todoutTerm + drift (s.nat Od.modelFreqUnc) (ahead + ticksPerSec / 128))

/-- The octets of a message (Table 4-5) for a pulse at whole second `sec`. -/
def Dev.todMessageBytes (s : Dev) (sec seq proj : Nat) : List Byte :=
  let t : Int := sec * second
  let p := s.nat Od.leapPending
  let at' := tsTime (s.nat Od.leapTime)
  let applied := p != 0 && at' ≤ t
  let offset := s.num Od.utcOffset + (if applied then leapStep p else 0)
  let leap := if applied then 0 else p
  let ps := cdiv (proj * 1000) 65536
  let unc := if proj = sat64 then sat32 else if 0xFFFFFFFD < ps then 0xFFFFFFFE else ps
  let v := s.servedFor 0 s.tick
  let flags := (if s.nat (Od.bound 0) = sat64 then 0 else 1) + (if v.flags.testBit 0 then 2 else 0)
  let body := beBytes 1 1 ++ beBytes 1 0x1A ++ beBytes 8 sec ++ beBytes 2 (twos 16 offset) ++ beBytes 1 leap ++
    beBytes 1 (classQl v.clsDefault) ++ beBytes 8 (if leap = 0 then 0 else (at' / second).toNat) ++ beBytes 4 unc ++
    beBytes 1 flags ++ beBytes 1 seq
  beBytes 1 0xC5 ++ beBytes 1 0x7A ++ body ++ beBytes 2 (crc16 body)

/-- Whether a pin gives a pulse at every second of TS_0: what R297 asks of the pin of a ToD output. -/
def Dev.secondPulses (s : Dev) (p : Nat) : Bool :=
  s.nat (Od.tioFunction p) == 2 && s.nat (Od.tioTimeScale p) == 0 && s.nat (Od.tioPeriod p) == 65536000000000 &&
    s.nat (Od.tioPhase p) == 0

/-- A message of TODOUT_j whose time has come: TodoutLead before the next labelled pulse. -/
def Dev.todSend (s : Dev) (j : Nat) : Dev :=
  let lead : Int := (s.nat (Od.todoutLead j) * 1000000 : Nat) * 2 ^ 32
  let pulse := (s.tsNow 0 + lead) / second * second
  let sent := s.tugs.todSent.any fun m => m.output == j && decide (pulse ≤ m.pulse)
  if s.on (Od.todoutEnable j) && s.secondPulses (s.nat (Od.todoutPulsePin j)) && outputsRun s.md && s.nat Od.powerState != 3 && s.running 0 && decide (s.tsNow 0 < pulse) &&
      !sent then
    let seq := (s.nat (Od.todoutSeqNo j) + 1) % 256
    let proj := s.todProjection pulse
    let bytes := s.todMessageBytes (pulse / second).toNat seq proj
    let s := ((s.bump (Od.todoutMessages j)).put (Od.todoutSeqNo j) seq).when (s.drivesNet Od.todoutShared j)
      (·.emit (.tod j bytes))
    let m : TodSent := { output := j, pulse := pulse, bound := proj }
    let rest := s.tugs.todSent.filter fun m => m.output != j || decide (s.tsNow 0 ≤ m.pulse)
    s.modTugs fun t => { t with todSent := m :: rest }
  else s

/-- The messages whose pulse has come are held against the bound of R247 (R299); SAT was sent as unknown. -/
def Dev.todCheck (s : Dev) : Dev :=
  let past (m : TodSent) : Bool := decide (m.pulse ≤ s.tsNow 0) && m.bound != sat64
  let s' := s.each (s.tugs.todSent.filter past) fun s m =>
    let b := (s.servedFor 0 (s.tickAt 0 m.pulse)).bound
    if m.bound - s.nat Od.todoutTerm < b then
      (s.bump (Od.todoutUnderstated m.output)).flag Od.schedSticky Bit.schedSticky_TodoutUnderstated
    else s
  -- a message held against its bound stays, so that its pulse is not labelled twice
  s'.modTugs fun t => { t with todSent := t.todSent.map fun m => if past m then { m with bound := sat64 } else m }

/-! ### Synthesizers (R294, R295) -/

/-- The fractional-N word of a synthesizer at each CNT tick (R130): the cycles of its output for one tick, from the INC of its scale
then in force, in 2^-96 cycle. -/
def Dev.osynWord (s : Dev) (i : Nat) : Nat :=
  cdiv (s.nat (Od.osynFreq i) * s.inc (s.nat (Od.osynTimeScale i)) * 2 ^ 24) (10 ^ 15)

/-- Whether CLKOUT_m is driven with a clock: it is on, the mode runs the outputs, and on a shared net this engine is ACTIVE
(R292, R296, R444). -/
def Dev.clkoutRuns (s : Dev) (m : Nat) : Bool := s.on (Od.clkoutEnable m) && outputsRun s.md && s.drivesNet Od.clkoutShared m

/-- Rising edge j after whole second `sec` at CLKOUT_m (R296), a CNT instant in 1.6 ns / 2^20, none where it is not driven: the edges
of OSYN_s, SECOND aligned, at the second plus OsynPhase and AlignPhase, every ClkoutDivider-th of them, ClkoutDelay early. -/
def Dev.clkoutEdge (s : Dev) (m : Nat) (sec : Int) (j : Nat) : Option Int :=
  if !s.clkoutRuns m then none else some <|
  let o := s.nat (Od.clkoutSource m)
  let phase := fine16 (s.num (Od.osynPhase o)) + s.osynAlignPhase o
  let each := rdiv (j * s.nat (Od.clkoutDivider m) * second * 1000000) (max 1 (s.nat (Od.osynFreq o)) : Nat)
  s.instantOf (s.nat (Od.osynTimeScale o)) (sec * second + phase + each) -
    rdiv (s.num (Od.clkoutDelay m) * 1048576 * 10) (65536 * 16)

/-- What remains of a synthesizer's phase error is pulled at SlopeLimit over an update. -/
def Dev.osynPull (s : Dev) : Dev :=
  s.each (List.range 4) fun s i =>
    if s.nat (Od.osynState i) ≠ 2 then s
    else
      let e := fine16 (s.num (Od.osynPhaseError i))
      let lim := s.slopeIn (ticksPerSec / 128)
      let left := if e.natAbs ≤ lim.natAbs then 0 else if 0 < e then e - lim else e + lim
      (s.put (Od.osynPhaseError i) (to16 left)).put (Od.osynState i) (if left = 0 then s.osynRest i else 2)

/-- A change whose phase the manual does not state: the synthesizer does not jump, and its error is free (log
entry 45). -/
def Dev.osynUnknown (s : Dev) (i : Nat) : Dev :=
  let (x, s) := s.fresh
  s.pullOsyn i (x % max 1 (s.targetPeriod (32 + i)))

/-! ### Writes of areas 28 and 28E -/

/-- The enabled groups a target belongs to. -/
def Dev.grouped (s : Dev) (p : Nat) : Bool :=
  (List.range 8).any fun g => s.on (Od.alignEnable g) && (s.alignTargets g).contains p

/-- Limits of R289 for the values a write leaves. -/
def Wr.tioOk (w : Wr) (p : Nat) : Bool :=
  let per := w.nat (Od.tioPeriod p)
  let phase := w.nat (Od.tioPhase p)
  let width := w.nat (Od.tioWidth p)
  let top := if per = 0 then 65536000000000000 else per
  phase < top && 131072 ≤ width && width + 131072 ≤ top

/-- R297 for the values a write leaves. -/
def Wr.todoutOk (w : Wr) (j : Nat) : Bool :=
  w.new.secondPulses (w.nat (Od.todoutPulsePin j)) && decide (320 * 1000 + 10 * w.nat (Od.todoutBaud j) ≤ w.nat (Od.todoutLead j) * w.nat (Od.todoutBaud j))

/-- Half a period of a synthesizer in 2^-16 ns. -/
def Wr.halfPeriod (w : Wr) (i : Nat) : Int := (65536 * 1000000000 * 1000000 / (2 * max 1 (w.nat (Od.osynFreq i))) : Nat)

def Dev.outCheck (s : Dev) (w : Wr) (k : Nat) (v : Int) : Status :=
  let i := k / 256
  let sub := k % 256
  if 0x2800 ≤ i ∧ i < 0x2820 then
    let p := i - 0x2800
    firstBad [need (!((sub == 2 || sub == 3 || sub == 4) && s.grouped p)) .state,
      need (!(3 ≤ sub && sub ≤ 5) || w.tioOk p) .range]
  else if 0x2820 ≤ i ∧ i < 0x2828 then
    need (!((sub == 2 || sub == 3) && s.on (Od.clkoutEnable (i - 0x2820)))) .state
  else if 0x2828 ≤ i ∧ i < 0x282C then
    let o := i - 0x2828
    firstBad [need (!(sub == 4 && v == 1) || w.nat (Od.osynFreq o) % 1000000 == 0) .range,
      need (sub != 5 || decide (v.natAbs ≤ w.halfPeriod o)) .range]
  else if (i = 0x282C ∨ i = 0x282D) ∧ sub = 1 then need (v == 0 || w.todoutOk (i - 0x282C)) .range
  else if 0x28E0 ≤ i ∧ i < 0x28F0 then s.entryCheck w (k - Od.schedEntry 0) v.toNat true
  else .ok

/-- TioFunction of a pin. -/
def Dev.tioFunctionTo (s : Dev) (p : Nat) (v : Int) : Dev :=
  let was := s.nat (Od.tioFunction p)
  let s := if was = 2 ∧ v ≠ 2 then s.leaveOutput p else s
  let s := s.put (Od.tioFunction p) v
  if v = 2 then
    if was = 2 then s
    else (s.put (Od.tioState p) (tioStateIn s.md)).modTio p fun x =>
      { x with pos := max x.pos (s.tsNow (s.nat (Od.tioTimeScale p))) }
  else s.put (Od.tioState p) 0

def Dev.outAct (s : Dev) (w : Wr) (k : Nat) (v : Int) : Dev :=
  let i := k / 256
  let sub := k % 256
  if k = Od.schedSticky then s.clearBits k v
  else if k = Od.schedQueryEntry then s.querySched w.req v.toNat
  else if 0x2800 ≤ i ∧ i < 0x2820 then
    let p := i - 0x2800
    if sub = 1 then s.tioFunctionTo p v
    else if sub = 2 then
      -- the generator goes on with the first whole pulse of the new scale
      let s := s.put k v
      s.modTio p fun x => { x with pos := s.tsNow v.toNat }
    else if sub = 3 ∨ sub = 4 then
      -- no pulse of the new grid lies before it
      (s.put k v).modTio p fun x => { x with pos := max x.pos (s.tsNow (s.nat (Od.tioTimeScale p))) }
    else s.put k v
  else if 0x2828 ≤ i ∧ i < 0x282C then
    let o := i - 0x2828
    let on := s.nat (Od.osynState o) != 0
    match sub with
    | 1 =>
      if v = s.num k then s
      else
        let s := s.put k v
        if v ≠ 0 ∧ !outputsRun s.md then s else s.startOsyn o
    | 5 => (s.put k v).pullOsyn o (fine16 (v - s.num k))
    | 4 =>
      let was := s.num k
      let s := s.put k v
      if !on ∨ was = v then s
      else if v = 0 then (s.put (Od.osynState o) 3).put (Od.osynPhaseError o) 0
      else (s.put (Od.osynState o) 1).osynUnknown o
    | 6 => s
    | _ =>
      let was := s.num k
      let s := s.put k v
      if on ∧ was ≠ v then s.osynUnknown o else s
  else if 0x28E0 ≤ i ∧ i < 0x28F0 then s.writeEntry (k - Od.schedEntry 0) v.toNat
  else s.put k v

end Sys2Proof.Machine
end

