-- ==== Sys2Proof/Machine/Oscillator.lean ====
section
/-! DEFINITION. The oscillators in readiness and in service (R174 to R182), and the model's store and reset (R187, R188). -/

namespace Sys2Proof.Machine

/-! ### The pins (R178, R181) -/

/-- A pin shows a level. -/
def Pin.shows (p : Pin) (level : Bool) (tick : Nat) : Pin :=
  if p.raw = some level then p else { p with raw := some level, since := tick }

/-- Samples of OVENRDY are taken every 1 ms from the release of PORST_N: the number of the first at or after a tick. -/
def Dev.ovenSampleFrom (s : Dev) (k : Nat) : Nat := cdiv (k - s.keep.ovenFrom.getD 0) ticksPerMs

/-- The number of the last sample of OVENRDY. -/
def Dev.ovenSampleLast (s : Dev) : Nat := s.since (s.keep.ovenFrom.getD 0) / ticksPerMs

/-- OVENRDY's level is taken once all samples of OvenReadyDebounce show it, ATOMLOCK's once it has lasted 1 ms (R178,
R181). -/
def Dev.filterPins (s : Dev) : Dev :=
  s.modKeep fun k =>
    let o := k.ovenrdy
    let first := s.ovenSampleFrom o.since
    let seen := o.raw.isSome && decide (first ≤ s.ovenSampleLast)
    let long := seen && decide (first + s.nat Od.ovenReadyDebounce ≤ s.ovenSampleLast)
    let a := k.atomlock
    { k with
      ovenrdy := if long then { o with taken := o.raw } else o
      ovenSeen := k.ovenSeen || seen
      atomlock := if a.raw.isSome && decide (ticksPerMs ≤ s.since a.since) then { a with taken := a.raw } else a }

/-- Whether the level taken of OVENRDY is the ready one. -/
def Dev.ovenPin (s : Dev) : Bool :=
  match s.keep.ovenrdy.taken with
  | some l => l == (s.nat Od.ovenReadyPolarity == 0)
  | none => false

/-- Whether the level taken of ATOMLOCK is the locked one. -/
def Dev.atomPin (s : Dev) : Bool :=
  match s.keep.atomlock.taken with
  | some l => l == (s.nat Od.atomLockPolarity == 0)
  | none => false

/-! ### The oven (R179, R180) -/

/-- OvenWarmupElapsed as it reads, in s. -/
def Dev.ovenElapsed (s : Dev) : Nat :=
  match s.keep.ovenFrom with
  | some k => min sat32 (s.since k / ticksPerSec)
  | none => 0

/-- The condition of R179. -/
def Dev.ovenCond (s : Dev) : Bool :=
  let timed := decide (s.nat Od.ovenWarmupMin ≤ s.ovenElapsed)
  match s.nat Od.ovenReadyMode with
  | 0 => s.ovenPin
  | 1 => timed
  | _ => s.ovenPin && timed

/-- Whether the oven drives TSYN and OVENRDY counts. -/
def Dev.ovenWatched (s : Dev) : Bool := s.loClass == 1 && s.nat Od.ovenReadyMode != 1

/-- OvenState, and the first time the condition holds after PORST_N. -/
def Dev.ovenStep (s : Dev) : Dev :=
  let cond := s.ovenCond
  let s := s.when (cond && s.keep.ovenHeldAt.isNone) (·.modKeep fun k => { k with ovenHeldAt := some s.tick })
  s.put Od.ovenState (if s.isLive 1 && s.ovenWatched then 3 else if !s.keep.ovenSeen then 0 else if cond then 2 else 1)

/-! ### Faults in service (R181) -/

/-- Whether the engine has left WARMUP with its oscillator (R177, R181). -/
def Dev.loInService (s : Dev) : Bool := decide (Mode.acquire ≤ s.md)

/-- LoState DEGRADED, reported with the pin. -/
def Dev.loDegrade (s : Dev) (detail sticky count : Nat) : Dev :=
  (((s.put Od.loState 3).flag Od.loSticky sticky).bump count).live 1 detail true

/-- The oscillator's fault ends: LoState is READY again where it was DEGRADED, and an oven settles anew (R180). -/
def Dev.loRestore (s : Dev) : Dev :=
  if !s.isLive 1 then s
  else
    let s := if s.loClass = 1 then s.modKeep fun k => { k with ovenEndAt := some s.tick } else s
    (if s.nat Od.loState = 3 then s.put Od.loState 2 else s).live 1 0 false

/-- The pins as they stand now, after verdicts `oven` and `atom` on them: what has changed since is shown, and in service it
raises the active class's fault or ends it. -/
def Dev.judgePins (s : Dev) (oven atom : Bool) : Dev :=
  let s := s.when (s.ovenPin && !oven) (·.flag Od.loSticky Bit.loSticky_OvenReady)
  let s := s.when (s.atomPin && !atom) fun s =>
    (s.modKeep fun k => { k with atomSince := k.atomlock.since }).flag Od.loSticky Bit.loSticky_AtomLocked
  let s := s.putB Od.atomLocked s.atomPin
  let fails := s.loInService && s.nat Od.loState == 2
  let s :=
    if s.ovenWatched then
      if s.ovenPin then s.loRestore
      else s.when (oven && fails) (·.loDegrade 0 Bit.loSticky_OvenUnready Od.ovenUnreadyCount)
    else if s.loClass = 1 then s.loRestore
    else if s.loClass = 2 then
      if s.atomPin then s.loRestore
      else s.when (atom && fails) (·.loDegrade 1 Bit.loSticky_AtomUnlocked Od.atomUnlockCount)
    else s
  s.ovenStep

/-- A change that bears on the pins (a level, a polarity, a mode of readiness, the time that passes), and what follows. -/
def Dev.pinsAfter (s : Dev) (f : Dev → Dev) : Dev := (f s).filterPins.judgePins s.ovenPin s.atomPin

/-- OVENRDY shows a level. -/
def Dev.ovenrdy (s : Dev) (level : Bool) : Dev :=
  s.pinsAfter (·.modKeep fun k => { k with ovenrdy := k.ovenrdy.shows level s.tick })

/-- ATOMLOCK shows a level. -/
def Dev.atomlock (s : Dev) (level : Bool) : Dev :=
  s.pinsAfter (·.modKeep fun k => { k with atomlock := k.atomlock.shows level s.tick })

/-- A write of a setting of the pins: a level that a new polarity makes the locked one is so from now on. -/
def Dev.pinSetting (s : Dev) (k : Nat) (v : Int) : Dev :=
  let turned := k = Od.atomLockPolarity ∧ v ≠ s.num k
  let s := s.pinsAfter (·.put k v)
  if turned then s.modKeep fun x => { x with atomSince := s.tick } else s

/-! ### Readiness (R176) -/

/-- The condition of Table 5-2 for the active class; `amplitude` is the time in ms the crystal's swing has been settled. -/
def Dev.loCond (s : Dev) (amplitude : Nat) : Bool :=
  match s.loClass with
  | 0 => decide (s.nat Od.xtalSettle ≤ amplitude)
  | 1 => s.ovenCond
  | _ => s.atomPin && decide (s.nat Od.atomLockDwell * ticksPerSec ≤ s.since s.keep.atomSince)

/-- LoState READY, and the event of rows 11, 12 and 35. -/
def Dev.loReady (s : Dev) (amplitude : Nat) (tsyn : Bool) : Dev :=
  let s := (s.putB Od.tsynLocked tsyn).pinsAfter id
  let s := if s.nat Od.loState = 1 ∧ s.loCond amplitude ∧ tsyn then
      (s.put Od.loState 2).flag Od.loSticky Bit.loSticky_LoReady else s
  if s.md = Mode.warmup ∧ s.nat Od.loState = 2 ∧ s.mode.ready = false then
    let s := s.modMode fun m => { m with ready := true }
    let s := if s.on Od.pairEnable ∧ s.pair.hello.isNone then
        (s.put Od.pairState 1).modPair fun p => { p with waiting := some s.tick } else s
    s.post .oscReady
  else s

/-! ### The model (R187, R188) -/

/-- A store of the model in flash. -/
def Dev.storeModel (s : Dev) : Dev :=
  let m : Stored := {
    cls := s.loClass, freq := s.loFreq s.loClass, offset := s.num Od.modelOffset, ageing := s.num Od.modelAgeing,
    tempco := s.num Od.modelTempCoef, anchor := s.nat Od.modelAnchorTime, anchorTemp := s.num Od.modelAnchorTemp,
    uy := s.nat Od.modelFreqUnc, ua := s.nat Od.modelAgeingUnc, ut := s.nat Od.modelTempUnc, storedAt := s.tick }
  (s.modKeep fun k => { k with stored := some m, storeFrom := s.tick }).flag Od.keeperSticky Bit.keeperSticky_ModelStored

/-- A store while TRAINED, ModelStoreInterval after the last. -/
def Dev.storeTrained (s : Dev) : Dev :=
  if s.nat Od.modelState = 3 ∧ s.nat Od.modelStoreInterval * ticksPerSec ≤ s.since s.keep.storeFrom then s.storeModel else s

end Sys2Proof.Machine
end

