-- ==== Sys2Proof/Machine/Settings.lean ====
section
/-! DEFINITION. Writes of the mode, time, servo, reference, oscillator and bound objects: areas 10, 20, 21, 22, 24 and 2A (R35,
R94 to R104, R119 to R127, R151, R168, R171, R174, R175, R188, R257). -/

namespace Sys2Proof.Machine

/-! ### Steering by software (R94 to R104) -/

/-- Whether an INC is within ±200 ppm of INC_nom (R94). -/
def incInRange (inc : Nat) : Bool := ((inc : Int) - incNom).natAbs * 5000 ≤ incNom

/-- The INC that IncWrite and IncWriteFrac make. -/
def incFrom (int frac : Nat) : Nat := int * 16777216 + frac % 16777216

/-- Whether a TimeSet now is a step (R104). -/
def Dev.timeSetSteps (s : Dev) : Bool := !s.inMode [Mode.calibrate, Mode.warmup, Mode.test]

/-- INC of a scale under SOFTWARE, without the slew in progress, which stays on top of it (R99, R102): FreqSteer reads it in
0.001 ppt. -/
def Dev.writeInc (s : Dev) (n inc : Nat) : Dev :=
  let slew := s.num (Od.freqNow n) - s.num (Od.freqSteer n)
  let f := steerOf inc
  ((s.put (Od.freqSteer n) f).put (Od.freqNow n) (f + slew)).setInc n ((inc : Int) + (s.scale n).slewInc).toNat

/-- FreqSteer under SOFTWARE (R93). -/
def Dev.writeSteer (s : Dev) (n : Nat) (f : Int) : Dev := s.writeInc n (incOf f)

/-- A PhaseAdjust of a scale (R101), in 2^-16 ns. -/
def Dev.writePhase (s : Dev) (n : Nat) (v : Int) : Dev :=
  let s := s.modScale n fun c => { c with slew := c.slew + 125 * v }
  s.put (Od.slewRemaining n) (rdiv (s.scale n).slew 125)

/-- Whether a TimeSet of scale n is a step (R104): in SAFE of any scale, elsewhere of a scale that runs. -/
def Dev.timeSetStep (s : Dev) (n : Nat) : Bool := s.timeSetSteps && (s.running n || s.md == Mode.safe)

/-- TimeSet (R104), to a time in 2^-32 ns. A stopped scale that software owns starts with it; where that is a step, it is one
from 0, as which a stopped scale reads (log entry 79). What is left of a slew is cleared. -/
def Dev.writeTime (s : Dev) (n : Nat) (t : Int) : Dev :=
  let v := (t * 2 ^ 40).toNat
  let step := s.timeSetStep n
  let f := incOf (s.num (Od.freqNow n))
  let s := if !s.running n then (if step then (s.startTs n 0 f).stepTs n v else s.startTs n v f)
    else if step then s.stepTs n v else s.setTs n v
  let s := (s.put (Od.timeOrigin n) 2).flag (Od.tsSticky n) Bit.tsSticky_HostTimeSet
  let c := s.scale n
  -- what the slew added to INC goes with it
  let s := if c.slewInc = 0 then s
    else (s.put (Od.freqNow n) (s.num (Od.freqSteer n))).setInc n ((s.inc n : Int) - c.slewInc).toNat
  s.noSlew n

/-- Owner of a scale by Tables 3-1 and 3-3; in TEST and SAFE that of the mode before (R97). -/
def Dev.ownerByTable (s : Dev) (n : Nat) : Nat :=
  let m := if s.inMode [Mode.test, Mode.safe] then s.mode.before else s.md
  if n = 0 then (ownerIn m).getD 0 else if m ≤ 1 then 0 else ownerOf (s.nat (Od.tsSource n))

/-! ### TsSource (R119, R122) -/

/-- A change of TsSource of TS_1 … TS_7. While TS_0 is stopped the scale waits for CALIBRATE (R118); a stopped scale starts as
from DISABLED. -/
def Dev.sourceTo (s : Dev) (n v : Nat) : Dev :=
  if s.nat (Od.tsSource n) = v then s
  else
    let s := s.put (Od.tsSource n) v
    if !s.running 0 then s
    else
      let s := s.modScale n fun c => { c with await := none }
      let on := s.running n
      let begun (s : Dev) : Dev :=
        ((s.put (Od.freqSteer n) 0).put (Od.freqNow n) 0).flag (Od.tsSticky n) Bit.tsSticky_Started
      let s := if s.nat (Od.tsState n) = 2 then s.put (Od.tsState n) 1 else s
      let s := match v with
        | 0 => if on then s.stopTs n else s
        | 2 =>
          let x := s.derivedValue n (s.val72 0)
          if on then (s.setOne n x).setIncOne n (s.derivedInc n (s.inc 0))
          else begun (s.startTs n x (s.derivedInc n (s.inc 0)))
        | 3 =>
          let s := s.modScale n fun c => { c with phase0 := none }
          if on then (if s.isTimeRef (s.nat (Od.tsReference n)) then s else s.latchLast n)
          else s.modScale n fun c => { c with await := some s.tick }
        | _ => if on then s else begun (s.startTs n (s.val72 0) incNom)
      s.setOwner n (s.ownerByTable n)

/-- TsReference: a frequency reference that comes to steer the scale is noted (R243), and its phase is taken anew (R111). -/
def Dev.referenceTo (s : Dev) (n m : Nat) : Dev :=
  let changed := s.nat (Od.tsReference n) != m
  let s := s.put (Od.tsReference n) m
  let s := if changed then s.modScale n fun c => { c with phase0 := none } else s
  if changed && s.nat (Od.tsSource n) == 3 && s.running n && !s.isTimeRef m then s.latchLast n else s

/-! ### Leap seconds by the host (R126, R127) -/

/-- Whether the leap a write leaves behind is refused. -/
def Dev.leapRefused (s : Dev) (w : Wr) : Bool :=
  let p := w.nat Od.leapPending
  let t := tsTime (w.nat Od.leapTime)
  (w.has Od.leapTime && t % second != 0) ||
    (p != 0 && (decide (t ≤ s.tsNow 0) || !leapFits t (w.num Od.utcOffset + leapStep p)))

/-- LeapPending and LeapTime as a write leaves them. -/
def Dev.writeLeap (s : Dev) (w : Wr) : Dev :=
  let was := s.nat Od.leapPending
  let p := w.nat Od.leapPending
  let s := (s.put Od.leapPending p).put Od.leapTime (w.num Od.leapTime)
  if p ≠ 0 then
    let s := s.put Od.leapSource 1
    s.when (w.has Od.leapPending) (·.flag Od.utcSticky Bit.utcSticky_LeapAnnounced)
  else if was ≠ 0 then (s.put Od.leapSource 0).flag Od.utcSticky Bit.utcSticky_LeapCancelled
  else s

/-! ### Areas 20 and 21 -/

def Dev.timeCheck (s : Dev) (w : Wr) (k : Nat) (v : Int) : Status :=
  let i := k / 256
  let sub := k % 256
  if i = 0x2000 then
    if sub = 2 ∨ sub = 3 then firstBad [need (!s.leapRefused w) .range, need (s.nat Od.leapSourceMode == 1) .state] else .ok
  else if 0x2010 ≤ i ∧ i < 0x2018 then
    let n := i - 0x2010
    if sub = 1 then need (if n = 0 then v == 1 else v != 1) .range
    else if 8 ≤ sub ∧ sub ≤ 10 then
      let d : Derived := ⟨w.num (Od.derivedRate n), w.nat (Od.derivedAnchor n), w.nat (Od.derivedStart n)⟩
      let moved := w.has (Od.derivedAnchor n) || w.has (Od.derivedStart n)
      let steps := s.follows n && moved && decide (psTolerance < s.derivedMove n d)
      firstBad [need (!s.derivedRefused n d moved) .state, need (!steps || s.journalFree) .busy]
    else .ok
  else if 0x2110 ≤ i ∧ i < 0x2118 then
    let n := i - 0x2110
    let soft := need (s.nat (Od.incOwner n) == 1) .state
    match sub with
    | 2 => need (v == 0 || s.inMode [Mode.test, Mode.safe]) .state
    | 3 => soft
    | 7 => firstBad [need (incInRange (incFrom v.toNat (w.nat (Od.incWriteFrac n)))) .range, soft]
    | 8 => soft
    -- what is left, with every PhaseAdjust of the write so far
    | 9 => firstBad [need (((s.scale n).slew + 125 * sumI (w.upNow (Od.phaseAdjust n))).natAbs ≤ 125 * 65536000000000) .range, soft]
    | 11 =>
      let step := s.timeSetStep n
      firstBad [soft, need (!step || s.bit Od.stepPermit n) .state, need (!step || s.journalFree) .busy]
    | _ => .ok
  else .ok

def Dev.timeAct (s : Dev) (w : Wr) (k : Nat) (v : Int) : Dev :=
  let i := k / 256
  let sub := k % 256
  if k = Od.utcSticky then s.clearBits k v
  else if k = Od.utcOffset then s.utcTo (s.tsNow 0) v
  else if k = Od.leapPending ∨ k = Od.leapTime then
    if w.leads k [Od.leapPending, Od.leapTime] then s.writeLeap w else s
  else if 0x2010 ≤ i ∧ i < 0x2018 then
    let n := i - 0x2010
    match sub with
    | 1 => if n = 0 then s else s.sourceTo n v.toNat
    | 5 => s.clearBits k v
    | 7 => s.referenceTo n v.toNat
    | 8 | 9 | 10 =>
      if w.leads k [Od.derivedRate n, Od.derivedAnchor n, Od.derivedStart n] then
        s.writeDerived n ⟨w.num (Od.derivedRate n), w.nat (Od.derivedAnchor n), w.nat (Od.derivedStart n)⟩
          (w.has (Od.derivedAnchor n) || w.has (Od.derivedStart n))
      else s
    | _ => s.put k v
  else if 0x2100 ≤ i ∧ i < 0x2108 then if sub = 9 then s.clearBits k v else s.put k v
  else if 0x2110 ≤ i ∧ i < 0x2118 then
    let n := i - 0x2110
    match sub with
    | 2 => s.setOwner n (if v = 1 then 1 else s.ownerByTable n)
    | 3 => s.writeSteer n v
    | 7 => s.writeInc n (incFrom v.toNat (w.nat (Od.incWriteFrac n)))
    | 9 => s.writePhase n v
    | 11 => s.writeTime n (tsTime v.toNat)
    | _ => s.put k v
  else s.put k v

/-! ### References: area 22 -/

/-- R168: no two enabled PTP references share port, domain and a master that is named. -/
def Wr.mastersDiffer (w : Wr) (m : Nat) : Bool :=
  !w.on (Od.refEnable m) || w.nat (Od.ptpMaster m) == 0 ||
    [10, 11, 12, 13].all fun c => c == m || !w.on (Od.refEnable c) || w.nat (Od.ptpPort c) != w.nat (Od.ptpPort m) ||
      w.nat (Od.ptpDomain c) != w.nat (Od.ptpDomain m) || w.nat (Od.ptpMaster c) != w.nat (Od.ptpMaster m)

def Dev.refsCheck (_s : Dev) (w : Wr) (k : Nat) (v : Int) : Status :=
  let i := k / 256
  let sub := k % 256
  if 0x2200 ≤ i ∧ i < 0x2210 then
    let m := i - 0x2200
    if sub = 0x22 then need (v == 0 || w.nat (Od.refinFreq m) == 1) .range
    else if 10 ≤ m ∧ m < 14 ∧ (sub = 1 ∨ (0x30 ≤ sub ∧ sub ≤ 0x32)) then need (w.mastersDiffer m) .range
    else .ok
  else if 0x22C0 ≤ i ∧ i < 0x22C8 ∧ sub = 1 then need (v == 0 || w.alignOk (i - 0x22C0)) .range
  else .ok

/-- What has been measured of a reference is of no use after a change of what it is. -/
def Dev.forgetMeasured (s : Dev) (m : Nat) : Dev :=
  s.modRr m fun r => { r with
    meas := [], firstAt := none, edge := none, label := none, unlabelled := 0, consistent := 0, tod := [] }

/-- RefEnable (rows 1 and 2 of Table 4-6). -/
def Dev.enableTo (s : Dev) (m : Nat) (v : Int) : Dev :=
  let was := s.on (Od.refEnable m)
  let s := s.put (Od.refEnable m) v
  if was = (v != 0) then s
  else
    let s := if 10 ≤ m ∧ m < 14 then s.resetTrk (m - 10) else s
    let s := if v = 0 then s.disableRef m else s.enableRef m
    if m < 8 then
      if v = 0 then s.awlShow (32 + m) else (s.refPrescale m).awlStart (32 + m)
    else s

def Dev.refsAct (s : Dev) (w : Wr) (k : Nat) (v : Int) : Dev :=
  let i := k / 256
  let sub := k % 256
  if k = Od.selectSticky then s.clearBits k v
  else if 0x2200 ≤ i ∧ i < 0x2210 then
    let m := i - 0x2200
    match sub with
    | 0x01 => s.enableTo m v
    | 0x05 | 0x06 => (s.put k v).takeQl m
    | 0x0A => s.clearBits k v
    | 0x20 => if s.num k = v then s else ((s.put k v).refPrescale m).forgetMeasured m
    | 0x22 => if s.num k = v then s else ((s.put k v).forgetMeasured m).takeQl m
    | 0x30 | 0x31 | 0x32 => if s.num k = v then s else (s.put k v).resetTrk (m - 10)
    | 0x40 => if s.num k = v then s else ((s.put k v).forgetMeasured m).lossNow m
    | _ => s.put k v
  else if 0x22C0 ≤ i ∧ i < 0x22C8 ∧ sub = 1 then s.enableAlign (i - 0x22C0) (w.on k)
  else s.put k v

/-! ### Oscillators and the Keeper: area 24 -/

/-- Frequencies of Table 5-1 for LO_OCXO. -/
def ocxoFreqs : List Int := [10000000, 12800000, 20000000, 25000000, 40000000, 50000000, 100000000]

def Dev.loCheck (s : Dev) (w : Wr) (k : Nat) (v : Int) : Status :=
  if k = Od.loSource ∨ k = Od.loFrequency then
    let f := w.num Od.loFrequency
    need (if w.nat Od.loSource = 2 then f == 10000000 else ocxoFreqs.contains f) .range
  else if k = Od.modelReset then need (v == 0 || s.nat (Od.incOwner 0) != 3) .state
  else .ok

def Dev.loAct (s : Dev) (k : Nat) (v : Int) : Dev :=
  if k = Od.loSticky ∨ k = Od.keeperSticky ∨ k = Od.holdoverSticky then s.clearBits k v
  else if k = Od.modelReset then (if v = 0 then s else s.resetModel)
  else if k = Od.tempExternal then (s.put k v).modKeep fun x => { x with extAt := some s.tick }
  else if k = Od.ovenReadyMode ∨ k = Od.ovenReadyPolarity ∨ k = Od.atomLockPolarity then s.pinSetting k v
  else s.put k v

/-! ### The mode and the bounds: areas 10 and 2A -/

def Dev.modeAct (s : Dev) (k : Nat) (v : Int) : Dev :=
  if k = Od.modeSticky then s.clearBits k v
  else if k = Od.modeRequest then s.hostRequest v.toNat
  else if k = Od.modeArm then (s.put k v).serviceUpdate
  else s.put k v

def Dev.boundAct (s : Dev) (k : Nat) (v : Int) : Dev :=
  if 0x2A00 ≤ k / 256 ∧ k / 256 < 0x2A08 ∧ k % 256 = 0x13 then s.clearBits k v else s.put k v

end Sys2Proof.Machine
end

