-- ==== Sys2Proof/Machine/Update.lean ====
section
/-! DEFINITION. Containers, flash slots and updates (R437, R438, R530 to R535), and the engine's hours (R538). -/

namespace Sys2Proof.Machine

/-! ### Containers and slots -/

/-- SignerClass of a Kind (Table 13-5): 0 VENDOR, 1 CUSTOMER. -/
def signerOf (kind : Nat) : Nat := if kind = 3 ∨ kind = 5 then 1 else 0

/-- Whether a container's signer stands: root key not revoked, or SignerKey of CustomerSignerHash. -/
def Dev.signerOk (s : Dev) (b : Box) : Bool :=
  decide (b.signerIndex < 4) && b.sigOk &&
    (if b.signerClass = 0 then !s.bit Od.vendorRootRevoked b.signerIndex
     else b.signerHash == s.nat (Od.customerSignerHash b.signerIndex))

/-- Whether R438 accepts a container. -/
def Dev.boxOk (s : Dev) (b : Box) : Bool :=
  b.formatOk && decide (b.kind ≤ 5) && b.signerClass == signerOf b.kind && s.signerOk b &&
    decide (s.nat (Od.securityFloor b.kind) ≤ b.security) && b.digestOk

/-- Whether a slot is valid (R530). -/
def Dev.slotValid (s : Dev) (f : SlotF) : Bool :=
  f.dirOk && [0, 1, 2, 3, 4].all (fun k => f.boxes.any (·.kind == k)) && f.boxes.all s.boxOk

/-- A STRING value of octets padded with zeros. -/
def paddedString (bs : List Byte) : Int :=
  let l := bs.takeWhile (· != 0)
  (256 ^ l.length + beNat l : Nat)

/-- A container read from its octets (Table 13-5). -/
def boxOf (bs : List Byte) : Box :=
  let cls := octetsOf bs 6 1
  let index := octetsOf bs 7 1
  { formatOk := octetsOf bs 0 4 == 0x4D454C53 && octetsOf bs 4 1 == 1
    kind := octetsOf bs 5 1
    signerClass := cls
    signerIndex := index
    security := octetsOf bs 8 4
    version := paddedString ((bs.drop 12).take 24)
    signerHash := Config.sha384 ((bs.drop 88).take 97)
    sigOk := Config.sigVerifies cls (if cls = 0 then index else octetsOf bs 88 97) (bs.take 192) (octetsOf bs 192 96)
    digestOk := Config.sha384 (bs.drop 288) == octetsOf bs 40 48 }

/-! ### Staging (R531) -/

def Dev.modUpdate (s : Dev) (f : Update → Update) : Dev := { s with update := f s.update }

/-- Whether an UPDATE record is IN_PROGRESS: one at most (R536). -/
def Dev.updating (s : Dev) : Bool := s.acc.journal.any fun r => r.kind == 2 && r.outcome == 0

/-- The octet of the staging buffer at an offset, none where no chunk has brought it. -/
def stagedAt : List (Nat × List Byte) → Nat → Option Byte
  | [], _ => none
  | (o, bs) :: t, i => if o ≤ i then (match bs[i - o]? with | some b => some b | none => stagedAt t i) else stagedAt t i

/-- UpdateBegin, UpdateChunk and UpdateApply: the fields. -/
def beginKind (v : Nat) : Nat := octets 8 v 0 1
def beginTotal (v : Nat) : Nat := octets 8 v 4 4
def chunkOffset (v : Nat) : Nat := octets 1024 v 0 4
def chunkLength (v : Nat) : Nat := octets 1024 v 4 2
def applyAt (v : Nat) : Nat := octets 24 v 0 16
def applyFlags (v : Nat) : Nat := octets 24 v 16 1

def Dev.updateCheck (s : Dev) (_ : Wr) (k : Nat) (v : Int) : Status :=
  let n := v.toNat
  let idle := need (!s.updating) .busy
  if k = Od.updateBegin then
    firstBad [need (beginKind n ≤ 5 && decide (1 ≤ beginTotal n) && decide (beginTotal n ≤ 33554432 - 4096)) .range,
      need (octets 8 n 1 3 == 0) .reservedBits, idle]
  else if k = Od.updateChunk then
    let l := chunkLength n
    firstBad [need (decide (1 ≤ l) && decide (l ≤ 1016) && decide (chunkOffset n + l ≤ s.update.total)) .range,
      need (octets 1024 n 6 2 == 0) .reservedBits, need (s.nat Od.updateState == 1 || s.updating) .state, idle]
  else if k = Od.updateApply then
    firstBad [need (decide (tsNs (applyAt n) < 1000000000)) .range,
      need (decide (applyFlags n ≤ 1) && octets 24 n 17 7 == 0) .reservedBits,
      need (s.updating || (s.nat Od.updateState == 1 && s.nat Od.updateReceived == s.update.total)) .state,
      idle, need s.journalFree .busy]
  else .ok

/-- UpdateBegin: a staging buffer is opened. -/
def Dev.updateBegin (s : Dev) (v : Nat) : Dev :=
  let s := s.modUpdate fun u => { kind := beginKind v, total := beginTotal v, micro := u.micro }
  ((s.put Od.updateReceived 0).put Od.updateState 1).put Od.updateError 0

/-- UpdateChunk: UpdateReceived counts each octet of the buffer once. -/
def Dev.updateChunk (s : Dev) (v : Nat) : Dev :=
  let l := chunkLength v
  let bs := beBytes l (octets 1024 v 8 l)
  let new := (List.range l).countP fun i => (stagedAt s.update.data (chunkOffset v + i)).isNone
  (s.put Od.updateReceived (s.nat Od.updateReceived + new : Nat)).modUpdate fun u =>
    { u with data := (chunkOffset v, bs) :: u.data }

/-! ### The steps (R532, Table 17-5) -/

/-- The record in progress. -/
def Dev.updateRec (s : Dev) : Option JRec := s.acc.journal.find? fun r => r.kind == 2 && r.outcome == 0

/-- A step fails (R532). -/
def Dev.updateFail (s : Dev) (id error : Nat) : Dev :=
  (((s.jEnd id 3).put Od.updateError error).put Od.updateState 4).modUpdate fun u => { u with core := none, pipe := none }

/-- The last step is done, or is skipped with NoActivate. -/
def Dev.updateDone (s : Dev) (id : Nat) : Dev :=
  ((s.jEnd id 2).put Od.updateState 3).modUpdate fun u => { u with core := none, pipe := none, data := [] }

/-- UpdateApply: step 1. -/
def Dev.updateApply (s : Dev) (q : Req) (v : Nat) : Dev :=
  let kind := s.update.kind
  let (id, s) := s.jOpen 2 5 0 (s.origin q) kind 0
  let s := (((s.put Od.updateOpId id).put Od.updateState 2).put Od.updateError 0)
  let bs := (List.range s.update.total).map fun i => (stagedAt s.update.data i).getD 0
  let b := boxOf bs
  let s := s.modUpdate fun u => { u with
    at' := tsTime (applyAt v), noActivate := applyFlags v % 2 == 1, version := b.version, booted := false }
  if octetsOf bs 36 4 + 288 ≠ bs.length then s.updateFail id 1
  else if b.kind ≠ kind ∨ b.signerClass ≠ signerOf kind then s.updateFail id 4
  else if !b.formatOk || !s.signerOk b || !b.digestOk then s.updateFail id 2
  else if b.security < s.nat (Od.securityFloor kind) then s.updateFail id 3
  else s.jStep id 1

/-- Kinds 3 and 4 of a pair that are not through step 4 by ActivateAt fail (R534). -/
def Dev.updateLate (s : Dev) : Bool :=
  (s.update.kind == 3 || s.update.kind == 4) && s.update.at' != 0 && decide (s.update.at' < s.tsNow 0)

/-- UPDATE_B_WRITTEN: slot B has been written, and verified (steps 2 and 3); after a restart from step 3 it is verified only. -/
def Dev.updateB (s : Dev) (writeOk validOk : Bool) : Dev :=
  match s.updateRec with
  | some r =>
    if r.done = 1 ∨ r.done = 2 then
      if r.done = 1 ∧ !writeOk then s.updateFail r.id 5
      else
        let s := if r.done = 1 then
            (s.put Od.slotBSeq ((max (s.nat Od.slotASeq) (s.nat Od.slotBSeq) + 1) % 4294967296 : Nat)).jStep r.id 2
          else s
        let s := s.putB Od.slotBValid validOk
        if !validOk then s.updateFail r.id 5
        else
          let s := s.jStep r.id 3
          if s.updateLate then s.updateFail r.id 6 else s
    else s
  | none => s

/-- UPDATE_A_WRITTEN: slot A has been rewritten from slot B and verified (step 4). -/
def Dev.updateA (s : Dev) (ok : Bool) : Dev :=
  match s.updateRec with
  | some r =>
    if r.done = 3 then
      let s := s.putB Od.slotAValid ok
      if !ok then s.updateFail r.id 5
      else
        let s := (s.put Od.slotASeq ((max (s.nat Od.slotASeq) (s.nat Od.slotBSeq) + 1) % 4294967296 : Nat)).jStep r.id 4
        if s.update.noActivate then s.updateDone r.id
        else if s.update.booted then (s.jStep r.id 5).updateDone r.id
        else if s.updateLate then s.updateFail r.id 6
        else s
    else s
  | none => s

/-- UPDATE_ACTIVATION: step 5, by Kind (Table 17-6), at once or once TS_0 has reached ActivateAt. -/
def Dev.updateActivate (s : Dev) : Dev :=
  match s.updateRec with
  | some r =>
    if s.update.at' ≠ 0 ∧ s.tsNow 0 < s.update.at' then s
    else if r.done < 4 then (if s.updateLate then s.updateFail r.id 6 else s)
    else if s.update.core.isSome ∨ s.update.pipe.isSome ∨ r.done ≠ 4 then s
    else
      match s.update.kind with
      | 4 =>
        if (List.range 4).any fun q => s.nat (Od.pipeState q) != 0 then s.updateFail r.id 6
        else (s.modUpdate fun u => { u with pipe := some 0 }).pipeDrain 0
      | 5 => (s.jStep r.id 5).updateDone r.id
      | c =>
        if c = 3 ∧ s.pair.handlers.any (fun h => !h.returned) then s
        else
          let s := (s.put (Od.firmwareVersionM0 + c) s.update.version).restartCore c
          s.modUpdate fun u => { u with core := some c }
  | none => s

/-- A core is RUNNING; where it is the one that an activation restarted, the new container runs. -/
def Dev.coreBack (s : Dev) (c : Nat) : Dev :=
  let s := s.coreRuns c
  match s.updateRec with
  | some r => if s.update.core = some c then (s.jStep r.id 5).updateDone r.id else s
  | none => s

/-- A pipeline is ACTIVE again; where it has taken new microcode, the next one is drained. -/
def Dev.pipelineBack (s : Dev) (q : Nat) : Dev :=
  let s := s.pipeBack q
  match s.updateRec with
  | some r =>
    if s.update.pipe = some q then
      if q = 3 then ((s.modUpdate fun u => { u with micro := u.version }).jStep r.id 5).updateDone r.id
      else (s.modUpdate fun u => { u with pipe := some (q + 1) }).pipeDrain (q + 1)
    else s
  | none => s

/-- R535 at CONFIGURE: M0 goes on with an UPDATE that a reset interrupted after its second step. -/
def Dev.updateResume (s : Dev) (ids : List Nat) : Dev :=
  match s.acc.journal.find? fun r => ids.contains r.id && r.kind == 2 && 2 ≤ r.done with
  | some r =>
    let (id, s) := s.jOpen 2 5 0 0 r.detail r.id
    let s := ((s.jStep id r.done).put Od.updateOpId id).put Od.updateState 2
    let s := s.modUpdate fun u => { u with kind := r.detail, booted := s.nat Od.bootSlot == 1 || decide (4 ≤ r.done) }
    if 4 ≤ r.done then (s.jStep id 5).updateDone id else s
  | none => s

def Dev.updateAct (s : Dev) (w : Wr) (k : Nat) (v : Int) : Dev :=
  if k = Od.updateBegin then s.updateBegin v.toNat
  else if k = Od.updateChunk then s.updateChunk v.toNat
  else if k = Od.updateApply then s.updateApply w.req v.toNat
  else s.put k v

/-! ### Hours (R538, Table 17-10) -/

/-- PowerOnHours and HoursAbove85 up to now, for a die temperature in 0.001 °C since the last update. -/
def Dev.ageStep (s : Dev) (tj : Int) : Dev :=
  let a := s.ageing
  let n := s.since a.upTo
  let hour := 3600 * ticksPerSec
  let on' := a.on' + n
  let hot := if 85000 < tj then a.hot + n else a.hot
  let s := (s.bumpBy Od.powerOnHours (on' / hour)).bumpBy Od.hoursAbove85 (hot / hour)
  let s := s.put Od.tjMaxSeen (max (s.num Od.tjMaxSeen) tj)
  { s with ageing := { on' := on' % hour, hot := hot % hour, upTo := s.tick } }

end Sys2Proof.Machine
end

