-- ==== Sys2Proof/Machine/Access.lean ====
section
/-! DEFINITION. Access to the object dictionary (chapter 2): levels, reads, the checks of R48, writes, the staged set, the
configuration image, the journal's queries and IRQ_N. -/

namespace Sys2Proof.Machine

/-! ### Requesters -/

/-- The level a requester has (R10, R72, R516). -/
def Dev.levelOf (s : Dev) : Req → Nat
  | .spi => if s.nat Od.lifeCycleState = 0 then 4 else s.nat Od.hspiLevel
  | .oap sid => match s.acc.sessions.find? (·.sid == sid) with
    | some x => x.level
    | none => 0
  | .app => s.acc.appLevel
  | .log => 4

/-- Whether the power state lets a requester reach an object (R54). -/
def Dev.reaches (s : Dev) (q : Req) (k : Nat) : Bool :=
  match s.nat Od.powerState with
  | 3 => q == .spi && (k / 65536 == 0x11 || (decide (Od.opMode ≤ k) && decide (k ≤ Od.modeStickyIrqMask)))
  | 4 => false
  | _ => true

/-! ### Reads -/

/-- Objects held per requester (R86, R313, R415, R425, R475). -/
def perRequester (k : Nat) : Bool :=
  let i := k / 256
  i == 0x1F81 || i == 0x5001 || k == Od.attestStatement || i == 0x5420 ||
    (decide (Od.schedQueryEntry ≤ k) && decide (k ≤ Od.schedQOpId))

/-- Objects whose value the manual does not state: what the hardware measures or has worn (R517 to R519, R538, Table 14-10): a read
answers a free value (log entry 56). -/
def measuredByHardware : List Nat := [Od.ageingShift, Od.flashEraseMax, Od.linkLatency, Od.logRate, Od.harnessHolds]

/-- LaneCheckAge in days: the longest time since a loop check of an enabled lane. -/
def Dev.laneAge (s : Dev) : Nat :=
  maxN ((List.range 22).map fun l =>
    if s.on (Od.laneEnable l) then
      match (s.lane l).checkAt with
      | some k => s.since k / (86400 * ticksPerSec)
      | none => 0
    else 0)

/-- The value an object reads as for a requester: computed where the manual makes it depend on the present instant (R133). TsNow of a
STOPPED scale, for which Table 3-5 gives no value, reads 0 (log entry 79). -/
def Dev.view (s : Dev) (q : Req) (k : Nat) : Int :=
  let i := k / 256
  let sub := k % 256
  if perRequester k then s.mine q k
  else if 0x2010 ≤ i ∧ i < 0x2018 ∧ sub = 2 then
    (if s.running (i - 0x2010) then (tsNum (s.tsNow (i - 0x2010)) : Nat) else 0)
  else if 0x2600 ≤ i ∧ i < 0x2628 ∧ sub = 0x1A then s.awlSysTerm (i - 0x2600)
  else if 0x2660 ≤ i ∧ i < 0x2676 ∧ sub = 4 then s.lpdTerm (i - 0x2660)
  else if 0x3460 ≤ i ∧ i < 0x3470 ∧ sub = 0x0E then s.gatesNow (i - 0x3460)
  else if k = Od.tempExternalAge then
    match s.keep.extAt with
    | some t => (min sat32 (s.since t / ticksPerMs) : Nat)
    | none => sat32
  else if k = Od.ovenWarmupElapsed then s.ovenElapsed
  else if 0x3880 ≤ i ∧ i < 0x3886 ∧ 8 ≤ sub ∧ sub ≤ 0x0A then
    let (b, e, n) := s.patNow (i - 0x3880)
    ((if sub = 8 then b else if sub = 9 then e else n : Nat) : Int)
  else if k = Od.gcdSysTerm then s.gcdTerm
  else if k = Od.pcdSysTerm then s.pcdTerm
  else if k = Od.epochNow then (if s.running 0 then epochOf (s.tsNow 0) else 0)
  else if k = Od.logHorizonLag then
    (if s.nat Od.pairRole = 2 then min sat32 ((s.cnt - s.pair.horizon) * 16 / 10) else 0 : Nat)
  else if k = Od.trimGated then s.trimNow
  else if k = Od.keyOpStatus then s.keyOpStatusNow
  else if k = Od.debugState then s.debugNow
  else if k = Od.identityPublicKey then Config.publicPoint Config.identityKey % 256 ^ 97
  else if k = Od.cookieKeyIdNow then s.cookiePeriod
  else if k = Od.ptpClockIdentityInUse then s.clockIdentity
  else if k = Od.laneCheckAge then s.laneAge
  else s.num k

/-- A read of an object: a performance counter is latched (R494), what the manual leaves to the hardware is a free
value (log entry 56). -/
def Dev.readObj (s : Dev) (q : Req) (k : Nat) : Int × Dev :=
  let i := k / 256
  if measuredByHardware.contains k then
    let (x, s) := s.fresh
    ((if k = Od.ageingShift then x % 1000001 else x % 4294967296), s)
  else if 0x5810 ≤ i ∧ i < 0x5850 ∧ k % 256 = 5 then
    let s := s.pmcLatch (i - 0x5810)
    (s.num k, s)
  else if k = Od.pmcOverflowLo ∨ k = Od.pmcOverflowHi then
    let s := s.pmcLatchAll
    (s.num k, s)
  else (s.view q k, s)

/-- The level a read needs (R495). -/
def Dev.readLevel (s : Dev) (k : Nat) (r : ObjRow) : Option Nat :=
  if r.rd = some 2 ∧ k / 65536 = 0x58 ∧ s.on Od.pmcObserverRead then some 0 else r.rd

/-- Checks 1, 2, 3 and 8 of R48 for a read. -/
def Dev.readStatus (s : Dev) (q : Req) (k : Nat) : Status :=
  match Dict.row? k with
  | none => .noObject
  | some r =>
    match s.readLevel k r with
    | none => .accessMode
    | some l => if s.levelOf q < l then .accessDenied else need (s.reaches q k) .state

/-! ### The chapters' checks and effects of a write -/

/-- The checks a chapter adds to R48 for an object it owns; `live` is false for an entry of a configuration image. -/
def Dev.chapterCheck (s : Dev) (w : Wr) (live : Bool) (k : Nat) (v : Int) : Status :=
  let a := k / 65536
  if a = 0x11 ∨ a = 0x60 then s.powerCheck w k v
  else if a = 0x12 ∨ a = 0x50 then s.keysCheck w k v
  else if a = 0x1F then s.updateCheck w k v
  else if a = 0x20 ∨ a = 0x21 then s.timeCheck w k v
  else if a = 0x22 then s.refsCheck w k v
  else if a = 0x24 then s.loCheck w k v
  else if a = 0x26 then s.awlCheck w k v
  else if a = 0x28 then
    if live ∨ k / 256 < 0x28E0 then s.outCheck w k v else s.entryCheck w (k - Od.schedEntry 0) v.toNat false
  else if a = 0x30 ∨ a = 0x31 then s.gnssCheck w k v
  else if a = 0x34 ∨ a = 0x35 then s.macCheck w k v
  else if a = 0x38 ∨ a = 0x39 then s.lanesCheck w k v
  else if a = 0x40 ∨ a = 0x44 ∨ a = 0x48 then s.svcCheck w k v
  else if a = 0x54 ∨ a = 0x58 then s.faultCheck w k v
  else if a = 0x5C then s.pairCheck w k v
  else .ok

/-- The journal record of an ID loaded for a requester (R86). Of an ID not held, the objects beside JqOutcome read 0 (DESIGN
CHOICE, log entry 75). -/
def Dev.queryJournal (s : Dev) (q : Req) (id : Nat) : Dev :=
  let show' (s : Dev) (r : JRec) (outcome : Nat) : Dev :=
    s.each [(Od.jqKind, r.kind), (Od.jqOutcome, outcome), (Od.jqStepsTotal, r.total), (Od.jqStepsDone, r.done),
      (Od.jqLastStep, r.lastStep), (Od.jqStartTime, r.start), (Od.jqLastTime, r.last), (Od.jqOrigin, r.origin),
      (Od.jqRestartOf, r.restartOf), (Od.jqDetail, r.detail), (Od.jqFlags, r.flags)] fun s p => s.putMine q p.1 (p.2 : Nat)
  let s := s.putMine q Od.journalQueryId id
  match s.acc.journal.find? (·.id == id) with
  | some r => show' s r r.outcome
  | none => show' s { id, kind := 0, total := 0 } 0xFF

/-- The effect of a write on an object, by the chapter that owns it. -/
def Dev.objAct (s : Dev) (w : Wr) (k : Nat) (v : Int) : Dev :=
  let a := k / 65536
  if a = 0x10 then s.modeAct k v
  else if a = 0x11 ∨ a = 0x60 then s.powerAct w k v
  else if a = 0x12 ∨ a = 0x50 then s.keysAct w k v
  else if k = Od.journalQueryId then s.queryJournal w.req v.toNat
  else if a = 0x1F then s.updateAct w k v
  else if a = 0x20 ∨ a = 0x21 then s.timeAct w k v
  else if a = 0x22 then s.refsAct w k v
  else if a = 0x24 then s.loAct k v
  else if a = 0x26 then s.awlAct w k v
  else if a = 0x28 then s.outAct w k v
  else if a = 0x2A then s.boundAct k v
  else if a = 0x30 ∨ a = 0x31 then s.gnssAct w k v
  else if a = 0x34 ∨ a = 0x35 then s.macAct w k v
  else if a = 0x38 ∨ a = 0x39 then s.lanesAct w k v
  else if a = 0x40 ∨ a = 0x44 ∨ a = 0x48 then s.svcAct w k v
  else if a = 0x54 ∨ a = 0x58 then s.faultAct w k v
  else if a = 0x5C then s.pairAct w k v
  else if k = Od.engineReset then s
  else s.put k v

/-! ### Writes (R48 to R50) -/

/-- One entry of a write as it arrives: the object, its wire code, the octets of the value. -/
structure Ask where
  key : Nat
  typ : Nat
  bytes : List Byte
  deriving DecidableEq, Repr

/-- The value an entry carries, none where no object or no such length exists. -/
def Ask.value? (a : Ask) : Option Int :=
  match Dict.row? a.key with
  | some r => if r.typ.lengthOk a.bytes.length then some (r.typ.dec a.bytes) else none
  | none => none

/-- The objects and values of the entries that carry one. -/
def askValues (l : List Ask) : List (Nat × Int) := l.filterMap fun a => a.value?.map fun v => (a.key, v)

/-- Checks 1 to 7 of R48 for an entry of a write at a level. -/
def Ask.status (a : Ask) (lvl : Nat) : Status :=
  match Dict.row? a.key with
  | none => .noObject
  | some r =>
    match r.wr with
    | none => .accessMode
    | some l =>
      if lvl < l then .accessDenied
      else if a.typ ≠ r.typ.wire then .typeMismatch
      else if !r.typ.lengthOk a.bytes.length then .length
      else r.valueCheck (r.typ.dec a.bytes)

/-- What power leaves of a request that is not a plain read or write: the staged set is none of the objects that KEEP leaves in
reach (R54). -/
def Dev.stageReach (s : Dev) : Bool := decide (s.nat Od.powerState ≤ 2)

/-- Check 8 of R48 where it does not depend on the object's own rules (R53, R54). -/
def Dev.stateStatus (s : Dev) (q : Req) (k : Nat) : Status :=
  need (s.reaches q k && !(s.inMode [Mode.follower, Mode.resync] && q != .log && !Od.isLocal k)) .state

/-- The state with every value of a write in place: what the rules that span several objects are judged by. -/
def Dev.wrOf (s : Dev) (q : Req) (lvl : Nat) (vs : List (Nat × Int)) : Wr :=
  { req := q, lvl, new := s.each vs fun s p => s.put p.1 p.2, vals := vs, upTo := vs.length }

/-- The status of entry n of a write whose values are w (R48): its own value is judged, and a range that a chapter adds goes
before reserved bits. -/
def Dev.askStatus (s : Dev) (w : Wr) (n : Nat) (a : Ask) : Status :=
  let w := { w with upTo := n + 1 }
  let own := a.value?.getD 0
  match a.status w.lvl with
  | .ok => firstBad [s.chapterCheck w true a.key own, s.stateStatus w.req a.key]
  | .reservedBits => if s.chapterCheck w true a.key own = .range then .range else .reservedBits
  | st => st

/-- The first entry that fails a check, with its place and status. -/
def firstFail (f : Nat → Ask → Status) : Nat → List Ask → Option (Nat × Ask × Status)
  | _, [] => none
  | n, a :: l => match f n a with
    | .ok => firstFail f (n + 1) l
    | st => some (n, a, st)

/-- What a refused write leaves behind: LeapRefused (R126, R127), REFUSED_MODE for a host request (R36), REFUSED for an operation
of the key store (Table 13-7); an access that power keeps from the dictionary leaves nothing (R54). -/
def Dev.refusalNote (s : Dev) (q : Req) (k : Nat) (st : Status) : Dev :=
  if !s.reaches q k then s else
  let s := s.when ((k == Od.leapPending || k == Od.leapTime) && st == .range) (·.flag Od.utcSticky Bit.utcSticky_LeapRefused)
  let s := s.when (k == Od.modeRequest && st == .state) (·.put Od.modeRequestResult 2)
  s.when ([Od.keyImport, Od.keyGenerate, Od.keyDestroy, Od.keyRotate, Od.attestRequest].contains k &&
      (st == .range || st == .state)) (·.put Od.keyOpStatus 2)

/-- Whether the whole effect of a write on an object is the new value. -/
def Dev.plainAct (s : Dev) (w : Wr) (p : Nat × Int) : Bool := decide (s.objAct w p.1 p.2 = s.put p.1 p.2)

/-- Objects whose writes act on INC and on the scales, in the order of the write (R49, R99). -/
def Od.steers (k : Nat) : Bool := k / 65536 == 0x20 || k / 65536 == 0x21

/-- The values of an accepted write take effect in one pass at one instant: those without behaviour of their own first, so
that what acts finds them in place, then a setting of TS_0 (R121), then the others, each group in order, so that the later of
two values of one object stands (R49, R50; log entry 77). -/
def Dev.applyValues (s : Dev) (w : Wr) (vs : List (Nat × Int)) : Dev :=
  match vs with
  | [p] => s.objAct w p.1 p.2
  | _ =>
    let isPlain (k : Nat) : Bool := !Od.steers k && vs.all fun p => p.1 != k || s.plainAct w p
    let (plain, acting) := vs.partition fun p => isPlain p.1
    let (first, rest) := acting.partition fun p => p.1 == Od.timeSet 0
    ((s.each plain fun s p => s.objAct w p.1 p.2).each first fun s p => s.objAct w p.1 p.2).each rest
      fun s p => s.objAct w p.1 p.2

/-- An accepted write of non-Local objects goes into the input log of a pair (Table 14-5). -/
def Dev.logWrite (s : Dev) (q : Req) (vs : List (Nat × Int)) : Dev :=
  if q = .log then s
  else
    let l := vs.filter fun p => !Od.isLocal p.1
    if l.isEmpty then s else s.logInput 5 (reqCode q :: 0 :: (l.map fun p => [p.1, twos 8192 p.2]).flatten)

/-- The outcome of a write: its status, the place of the entry that failed, EffectiveTime. -/
structure WriteOut where
  status : Status
  fail : Nat := 0xFF
  effective : Nat := 0
  deriving DecidableEq, Repr

/-- A write of one or more entries: all at one instant, or none (R64). -/
def Dev.writeAll (s : Dev) (q : Req) (asks : List Ask) : WriteOut × Dev :=
  let vs := askValues asks
  let w := s.wrOf q (s.levelOf q) vs
  match firstFail (s.askStatus w) 0 asks with
  | some (n, a, st) => ({ status := st, fail := n }, s.refusalNote q a.key st)
  | none =>
    let s := (s.applyValues w vs).logWrite q vs
    ({ status := .ok, effective := s.now0 }, s)

/-! ### After the response -/

/-- Whether a session's port is enabled (R58). -/
def Dev.oapPort (s : Dev) (p : Nat) : Bool := s.bit Od.oapPorts p

/-- What follows the response to a write: the closing of sessions (R62), the reset of a host (Table 17-1) and of a life-cycle
transition (R435). -/
def Dev.afterWrite (s : Dev) (vs : List (Nat × Int)) : Dev :=
  let s := s.each vs fun s p => if p.1 / 256 = 0x1201 then s.closeSessions 2 fun x => x.level + 1 == p.1 % 256 else s
  let s := if vs.any (·.1 == Od.oapPorts) then s.closeSessions 5 fun x => !s.oapPort x.port else s
  let s := if vs.any (fun p => p.1 == Od.engineReset && p.2 != 0) then
      { s with tick := s.tick + ticksPerMs }.resetWarm 4 none else s
  match s.keys.lifeOp with
  | some (id, _) =>
    if vs.any (·.1 == Od.lifeCycleRequest) ∧ s.acc.journal.any (fun r => r.id == id && r.done == 3) then
      -- the code of this reset is free (log entry 29)
      let (x, s) := s.fresh
      (s.resetWarm 2 none).put Od.lastResetCause (x % 5)
    else s
  | none => s

/-- The status of value n of a write that is given as numbers (R48): one the object's type cannot hold is out of its range. -/
def Dev.valueStatus (s : Dev) (w : Wr) (n : Nat) (p : Nat × Int) : Status :=
  match Dict.row? p.1 with
  | none => .noObject
  | some r =>
    if r.typ.fits p.2 then s.askStatus w n { key := p.1, typ := r.typ.wire, bytes := r.typ.enc p.2 }
    else match r.wr with
      | none => .accessMode
      | some l => if w.lvl < l then .accessDenied else .range

/-- The status of a write of one object (R48). -/
def Dev.writeStatus (s : Dev) (q : Req) (k : Nat) (v : Int) : Status :=
  s.valueStatus (s.wrOf q (s.levelOf q) [(k, v)]) 0 (k, v)

/-- A write of one object in the form its row of the table of commands gives it: the outcome is put out. `act` is its effect. In
OFF no write reaches the dictionary, and none is answered (R54). -/
def Dev.writeWith (s : Dev) (q : Req) (k : Nat) (v : Int) (act : Wr → Dev → Dev) : Dev :=
  if s.nat Od.powerState = 4 then s else
  match s.writeStatus q k v with
  | .ok =>
    let s := (act (s.wrOf q (s.levelOf q) [(k, v)]) s).logWrite q [(k, v)]
    (s.emit (.written 0 s.now0)).afterWrite [(k, v)]
  | st => (s.refusalNote q k st).emit (.written st.code 0)

/-- A write of one object. -/
def Dev.writeObj (s : Dev) (q : Req) (k : Nat) (v : Int) : Dev := s.writeWith q k v fun w s => s.objAct w k v

/-- The first of several values that fails a check: its object and status. -/
def Dev.valuesFail (s : Dev) (w : Wr) : Nat → List (Nat × Int) → Option (Nat × Status)
  | _, [] => none
  | n, p :: l => match s.valueStatus w n p with
    | .ok => s.valuesFail w (n + 1) l
    | st => some (p.1, st)

/-- Several objects of one kind written at one instant. -/
def Dev.writeObjs (s : Dev) (q : Req) (vs : List (Nat × Int)) : Dev :=
  if s.nat Od.powerState = 4 then s else
  let w := s.wrOf q (s.levelOf q) vs
  match s.valuesFail w 0 vs with
  | some (k, st) => (s.refusalNote q k st).emit (.written st.code 0)
  | none =>
    let s := (s.applyValues w vs).logWrite q vs
    (s.emit (.written 0 s.now0)).afterWrite vs

/-- An object write among the actions of a handler of M3: both engines of a pair make it at the same boundary, so that R53 does
not stand against it (R459). -/
def Dev.appWrite (s : Dev) (k : Nat) (v : Int) : Dev :=
  match Dict.row? k with
  | none => s
  | some r =>
    let w := s.wrOf .app s.acc.appLevel [(k, v)]
    let a : Ask := { key := k, typ := r.typ.wire, bytes := r.typ.enc v }
    if r.typ.fits v ∧ a.status w.lvl = .ok ∧ s.chapterCheck w true k v = .ok ∧ s.reaches .app k then
      (s.objAct w k v).afterWrite [(k, v)]
    else s

/-! ### Staging (R73 to R80) -/

/-- Whether a requester owns the staged set. -/
def Dev.ownsStage (s : Dev) (q : Req) : Bool := s.acc.stageOwner == some q

/-- StageSession of a requester (Table 2-11). -/
def stageSessionOf : Req → Nat
  | .spi => 0xFFFFFFFF
  | .oap sid => sid
  | _ => 0

/-- An entry put into a staged set; one of the same object is replaced. -/
def stagePut : List Staged → Staged → List Staged
  | [], e => [e]
  | x :: l, e => if x.key = e.key then e :: l else x :: stagePut l e

/-- The first entry at which a set passes 1,024 entries or 65,536 octets, or the set with every entry put into it (R74): the set is
judged as each entry is put in, and FailPos is that entry's place (DESIGN CHOICE, log entry 75). -/
def stageAll : Nat → List Staged → List Staged → Sum Nat (List Staged)
  | _, set, [] => .inr set
  | n, set, e :: l =>
    let set := stagePut set e
    if 1024 < set.length ∨ 65536 < sumN (set.map (·.len)) then .inl n else stageAll (n + 1) set l

/-- A STAGE (1), COMMIT (2) or ABORT (3) of a set with a non-Local object goes into the input log of a pair. -/
def Dev.logStage (s : Dev) (q : Req) (op : Nat) (fields : List Nat) (keys : List Nat) : Dev :=
  s.when (q != .log && keys.any (!Od.isLocal ·)) (·.logInput 5 (reqCode q :: op :: fields))

/-- STAGE: status, entries held, FailPos. -/
def Dev.stage (s : Dev) (q : Req) (asks : List Ask) : Status × Nat × Nat × Dev :=
  let held := s.acc.staged.length
  if !s.stageReach then (.state, held, 0xFF, s)
  else if s.nat Od.stageState = 2 ∨ (s.acc.stageOwner.isSome ∧ !s.ownsStage q) then (.busy, held, 0xFF, s)
  else
    match firstFail (fun _ a => a.status (s.levelOf q)) 0 asks with
    | some (n, _, st) => (st, held, n, s)
    | none =>
      let new := (askValues asks).map fun p =>
        { key := p.1, val := p.2, len := match Dict.row? p.1 with | some r => r.typ.lenOf p.2 | none => 0 : Staged }
      match stageAll 0 s.acc.staged new with
      | .inl n => (.stageFull, held, n, s)
      | .inr set =>
        let s := s.modAcc fun a => { a with staged := set, stageOwner := some q, stageLevel := s.levelOf q }
        let s := ((s.put Od.stageState 1).put Od.stageSession (stageSessionOf q)).put Od.stageEntries set.length
        let s := s.logStage q 1 (new.map fun e => [e.key, twos 8192 e.val]).flatten (new.map (·.key))
        (.ok, set.length, 0xFF, s.put Od.stageBytes (sumN (set.map (·.len)) : Nat))

/-- The set is empty again, its schedule entry free. -/
def Dev.clearStage (s : Dev) : Dev :=
  let s := s.each ((s.tugs.sched.filter (·.2.state == 4)).map (·.1)) fun s e => s.modSched e fun _ => {}
  ((((s.emptyStage.put Od.stageSession 0).put Od.stageAt 0).put Od.stageOpId 0)).showEntries

/-- Validation of the set (R76): the object of the first entry that fails, with its status. -/
def Dev.stageFault (s : Dev) (w : Wr) : Option (Nat × Status) :=
  let asks := s.acc.staged.filterMap fun e => (Dict.row? e.key).map fun r =>
    { key := e.key, typ := r.typ.wire, bytes := r.typ.enc e.val : Ask }
  (firstFail (s.askStatus w) 0 asks).map fun x => (x.2.1.key, x.2.2)

/-- A commit of the set under its record: validated, applied in one pass, done; or ABORTED. The set is empty afterwards. Beside
the status, the values written, for what follows the response. -/
def Dev.runCommit (s : Dev) (id : Nat) : Status × List (Nat × Int) × Dev :=
  let q := s.acc.stageOwner.getD .spi
  let vs := s.acc.staged.map fun e => (e.key, e.val)
  let w := s.wrOf q s.acc.stageLevel vs
  match s.stageFault w with
  | some (k, st) =>
    (.aborted, [], (((s.refusalNote q k st).jMod id fun r => { r with detail := k }).jEnd id 4).clearStage)
  | none =>
    let s := (s.jMod id fun r => { r with outcome := 0 }).jStep id 1
    let s := (s.applyValues w vs).jStep id 2
    (.ok, vs, ((s.jStep id 3).jEnd id 2).clearStage)

/-- The highest schedule entry below n that is free. -/
def Dev.freeEntry (s : Dev) : Nat → Option Nat
  | 0 => none
  | n + 1 => if (s.sched n).state = 0 then some n else s.freeEntry n

/-- COMMIT (R76 to R78): status, operation ID, EffectiveTime, the values written. -/
def Dev.commit (s : Dev) (q : Req) (scheduled : Bool) (at' : Nat) : Status × Nat × Nat × List (Nat × Int) × Dev :=
  let no (st : Status) := (st, 0, 0, [], s)
  if !s.stageReach then no .state
  else if s.acc.stageOwner.isNone then no .noStage
  else if s.nat Od.stageState = 2 ∨ !s.ownsStage q ∨ !s.journalFree then no .busy
  else if !scheduled then
    let s := s.logStage q 2 [0, 0] (s.acc.staged.map (·.key))
    let (id, s) := s.jOpen 1 3 0 (s.origin q) 0 0
    let (st, vs, s) := s.runCommit id
    if st = .ok then (.ok, id, s.now0, vs, s) else (st, 0, 0, [], s)
  else
    let t := tsTime at'
    let now := s.tsNow 0
    if !s.running 0 then no .state
    else if t < now + (s.nat Od.commitMinLead * 1000 * 2 ^ 32 : Nat) then no .tooLate
    else if now + s.nat Od.commitMaxAhead * second < t then no .range
    else
      match s.freeEntry 4096 with
      | none => no .scheduleFull
      | some e =>
        let s := s.logStage q 2 [1, at'] (s.acc.staged.map (·.key))
        let (id, s) := s.jOpen 1 3 1 (s.origin q) 0 0
        let s := ((s.put Od.stageState 2).put Od.stageAt at').put Od.stageOpId id
        (.ok, id, 0, [], (s.modSched e fun _ => { state := 4, opId := id }).showEntries)

/-- Whether the owner of the set is a session that has ended. -/
def Dev.stageOrphan (s : Dev) : Bool :=
  match s.acc.stageOwner with
  | some (.oap sid) => !s.acc.sessions.any (·.sid == sid)
  | _ => false

/-- ABORT of the staged set (R73, R78): status and operation ID. -/
def Dev.abortStage (s : Dev) (q : Req) : Status × Nat × Dev :=
  if !s.stageReach then (.state, 0, s)
  else if s.acc.stageOwner.isNone then (.noStage, 0, s)
  else if !s.ownsStage q && !(s.stageOrphan && decide (3 ≤ s.levelOf q)) then (.busy, 0, s)
  else if s.nat Od.stageState = 2 then
    let id := s.nat Od.stageOpId
    (.ok, id, ((s.logStage q 3 [] (s.acc.staged.map (·.key))).jEnd id 4).clearStage)
  else (.ok, 0, (s.logStage q 3 [] (s.acc.staged.map (·.key))).clearStage)

/-- A scheduled commit whose instant TS_0 has reached runs (R79). -/
def Dev.runDueCommit (s : Dev) : Dev :=
  if s.nat Od.stageState = 2 ∧ s.nat Od.powerState < 3 ∧ s.running 0 ∧ tsTime (s.nat Od.stageAt) ≤ s.tsNow 0 then
    let (_, vs, s) := s.runCommit (s.nat Od.stageOpId)
    s.afterWrite vs
  else s

/-- The tick at which TS_0 reaches a time under the INC in force. -/
def Dev.tickWhen (s : Dev) (t : Int) : Option Nat :=
  match (s.scale 0).marks with
  | m :: _ =>
    let v := (t * 2 ^ 40).toNat
    if !s.running 0 then none
    else if v ≤ m.val then some m.tick else if m.inc = 0 then none else some (m.tick + cdiv (v - m.val) m.inc)
  | [] => none

/-- The tick at which a scheduled commit runs as TS_0 stands: that at which TS_0 first reaches At, none where no commit waits or
TS_0 does not advance towards it (R79). -/
def Dev.commitTick (s : Dev) : Option Nat :=
  if s.nat Od.stageState = 2 ∧ s.nat Od.powerState < 3 then s.tickWhen (tsTime (s.nat Od.stageAt)) else none

/-- What falls due as TS_0 advances or is set: the commit, and the switches of rotated keys (R79, R424). -/
def Dev.runDue (s : Dev) : Dev := s.runDueCommit.runSwitches

/-! ### The configuration image (R526) -/

/-- An entry of an image as a write carries it. -/
def askOfEnt (e : Ent) : Ask := { key := e.index * 256 + e.sub, typ := e.typ, bytes := e.value }

/-- The status of an entry of an image: steps 1, 4, 5, 6 and 7 of R48, the objects an image may not hold, and the rules that
span several objects. -/
def Dev.imageStatus (s : Dev) (w : Wr) (a : Ask) : Status :=
  match Dict.row? a.key with
  | none => .noObject
  | some r =>
    if r.rd.isNone ∨ r.wr.isNone ∨ r.wr = some 4 then .accessMode
    else match a.status 4 with
      | .ok =>
        let st := s.chapterCheck w false a.key (a.value?.getD 0)
        if st = .range ∨ st = .reservedBits then st else .ok
      | st => st

/-- The image restored: every entry, or none. The answer says whether the restore succeeded. -/
def Dev.restoreImage (s : Dev) (image : List Ent) : Bool × Dev :=
  let asks := image.map askOfEnt
  let vs := askValues asks
  let w := s.wrOf .spi 4 vs
  match firstFail (fun n => s.imageStatus { w with upTo := n + 1 }) 0 asks with
  | some (n, _, _) => (false, s.put Od.configFailEntry n)
  | none => (true, (s.applyValues w vs).put Od.configEntries asks.length)

/-- Whether an object is held in SRAM bank 28: the schedule table and the gate lists (Table 16-6). -/
def Od.inBank28 (k : Nat) : Bool := k / 4096 == 0x28E || k / 65536 == 0x35

/-- Bank 28 or bank 30 rebuilt from the configuration image in flash (R511): what it held is lost, and takes the image's values. -/
def Dev.rebuildBank (s : Dev) (b28 : Bool) (image : List Ent) : Dev :=
  let held (k : Nat) : Bool := Od.inBank28 k == b28 && !Od.warm k && match Dict.row? k with
    | some r => r.rd.isSome && r.wr.isSome && r.wr != some 4
    | none => false
  let s := { s with od := s.od.filter fun p => !held p.1 }
  let s := if b28 then (s.modTugs fun t => { t with sched := [] }).each (List.range 16) fun s p =>
      s.modPort p fun r => { r with oper := none, next := none }
    else s
  (s.restoreImage (image.filter fun e => Od.inBank28 (e.index * 256 + e.sub) == b28)).2

/-! ### CONFIGURE (R84, R535, R516) -/

/-- The journal as CONFIGURE finds it: IN_PROGRESS becomes INTERRUPTED, PENDING becomes ABANDONED; what an interrupted update
still has to do is taken up again. -/
def Dev.normaliseJournal (s : Dev) : Dev :=
  let cut := (s.acc.journal.filter (·.outcome == 0)).map (·.id)
  let s := s.each ((s.acc.journal.filter (·.outcome == 0)).map (·.id)) fun s id => s.jEnd id 5
  let s := s.each ((s.acc.journal.filter (·.outcome == 1)).map (·.id)) fun s id => s.jEnd id 6
  (s.journalObjects (s.nat Od.journalLastOpId)).updateResume cut

/-! ### IRQ_N (R72, R151, R490) -/

/-- Sticky bit maps with their masks: the first sticky object, how far its mask lies from it, how many units. -/
def irqMaps : List (Nat × Nat × Nat) := [
  (Od.modeSticky, 1, 1), (Od.utcSticky, 3, 1), (Od.tsSticky 0, 1, 8), (Od.servoSticky 0, 1, 8), (Od.refSticky 0, 1, 16),
  (Od.selectSticky, 1, 1), (Od.loSticky, 1, 1), (Od.keeperSticky, 1, 1), (Od.holdoverSticky, 1, 1), (Od.awlSticky 0, 1, 40),
  (Od.boundSticky 0, 1, 8), (Od.gnssSticky, 1, 1), (Od.gnssCauseSticky 0, 1, 2), (Od.schedSticky, 1, 1),
  (Od.laneSticky 0, 1, 22), (Od.portSticky 0, 1, 18), (Od.serviceSticky, 1, 1), (Od.keySticky, 1, 1),
  (Od.tamperSticky, 1, 1), (Od.pairSticky, 1, 1), (Od.collectorSticky, 1, 1), (Od.faultSticky, 1, 1),
  (Od.pmcOverflowLo, 2, 1), (Od.pmcOverflowHi, 2, 1), (Od.powerSticky, 1, 1)]

/-- A response or a notification waits on the host SPI. -/
def Dev.spiWaits (s : Dev) : Bool := s.acc.rsp.isSome || !s.acc.notes.isEmpty

/-- The event DMA's unread records have reached DmaIrqThreshold (R219). -/
def Dev.dmaUnread (s : Dev) : Bool :=
  let size := max 1 (s.nat Od.dmaSize / 32)
  decide (s.nat Od.dmaIrqThreshold ≤ (s.nat Od.dmaWriteIndex + size - s.nat Od.dmaReadIndex % size) % size)

/-- Whether IRQ_N is asserted. While a reset is held it is released. -/
def Dev.irqN (s : Dev) : Bool :=
  s.mode.held.isNone &&
    ((s.spiWaits && s.on Od.hspiIrqEnable) || s.dmaUnread ||
      irqMaps.any fun m => (List.range m.2.2).any fun u =>
        s.nat (m.1 + 256 * u) &&& s.nat (m.1 + 256 * u + m.2.1) != 0)

/-! ### Commands at their tick -/

/-- Whether the object of an ON_CHANGE subscription has changed since its last NOTIFY, though it may have returned (R67). -/
def Dev.changed (s : Dev) (id : Nat) : Bool := s.watch.any fun x => x.1 == id && x.2.2

/-- What each ON_CHANGE subscription sees as a command ends: a value other than at the last command's end is a change (R67). -/
def Dev.noteChanges (s : Dev) : Dev :=
  { s with watch := (s.acc.subs.filter (·.trigger == 1)).map fun x =>
      let v := s.view x.owner x.key
      match s.watch.find? (·.1 == x.id) with
      | some (_, seen, ch) => (x.id, v, ch || v != seen)
      | none => (x.id, v, v != x.last) }

/-- A number put into its place in a rising list. -/
def insertTick (k : Nat) : List Nat → List Nat
  | [] => [k]
  | a :: l => if k ≤ a then k :: a :: l else a :: insertTick k l

/-- The ticks up to t at which something falls due of itself, rising: a scheduled commit (R79), the switch of a rotated key (R424),
a tamper pin at the end of its debounce (R426), an INC of the active's log (R453). -/
def Dev.dueTicks (s : Dev) (t : Nat) : List Nat :=
  let switches := s.keys.rotations.filterMap fun r => if r.retireAt.isNone then s.tickWhen r.switchAt else none
  let all := s.commitTick.toList ++ switches ++ s.tamperTicks.map (·.2) ++ s.pair.incs.map (·.1)
  (all.filter (· ≤ max s.tick t)).foldr insertTick []

/-- Time goes on to tick t: what falls due on the way comes about on its tick. -/
def Dev.advance (s : Dev) (t : Nat) : Dev :=
  let d := (s.dueTicks t).foldl (fun d k => ({ d with tick := max d.tick k }.runIncs.runDue).runTamperPins) { s with out := [] }
  { d with tick := max d.tick t }

/-- The next state, at tick t, after a change of the device. -/
def State.after (s : State) (t : Nat) (f : Dev → Dev) : Host.Outcome State Fault Refusal :=
  .next (s.onDev fun d => (f (d.advance t)).noteChanges)

/-- The next state after a change of the device, where the unit the command names is one the hardware has; else the machine
stops. -/
def State.afterIf (s : State) (t : Nat) (unit : Bool) (f : Dev → Dev) : Host.Outcome State Fault Refusal :=
  if unit then s.after t f else .fault .noSuchUnit

/-- The next state after a change of the device, for a unit number below n. -/
def State.afterUnit (s : State) (t n u : Nat) (f : Dev → Dev) : Host.Outcome State Fault Refusal :=
  s.afterIf t (decide (u < n)) f

end Sys2Proof.Machine
end

