-- ==== Sys2Proof/Machine/Oap.lean ====
section
/-! DEFINITION. The Object Access Protocol and the host SPI (R56 to R72): sessions, requests, responses, notifications. -/

namespace Sys2Proof.Machine

/-! ### Request bodies (Table 2-7) -/

/-- The number in n octets from an offset on. -/
def fld (bs : List Byte) (off n : Nat) : Nat := beNat ((bs.drop off).take n)

/-- The objects of a READ_BLOCK, and whether a reserved octet is not zero; none where the length is wrong. -/
def parseKeys : Nat → List Byte → Option (List (Nat × Bool))
  | 0, bs => if bs.isEmpty then some [] else none
  | n + 1, bs => if bs.length < 4 then none else (parseKeys n (bs.drop 4)).map ((fld bs 0 3, fld bs 3 1 != 0) :: ·)

/-- The entries of a WRITE, WRITE_BLOCK or STAGE; none where the length is wrong. -/
def parseAsks : Nat → List Byte → Option (List Ask)
  | 0, bs => if bs.isEmpty then some [] else none
  | n + 1, bs =>
    if bs.length < 6 then none
    else
      let len := fld bs 4 2
      if bs.length < 6 + len then none
      else (parseAsks n (bs.drop (6 + len))).map
        ({ key := fld bs 0 3, typ := fld bs 3 1, bytes := (bs.drop 6).take len } :: ·)

/-- Status and fields after the prefix of a response, what follows it, and the state. -/
structure Answer where
  status : Status
  fields : List Byte := []
  /-- values written by an accepted write, for what follows its response -/
  wrote : List (Nat × Int) := []
  deriving DecidableEq, Repr

/-- The type, length and value octets of an object read. -/
def readFields (r : ObjRow) (v : Int) : List Byte :=
  let bs := r.typ.enc v
  beBytes 2 bs.length ++ bs

/-- READ. -/
def Dev.doRead (s : Dev) (q : Req) (f : List Byte) : Answer × Dev :=
  if f.length ≠ 4 then ({ status := .malformed }, s)
  else if fld f 3 1 ≠ 0 then ({ status := .reservedBits }, s)
  else
    let k := fld f 0 3
    match s.readStatus q k, Dict.row? k with
    | .ok, some r =>
      let (v, s) := s.readObj q k
      ({ status := .ok, fields := beBytes 1 r.typ.wire ++ beBytes 1 0 ++ readFields r v }, s)
    | st, _ => ({ status := st }, s)

/-- One object of a READ_BLOCK. -/
def Dev.readOne (s : Dev) (q : Req) (k : Nat) : List Byte × Dev :=
  match s.readStatus q k, Dict.row? k with
  | .ok, some r =>
    let (v, s) := s.readObj q k
    (beBytes 1 0 ++ beBytes 1 r.typ.wire ++ readFields r v, s)
  | st, _ => (beBytes 1 st.code ++ [0, 0, 0], s)

/-- The objects of a READ_BLOCK in one pass. -/
def Dev.readMany (s : Dev) (q : Req) : List Nat → List Byte × Dev
  | [] => ([], s)
  | k :: l =>
    let (a, s) := s.readOne q k
    let (b, s) := s.readMany q l
    (a ++ b, s)

/-- READ_BLOCK. -/
def Dev.doReadBlock (s : Dev) (q : Req) (f : List Byte) : Answer × Dev :=
  let n := fld f 0 1
  if f.length < 2 then ({ status := .malformed }, s)
  else
    match parseKeys n (f.drop 2) with
    | none => ({ status := .malformed }, s)
    | some ks =>
      if n = 0 ∨ 64 < n then ({ status := .range }, s)
      else if fld f 1 1 ≠ 0 ∨ ks.any (·.2) then ({ status := .reservedBits }, s)
      else
        let (bs, s') := s.readMany q (ks.map (·.1))
        ({ status := .ok, fields := beBytes 1 n ++ beBytes 1 0 ++ bs }, s')

/-- WRITE. -/
def Dev.doWrite (s : Dev) (q : Req) (f : List Byte) : Answer × Dev :=
  match parseAsks 1 f with
  | none => ({ status := .malformed }, s)
  | some asks =>
    let (o, s) := s.writeAll q asks
    if o.status = .ok then ({ status := .ok, fields := beBytes 16 o.effective, wrote := askValues asks }, s)
    else ({ status := o.status }, s)

/-- The entries of a WRITE_BLOCK or STAGE, or the status that refuses its fields (R558). -/
def blockAsks (f : List Byte) : Sum Status (List Ask) :=
  let n := fld f 0 1
  if f.length < 2 then .inl .malformed
  else
    match parseAsks n (f.drop 2) with
    | none => .inl .malformed
    | some asks =>
      if n = 0 ∨ 64 < n then .inl .range else if fld f 1 1 ≠ 0 then .inl .reservedBits else .inr asks

/-- WRITE_BLOCK: FailPos goes with every response. -/
def Dev.doWriteBlock (s : Dev) (q : Req) (f : List Byte) : Answer × Dev :=
  let fields (eff pos : Nat) : List Byte := beBytes 16 eff ++ beBytes 1 pos ++ beBytes 3 0
  match blockAsks f with
  | .inl st => ({ status := st, fields := fields 0 0xFF }, s)
  | .inr asks =>
    let (o, s) := s.writeAll q asks
    if o.status = .ok then ({ status := .ok, fields := fields o.effective 0xFF, wrote := askValues asks }, s)
    else ({ status := o.status, fields := fields 0 o.fail }, s)

/-- STAGE. -/
def Dev.doStage (s : Dev) (q : Req) (f : List Byte) : Answer × Dev :=
  let fields (held pos : Nat) : List Byte := beBytes 2 held ++ beBytes 1 pos ++ beBytes 1 0
  match blockAsks f with
  | .inl st => ({ status := st, fields := fields s.acc.staged.length 0xFF }, s)
  | .inr asks =>
    let (st, held, pos, s) := s.stage q asks
    ({ status := st, fields := fields held pos }, s)

/-- COMMIT. Table 2-7 gives At no range: nanoseconds of 10^9 or more make it no TS128 value, so RANGE; with When = 0 it is not
looked at (DESIGN CHOICE, log entry 75). -/
def Dev.doCommit (s : Dev) (q : Req) (f : List Byte) : Answer × Dev :=
  let at' := fld f 4 16
  if f.length ≠ 20 then ({ status := .malformed }, s)
  else if 1 < fld f 0 1 then ({ status := .range }, s)
  else if fld f 1 3 ≠ 0 then ({ status := .reservedBits }, s)
  else if fld f 0 1 = 1 ∧ 1000000000 ≤ tsNs at' then ({ status := .range }, s)
  else
    let (st, id, eff, wrote, s) := s.commit q (fld f 0 1 == 1) at'
    ({ status := st, fields := if st = .ok then beBytes 4 id ++ beBytes 16 eff else [], wrote }, s)

/-- ABORT. -/
def Dev.doAbort (s : Dev) (q : Req) (f : List Byte) : Answer × Dev :=
  if f.length ≠ 4 then ({ status := .malformed }, s)
  else if 1 < fld f 0 1 then ({ status := .range }, s)
  else if fld f 1 1 ≠ 0 then ({ status := .reservedBits }, s)
  else if fld f 0 1 = 0 then
    let (st, id, s) := s.abortStage q
    ({ status := st, fields := if st = .ok then beBytes 4 id else [] }, s)
  else
    let id := fld f 2 2
    if s.acc.subs.any fun x => x.id == id && x.owner == q then
      ({ status := .ok, fields := beBytes 4 0 }, s.modAcc fun a => { a with subs := a.subs.filter (·.id != id) })
    else ({ status := .range }, s)

/-- The least number from n on, 0 left out, that no subscription has. -/
def Dev.freeSub (s : Dev) : Nat → Nat → Nat
  | 0, n => n
  | k + 1, n =>
    let n := if n % 65536 = 0 then 1 else n % 65536
    if s.acc.subs.any (·.id == n) then s.freeSub k (n + 1) else n

/-- Period of a subscription in 2^-32 ns. -/
def Sub.span (x : Sub) : Int := x.period * 1000000 * 2 ^ 32

/-- SUBSCRIBE. -/
def Dev.doSubscribe (s : Dev) (q : Req) (f : List Byte) : Answer × Dev :=
  let k := fld f 0 3
  let trigger := fld f 3 1
  let period := fld f 4 4
  if f.length ≠ 8 then ({ status := .malformed }, s)
  else if trigger ≠ 1 ∧ trigger ≠ 2 then ({ status := .range }, s)
  else if trigger = 2 ∧ (period < 10 ∨ 3600000 < period) then ({ status := .range }, s)
  else
    match s.readStatus q k with
    | .ok =>
      if 256 ≤ s.acc.subs.length ∨ 32 ≤ s.acc.subs.countP (·.owner == q) then ({ status := .subLimit }, s)
      else
        let id := s.freeSub 257 s.acc.nextSub
        let (v, s) := s.readObj q k
        let x : Sub := { id, owner := q, key := k, trigger, period, last := v }
        let x := { x with due := s.tsNow 0 + x.span }
        ({ status := .ok, fields := beBytes 2 id ++ beBytes 2 0 },
          s.modAcc fun a => { a with subs := a.subs ++ [x], nextSub := id + 1 })
    | st => ({ status := st }, s)

/-- What goes with a refusal of a WRITE_BLOCK or a STAGE that reached none of its entries: FailPos 0xFF. -/
def Dev.failFields (s : Dev) (op : Nat) : List Byte :=
  if op = 4 then beBytes 16 0 ++ beBytes 1 0xFF ++ beBytes 3 0
  else if op = 5 then beBytes 2 s.acc.staged.length ++ beBytes 1 0xFF ++ beBytes 1 0
  else []

/-- One request: its opcode, the octets behind it, and the answer (R63, R558, R65). -/
def Dev.request (s : Dev) (q : Req) (op : Nat) (rest : List Byte) : Answer × Dev :=
  let f := rest.drop 3
  if rest.length < 3 then ({ status := .malformed }, s)
  else
    -- a Flags octet that is not zero comes first among the fields, after the length
    let (a, s') := match op with
      | 1 => s.doRead q f
      | 2 => s.doWrite q f
      | 3 => s.doReadBlock q f
      | 4 => s.doWriteBlock q f
      | 5 => s.doStage q f
      | 6 => s.doCommit q f
      | 7 => s.doAbort q f
      | 8 => s.doSubscribe q f
      | _ => ({ status := .unknownOp }, s)
    if a.status = .malformed ∨ a.status = .unknownOp ∨ fld rest 0 1 = 0 then (a, s')
    else ({ status := .reservedBits, fields := s.failFields op }, s)

/-- The body of a response (R63, R64): one above 1,440 octets is not sent. -/
def responseBody (op : Nat) (rest : List Byte) (a : Answer) : List Byte :=
  let head (st : Status) : List Byte :=
    beBytes 1 (op + 0x80) ++ beBytes 1 st.code ++ beBytes 2 (if rest.length < 3 then 0 else fld rest 1 2)
  if 1440 < 4 + a.fields.length then head .length else head a.status ++ a.fields

/-! ### Sessions (R56 to R63) -/

/-- A datagram dropped by R56. -/
def Dev.dropDatagram (s : Dev) : Dev := s.bump Od.malformedDatagrams

/-- An unused SessionId from n on. -/
def Dev.freeSid (s : Dev) : Nat → Nat → Nat
  | 0, n => n
  | k + 1, n =>
    let n := if n % 4294967296 = 0 then 1 else n % 4294967296
    if s.acc.sessions.any (·.sid == n) then s.freeSid k (n + 1) else n

/-- HELLO on a port for a level with a ClientNonce (R58). -/
def Dev.hello (s : Dev) (port level nonce : Nat) : Dev :=
  let no (s : Dev) : Dev := s.bump Od.helloDropped
  let sec := (s.tsNow 0 / second).toNat
  let made := if s.acc.helloSec = sec then s.acc.helloCount else 0
  if s.nat Od.powerState = 3 ∨ s.nat Od.powerState = 4 then s
  else if 5 ≤ level ∨ s.nat Od.sessionMax ≤ s.acc.sessions.length ∨
      s.nat Od.helloRateLimit ≤ made ∨ !s.oapPort port then no s
  else
    let (ok, s) := s.keyUse (level + 1) 1 [3]
    if !ok then no s
    else
      -- the choice of the SessionId is free (log entry 52)
      let (x, s) := s.fresh
      let sid := s.freeSid 40 (x.toNat % 4294967296)
      let eng := Config.drbg s.keys.draws 16 % 2 ^ 128
      let s := s.modKeys fun k => { k with draws := k.draws + 1 }
      let ses := { sid, level, port, clientNonce := nonce, engineNonce := eng, last := s.tick : Session }.withKeys (s.slot (level + 1)).key
      let s := s.modAcc fun a => { a with sessions := a.sessions ++ [ses], helloSec := sec, helloCount := made + 1 }
      (s.put Od.sessionsOpen s.acc.sessions.length).emit (.helloAck sid eng ses.helloAck)

def Dev.modSession (s : Dev) (sid : Nat) (f : Session → Session) : Dev :=
  s.modAcc fun a => { a with sessions := a.sessions.map fun x => if x.sid == sid then f x else x }

/-- A datagram with a body on a session: whether it is accepted (R60, R61). -/
def Dev.takeDg (s : Dev) (d : Dg) : Bool × Dev :=
  match s.acc.sessions.find? (·.sid == d.sid) with
  | none => (false, s)
  | some x =>
    let fresh := x.high < d.seq || (x.high < d.seq + 64 && !x.seen.contains d.seq)
    if d.seq = 0 ∨ !fresh then (false, s.bump Od.replayDrops)
    else if !d.tagOk then
      let s := (s.bump Od.tagFailures).modSession d.sid fun x => { x with tagRun := x.tagRun + 1 }
      (false, if 16 ≤ x.tagRun + 1 then s.closeSession 3 d.sid else s)
    else
      let high := max x.high d.seq
      (true, s.modSession d.sid fun x => { x with
        high, seen := (d.seq :: x.seen).filter fun n => high < n + 64, tagRun := 0, last := s.tick })

/-- Sequence 2^32, at which a session is to be opened anew (R62). -/
def seqLimit : Nat := 4294967296

/-- A body sent on a session, as a RESPONSE or a NOTIFY. -/
def Dev.sendOn (s : Dev) (sid : Nat) (notify : Bool) (body : List Byte) : Dev :=
  match s.acc.sessions.find? (·.sid == sid) with
  | none => s
  | some x =>
    let s := s.modSession sid fun x => { x with out := x.out + 1 }
    s.emit (if notify then .notify sid x.out body (x.seal 0x12 body) else .response sid x.out body (x.seal 0x11 body))

/-- Either Sequence has reached its limit. -/
def Dev.rekey (s : Dev) (sid : Nat) : Dev :=
  if s.acc.sessions.any fun x => x.sid == sid && (seqLimit ≤ x.high || seqLimit < x.out) then s.closeSession 4 sid else s

/-- A REQUEST of a session whose body begins with an opcode (R63). -/
def Dev.oapRequest (s : Dev) (op : Nat) (d : Dg) (rest : List Byte) : Dev :=
  let (ok, s) := s.takeDg d
  if !ok then s
  else
    let (a, s) := if 8 ≤ d.unanswered then (({ status := .busy, fields := s.failFields op } : Answer), s) else s.request (.oap d.sid) op rest
    ((s.sendOn d.sid false (responseBody op rest a)).afterWrite a.wrote).rekey d.sid

/-- A CLOSE from the client (R62). -/
def Dev.oapClose (s : Dev) (d : Dg) : Dev :=
  let (ok, s) := s.takeDg d
  if ok then s.dropSession d.sid else s

/-- SessionIdle has passed without an accepted datagram. -/
def Dev.idleSession (s : Dev) (sid : Nat) : Dev :=
  if s.acc.sessions.any fun x => x.sid == sid && decide (s.nat Od.sessionIdle * ticksPerSec ≤ s.since x.last) then
    s.closeSession 1 sid
  else s

/-! ### Notifications (R67, R68) -/

/-- A NOTIFY of a subscription with the value now. -/
def Dev.notify (s : Dev) (x : Sub) (v : Int) : Dev :=
  match Dict.row? x.key with
  | none => s
  | some r =>
    let body := beBytes 2 x.id ++ beBytes 4 x.seq ++ beBytes 3 x.key ++ beBytes 1 r.typ.wire ++
      beBytes 2 (r.typ.enc v).length ++ beBytes 16 s.now0 ++ r.typ.enc v
    let span := max 1 x.span
    let due := if x.trigger = 2 then x.due + span * ((s.tsNow 0 - x.due) / span + 1) else x.due
    let y : Sub := { x with seq := (x.seq + 1) % 4294967296, last := v, sent := some s.tick, due }
    let s := s.modAcc fun a => { a with subs := a.subs.map fun z => if z.id == x.id then y else z }
    let s := { s with watch := s.watch.filter (·.1 != x.id) }
    match x.owner with
    | .oap sid => (s.sendOn sid true body).rekey sid
    | _ => s.modAcc fun a => { a with notes := if a.notes.length < 64 then a.notes ++ [body] else a.notes }

/-- NOTIFY_ON_CHANGE: the value has changed since the one last sent, and 10 ms have passed since that. -/
def Dev.notifyChange (s : Dev) (id : Nat) : Dev :=
  match s.acc.subs.find? fun x => x.id == id && x.trigger == 1 with
  | some x =>
    let rested := match x.sent with
      | some k => decide (10 * ticksPerMs ≤ s.since k)
      | none => true
    let (v, s) := s.readObj x.owner x.key
    if rested && (v != x.last || s.changed id) && s.readStatus x.owner x.key == .ok then s.notify x v else s
  | none => s

/-- NOTIFY_PERIODIC: the instant of the next one on TS_0 has come. -/
def Dev.notifyPeriod (s : Dev) (id : Nat) : Dev :=
  match s.acc.subs.find? fun x => x.id == id && x.trigger == 2 with
  | some x =>
    if s.running 0 ∧ x.due ≤ s.tsNow 0 ∧ s.readStatus x.owner x.key = .ok then
      let (v, s) := s.readObj x.owner x.key
      s.notify x v
    else s
  | none => s

/-! ### Host SPI (R70 to R72) -/

/-- A REQ: the octets behind the command, which are Length, body and CRC-16. One whose length is not that of its Length field
fails its CRC (DESIGN CHOICE, log entry 75). It is answered as it arrives, so that REQ_BUSY never shows (log entry 76). -/
def Dev.spiReq (s : Dev) (bs : List Byte) : Dev :=
  let n := fld bs 0 2
  let body := (bs.drop 2).take n
  if s.nat Od.powerState = 4 ∨ s.mode.loader then s
  else if s.acc.rsp.isSome then s.modAcc fun a => { a with overrun := true }
  else if bs.length ≠ n + 4 ∨ crc16 (bs.take (n + 2)) ≠ fld bs (n + 2) 2 then
    (s.bump Od.hspiCrcErrors).modAcc fun a => { a with crcError := true }
  else
    let s := s.modAcc fun a => { a with crcError := false, overrun := false }
    let op := fld body 0 1
    let rest := body.drop 1
    let (a, s) := s.request .spi op rest
    let rsp := responseBody op rest a
    -- an empty body has no opcode to answer to
    (s.modAcc fun x => { x with rsp := some rsp }).afterWrite a.wrote

/-- HspiStatus. -/
def Dev.spiStatus (s : Dev) : Nat :=
  let b (i : Nat) (x : Bool) : Nat := if x then 2 ^ i else 0
  b Bit.hspiStatus_RSP_READY s.acc.rsp.isSome + b Bit.hspiStatus_NOTIFY_READY (!s.acc.notes.isEmpty) +
    b Bit.hspiStatus_CRC_ERROR s.acc.crcError + b Bit.hspiStatus_LOADER s.mode.loader +
    b Bit.hspiStatus_KEEP_LIMITED (s.nat Od.powerState == 3) + b Bit.hspiStatus_OVERRUN s.acc.overrun

/-- POLL. -/
def Dev.spiPoll (s : Dev) : Dev :=
  if s.nat Od.powerState = 4 then s
  else
    let n := match s.acc.rsp, s.acc.notes with
      | some r, _ => r.length
      | none, x :: _ => x.length
      | none, [] => 0
    s.emit (.spi (beBytes 1 s.spiStatus ++ beBytes 2 n))

/-- FETCH: the response, else the oldest notification, else nothing. -/
def Dev.spiFetch (s : Dev) : Dev :=
  if s.nat Od.powerState = 4 then s
  else
    let (kind, body) := match s.acc.rsp, s.acc.notes with
      | some r, _ => (0x11, r)
      | none, x :: _ => (0x12, x)
      | none, [] => (0, [])
    let bs := beBytes 1 kind ++ beBytes 2 body.length ++ body
    let s := s.modAcc fun a =>
      if a.rsp.isSome then { a with rsp := none } else { a with notes := a.notes.drop 1 }
    s.emit (.spi (bs ++ beBytes 2 (crc16 bs)))

end Sys2Proof.Machine
end

