-- ==== Sys2Proof/Machine/AccessCmds.lean ====
section
/-! DEFINITION. Object access as commands: OAP_DATAGRAM_DROPPED to PSK_WRITE (chapter 2). Where a request may
set TS_0, what that passes runs on the same tick (R79). -/

namespace Sys2Proof.Machine

/-- R56: whatever the reason, the datagram is counted and nothing is answered. -/
def execOapDatagramDropped (t : Nat) (_why : DropWhy) (s : State) : Host.Outcome State Fault Refusal :=
  s.after t fun d => d.dropDatagram

def execOapHello (t port level nonce : Nat) (s : State) : Host.Outcome State Fault Refusal :=
  s.afterUnit t 18 port fun d => d.hello port level nonce

def execOapClose (t : Nat) (dg : Dg) (s : State) : Host.Outcome State Fault Refusal := s.after t fun d => d.oapClose dg

def execOapRead (t : Nat) (dg : Dg) (body : List Byte) (s : State) : Host.Outcome State Fault Refusal :=
  s.after t fun d => d.oapRequest 1 dg body

def execOapWrite (t : Nat) (dg : Dg) (body : List Byte) (s : State) : Host.Outcome State Fault Refusal :=
  s.after t fun d => (d.oapRequest 2 dg body).runDue

def execOapReadBlock (t : Nat) (dg : Dg) (body : List Byte) (s : State) : Host.Outcome State Fault Refusal :=
  s.after t fun d => d.oapRequest 3 dg body

def execOapWriteBlock (t : Nat) (dg : Dg) (body : List Byte) (s : State) : Host.Outcome State Fault Refusal :=
  s.after t fun d => (d.oapRequest 4 dg body).runDue

def execOapStage (t : Nat) (dg : Dg) (body : List Byte) (s : State) : Host.Outcome State Fault Refusal :=
  s.after t fun d => d.oapRequest 5 dg body

def execOapCommit (t : Nat) (dg : Dg) (body : List Byte) (s : State) : Host.Outcome State Fault Refusal :=
  s.after t fun d => (d.oapRequest 6 dg body).runDue

def execOapAbort (t : Nat) (dg : Dg) (body : List Byte) (s : State) : Host.Outcome State Fault Refusal :=
  s.after t fun d => d.oapRequest 7 dg body

def execOapSubscribe (t : Nat) (dg : Dg) (body : List Byte) (s : State) : Host.Outcome State Fault Refusal :=
  s.after t fun d => d.oapRequest 8 dg body

def execSessionIdle (t sid : Nat) (s : State) : Host.Outcome State Fault Refusal := s.after t fun d => d.idleSession sid

def execNotifyOnChange (t sub : Nat) (s : State) : Host.Outcome State Fault Refusal := s.after t fun d => d.notifyChange sub

def execNotifyPeriodic (t sub : Nat) (s : State) : Host.Outcome State Fault Refusal := s.after t fun d => d.notifyPeriod sub

def execHspiReq (t : Nat) (bytes : List Byte) (s : State) : Host.Outcome State Fault Refusal := s.after t fun d => (d.spiReq bytes).runDue

def execHspiPoll (t : Nat) (s : State) : Host.Outcome State Fault Refusal := s.after t fun d => d.spiPoll

def execHspiFetch (t : Nat) (s : State) : Host.Outcome State Fault Refusal := s.after t fun d => d.spiFetch

def execJournalQuery (t : Nat) (q : Req) (id : Nat) (s : State) : Host.Outcome State Fault Refusal :=
  s.after t fun d => d.writeObj q Od.journalQueryId id

def execObjectWrite (t : Nat) (q : Req) (key : Nat) (v : Int) (s : State) : Host.Outcome State Fault Refusal :=
  s.after t fun d => (d.writeObj q key v).runDue

/-- PSK_WRITE: the key of a level 0 to 4. -/
def execPskWrite (t : Nat) (q : Req) (level : Nat) (v : Int) (s : State) : Host.Outcome State Fault Refusal :=
  s.afterUnit t 5 level fun d => d.writeObj q (Od.pskL0 + level) v

end Sys2Proof.Machine
end

