-- ==== Sys2Proof/Machine/AwlCmds.lean ====
section
/-! DEFINITION. The Awl as commands: AWL_EDGE to SYNCE_PHASE_STAMP (chapter 6). -/

namespace Sys2Proof.Machine

/-- AWL_EDGE: an edge at the input of a channel, in a TCLK cycle of the tick, at a bin of the delay line of the device on duty;
`other` where the device that stamps in parallel (steps 1 and 5 of Table 6-4) latches it: ticks later, TCLK cycle, bin. -/
def execAwlEdge (t ch tclk bin : Nat) (falling : Bool) (other : Option (Int × Nat × Nat)) (s : State) :
    Host.Outcome State Fault Refusal :=
  s.afterUnit t 40 ch fun d => d.awlEdge ch tclk bin falling other

def execIntervalEventRelease (t ch : Nat) (s : State) : Host.Outcome State Fault Refusal :=
  s.afterUnit t 40 ch fun d => d.releaseEvents ch false

def execFreqGateEnd (t ch : Nat) (s : State) : Host.Outcome State Fault Refusal := s.afterUnit t 40 ch fun d => d.gateEnd ch

/-- AWL_DMA_WRITE: one record into the ring in memory. -/
def execAwlDmaWrite (t : Nat) (s : State) : Host.Outcome State Fault Refusal :=
  .next ((State.dmaWrite (s.onDev (·.advance t))).onDev (·.noteChanges))

def execDmaRunWrite (t : Nat) (q : Req) (v : Int) (s : State) : Host.Outcome State Fault Refusal :=
  s.after t fun d => d.writeObj q Od.dmaRun v

def execBurnishStart (t : Nat) (s : State) : Host.Outcome State Fault Refusal := s.after t fun d => d.burnishStart

def execBurnishNow (t : Nat) (q : Req) (v : Int) (s : State) : Host.Outcome State Fault Refusal :=
  s.after t fun d => d.writeObj q Od.burnishNow v

/-- SKEW_MEASURED: OverlapTime of step 1 is over. -/
def execSkewMeasured (t : Nat) (s : State) : Host.Outcome State Fault Refusal := s.after t fun d => d.skewMeasured

def execOverlapMaxExpiry (t : Nat) (s : State) : Host.Outcome State Fault Refusal := s.after t fun d => d.overlapExpired

def execSpareOnDuty (t : Nat) (s : State) : Host.Outcome State Fault Refusal := s.after t fun d => d.spareOnDuty

/-- HISTOGRAM_DONE: hits of each bin of a device (AWL_0 … AWL_39, AWL_S 40, lane phase detector 64 + l). -/
def execHistogramDone (t dev : Nat) (hits : List Nat) (s : State) : Host.Outcome State Fault Refusal :=
  s.afterIf t (isDevice dev) fun d => d.histogramDone dev hits

/-- HANDBACK_CHECKED: OverlapTime of step 5 is over. -/
def execHandbackChecked (t : Nat) (s : State) : Host.Outcome State Fault Refusal := s.after t fun d => d.handbackChecked

def execChannelOnDuty (t : Nat) (s : State) : Host.Outcome State Fault Refusal := s.after t fun d => d.channelOnDuty

def execDllUnlock (t dev : Nat) (s : State) : Host.Outcome State Fault Refusal := s.afterIf t (isDevice dev) fun d => d.dllUnlock dev

def execDllRelock (t dev : Nat) (s : State) : Host.Outcome State Fault Refusal := s.afterIf t (isDevice dev) fun d => d.dllRelock dev

def execLpdBurnishNow (t : Nat) (q : Req) (l : Nat) (v : Int) (s : State) : Host.Outcome State Fault Refusal :=
  s.afterUnit t 22 l fun d => d.writeObj q (Od.lpdBurnishNow l) v

/-- SYNCE_PHASE_STAMP: an edge of the recovered clock of REF_14 (0) or REF_15 (1). -/
def execSyncePhaseStamp (t r tclk bin : Nat) (s : State) : Host.Outcome State Fault Refusal :=
  s.afterUnit t 2 r fun d => d.syncePhase (14 + r) tclk bin

end Sys2Proof.Machine
end

