-- ==== Sys2Proof/Machine/FaultCmds.lean ====
section
/-! DEFINITION. Faults, watchdogs and performance counters as commands: FAULT_REPORT to PMC_CLEAR, CORE_RUNNING and
PIPELINE_RETURNED_ACTIVE (chapter 15). -/

namespace Sys2Proof.Machine

/-! ### The collector (R472 to R487) -/

/-- FAULT_REPORT: the waiting report of a source is released, or a source that no other command raises reports with a detail; every
report whose 1.6 µs have passed is processed (R473, R478, R479). -/
def execFaultReport (t src detail : Nat) (s : State) : Host.Outcome State Fault Refusal :=
  s.afterIf t (isSource src) fun d => d.faultReport src detail

/-- REACT_SETTLE_END of entry r (R485). -/
def execReactSettleEnd (t r : Nat) (s : State) : Host.Outcome State Fault Refusal :=
  s.afterUnit t 32 r fun d => d.settleEnd r

def execSourceQuietPeriod (t src : Nat) (s : State) : Host.Outcome State Fault Refusal :=
  s.afterUnit t 256 src fun d => d.sourceQuiet src

def execFaultAck (t : Nat) (q : Req) (v : Int) (s : State) : Host.Outcome State Fault Refusal :=
  s.after t fun d => d.writeObj q Od.faultAck v

def execFaultRecordClear (t : Nat) (q : Req) (v : Int) (s : State) : Host.Outcome State Fault Refusal :=
  s.after t fun d => d.writeObj q Od.faultRecordClear v

def execFaultQuery (t : Nat) (q : Req) (v : Int) (s : State) : Host.Outcome State Fault Refusal :=
  s.after t fun d => d.writeObj q Od.faultQuerySource v

def execSourceConfigWrite (t : Nat) (q : Req) (src : Nat) (v : Int) (s : State) : Host.Outcome State Fault Refusal :=
  s.afterUnit t 256 src fun d => d.writeObj q (Od.sourceConfig src) v

/-! ### ALIVE and the watchdogs (R472, R481, R482, R488) -/

def execAliveToggle (t : Nat) (s : State) : Host.Outcome State Fault Refusal := s.after t fun d => d.aliveToggle

def execCollectorWatchdog (t : Nat) (s : State) : Host.Outcome State Fault Refusal := s.after t fun d => d.collectorStall

def execCoreWatchdogExpiry (t c : Nat) (s : State) : Host.Outcome State Fault Refusal :=
  s.afterUnit t 4 c fun d => d.coreWatchdog c

def execSrvStall (t : Nat) (s : State) : Host.Outcome State Fault Refusal := s.after t fun d => d.srvStall

def execCoreRunning (t c : Nat) (s : State) : Host.Outcome State Fault Refusal := s.afterUnit t 4 c fun d => d.coreBack c

def execPipelineReturnedActive (t i : Nat) (s : State) : Host.Outcome State Fault Refusal :=
  s.afterUnit t 4 i fun d => d.pipelineBack i

/-! ### Performance counters (R491 to R494) -/

def execPmcWrap (t k : Nat) (s : State) : Host.Outcome State Fault Refusal := s.afterUnit t 64 k fun d => d.pmcWraps k

/-- PMC_CONFIG_WRITE of PmcEvent (0), PmcMode (1) or PmcThreshold (2) of a counter. -/
def execPmcConfigWrite (t : Nat) (q : Req) (k which : Nat) (v : Int) (s : State) : Host.Outcome State Fault Refusal :=
  s.afterUnit t 64 k fun d =>
    d.writeObj q (if which = 0 then Od.pmcEvent k else if which = 1 then Od.pmcMode k else Od.pmcThreshold k) v

/-- PMC_CLEAR by PmcClearHi or PmcClearLo. -/
def execPmcClear (t : Nat) (q : Req) (hi : Bool) (v : Int) (s : State) : Host.Outcome State Fault Refusal :=
  s.after t fun d => d.writeObj q (if hi then Od.pmcClearHi else Od.pmcClearLo) v

end Sys2Proof.Machine
end

