-- ==== Sys2Proof/Machine/GnssCmds.lean ====
section
/-! DEFINITION. The GNSS baseband as commands: GIF_CLOCK_CHECK to IF_LEVEL_FAULT, GIF_CLK_LOSS (chapter 8). -/

namespace Sys2Proof.Machine

/-- GIF_CLOCK_CHECK: the sample clock's offset in 0.001 ppt. -/
def execGifClockCheck (t : Nat) (offset : Int) (s : State) : Host.Outcome State Fault Refusal :=
  s.after t fun d => d.gifCheck offset

def execGifClkLoss (t : Nat) (s : State) : Host.Outcome State Fault Refusal := s.after t fun d => d.gifLoss

/-- EPOCH_MARK: the TCLK cycle and bin at which GCD_0 latches the edge in this tick and GCD_1 dk ticks later; the pins of each IF at
the sample the edge completes (bits 3 to 0: IS, IM, QS, QM); what the channels measure. -/
def execEpochMark (t tclk0 bin0 : Nat) (dk : Int) (tclk1 bin1 : Nat) (pins : List Nat) (meas : List ChanMeas) (s : State) :
    Host.Outcome State Fault Refusal :=
  s.afterIf t (meas.all fun m => decide (m.ch < 192)) fun d => d.epochMark tclk0 bin0 dk tclk1 bin1 pins meas

def execGcdBurnish (t : Nat) (hits : List Nat) (s : State) : Host.Outcome State Fault Refusal :=
  s.after t fun d => d.gcdBurnish hits

def execGfeReplay (t : Nat) (q : Req) (k : Nat) (v : Int) (s : State) : Host.Outcome State Fault Refusal :=
  s.afterUnit t 4 k fun d => d.writeObj q (Od.gfeReplay k) v

/-- GFE_TRANSFER: the write, with the octets the front-end answers. -/
def execGfeTransfer (t : Nat) (q : Req) (v : Int) (resp : List Byte) (s : State) : Host.Outcome State Fault Refusal :=
  s.after t fun d => d.writeWith q Od.gfeTransfer v fun _ d => d.gfeTransfer v resp

/-- ACQUISITION_SEARCH_DONE: the searches M1 has put into the queue since, and the result of the search at its front: the C/N0 to
which its peak corresponds, the Doppler bin and the code phase of the peak. -/
def execAcquisitionSearchDone (t : Nat) (queued : List Search) (peak : Nat) (bin : Int) (code : Nat) (s : State) :
    Host.Outcome State Fault Refusal :=
  s.afterIf t (queued.all fun q => decide (q.ch < 192)) fun d => (d.searchDone peak bin code).queueSearches queued

def execChannelTrack (t c : Nat) (s : State) : Host.Outcome State Fault Refusal := s.afterUnit t 192 c fun d => d.channelTrack c

def execChannelLost (t c : Nat) (visible : Bool) (s : State) : Host.Outcome State Fault Refusal :=
  s.afterUnit t 192 c fun d => d.channelLost c visible

/-- NAV_UNIT_DECODED: the words or unit that pass their check, its length in bits, its octets. -/
def execNavUnitDecoded (t c mask bits : Nat) (payload : List Byte) (s : State) : Host.Outcome State Fault Refusal :=
  if c < 192 then .next ((State.navWrite (s.onDev (·.advance t)) c mask bits payload).onDev (·.noteChanges)) else .fault .noSuchUnit

def execNavCopyRunWrite (t : Nat) (q : Req) (v : Int) (s : State) : Host.Outcome State Fault Refusal :=
  s.after t fun d => d.writeObj q Od.navCopyRun v

def execGnssSolution (t a : Nat) (sol : GSol) (s : State) : Host.Outcome State Fault Refusal :=
  s.afterUnit t 2 a fun d => d.gnssSolution a sol

def execSolutionRecordArrival (t a : Nat) (s : State) : Host.Outcome State Fault Refusal :=
  s.afterUnit t 2 a fun d => d.solutionArrives a

def execSurveyStart (t : Nat) (q : Req) (a : Nat) (v : Int) (s : State) : Host.Outcome State Fault Refusal :=
  s.afterUnit t 2 a fun d => d.writeObj q (Od.surveyStart a) v

def execSurveyDone (t a : Nat) (s : State) : Host.Outcome State Fault Refusal := s.afterUnit t 2 a fun d => d.surveyDone a

/-- ANTENNA_POSITION_WRITE: AntennaPosX, Y, Z or PositionUnc, as `which` 0 to 3. -/
def execAntennaPositionWrite (t : Nat) (q : Req) (a which : Nat) (v : Int) (s : State) : Host.Outcome State Fault Refusal :=
  s.afterIf t (decide (a < 2) && decide (which < 4)) fun d => d.writeObj q (Od.antennaPosX a + which) v

def execResurveyDelayElapsed (t a : Nat) (s : State) : Host.Outcome State Fault Refusal := s.afterUnit t 2 a fun d => d.resurvey a

def execAlmanacStore (t : Nat) (s : State) : Host.Outcome State Fault Refusal := s.after t fun d => d.almanacStore

/-- IF_LEVEL_FAULT: IfMagOccupancy of IF k over 1 s, in 0.1 %. -/
def execIfLevelFault (t k occupancy : Nat) (s : State) : Host.Outcome State Fault Refusal :=
  s.afterUnit t 4 k fun d => d.ifLevel k occupancy

end Sys2Proof.Machine
end

