-- ==== Sys2Proof/Machine/KeyCmds.lean ====
section
/-! DEFINITION. The key store and life cycle as commands: KEY_IMPORT to SECURITY_FLOOR_WRITE (chapter 13). Each write is that of
the object that starts the operation. -/

namespace Sys2Proof.Machine

def execKeyImport (t : Nat) (q : Req) (v : Int) (s : State) : Host.Outcome State Fault Refusal :=
  s.after t fun d => d.writeObj q Od.keyImport v

def execKeyGenerate (t : Nat) (q : Req) (v : Int) (s : State) : Host.Outcome State Fault Refusal :=
  s.after t fun d => d.writeObj q Od.keyGenerate v

def execKeyDestroy (t : Nat) (q : Req) (v : Int) (s : State) : Host.Outcome State Fault Refusal :=
  s.after t fun d => d.writeObj q Od.keyDestroy v

def execKeyRotate (t : Nat) (q : Req) (v : Int) (s : State) : Host.Outcome State Fault Refusal :=
  s.after t fun d => d.writeObj q Od.keyRotate v

/-- KEY_ROTATION_SWITCH: every rotation whose SwitchAt is reached (R424). -/
def execKeyRotationSwitch (t : Nat) (s : State) : Host.Outcome State Fault Refusal := s.after t fun d => d.runSwitches

/-- KEY_RETIRE: every rotation whose KeyRetireDelay has passed (R424). -/
def execKeyRetire (t : Nat) (s : State) : Host.Outcome State Fault Refusal := s.after t fun d => d.runRetires

def execAttestRequest (t : Nat) (q : Req) (v : Int) (s : State) : Host.Outcome State Fault Refusal :=
  s.after t fun d => d.writeObj q Od.attestRequest v

def execKeyQuery (t : Nat) (q : Req) (v : Int) (s : State) : Host.Outcome State Fault Refusal :=
  s.after t fun d => d.writeObj q Od.keyQuerySlot v

/-- TAMPER_EVENT: a pin (0 to 3) goes high or low, or the condition of another source begins or ends (R426 to R431). -/
def execTamperEvent (t src detail : Nat) (begins : Bool) (s : State) : Host.Outcome State Fault Refusal :=
  s.afterUnit t 8 src fun d => d.tamperEvent src detail begins

def execTamperUnseal (t : Nat) (q : Req) (v : Int) (s : State) : Host.Outcome State Fault Refusal :=
  s.after t fun d => d.writeObj q Od.tamperUnseal v

def execLifeCycleRequest (t : Nat) (q : Req) (v : Int) (s : State) : Host.Outcome State Fault Refusal :=
  s.after t fun d => d.writeObj q Od.lifeCycleRequest v

/-- CUSTOMER_SIGNER_HASH_WRITE of CustomerSignerHash i (R439). -/
def execCustomerSignerHashWrite (t : Nat) (q : Req) (i : Nat) (v : Int) (s : State) : Host.Outcome State Fault Refusal :=
  s.afterUnit t 4 i fun d => d.writeObj q (Od.customerSignerHash i) v

/-- SECURITY_FLOOR_WRITE of a Kind (R439). -/
def execSecurityFloorWrite (t : Nat) (q : Req) (kind : Nat) (v : Int) (s : State) : Host.Outcome State Fault Refusal :=
  s.afterUnit t 6 kind fun d => d.writeObj q (Od.securityFloor kind) v

end Sys2Proof.Machine
end

