-- ==== Sys2Proof/Machine/LaneCmds.lean ====
section
/-! DEFINITION. The lanes as commands: LANE_ENABLE_WRITE to EYE_SCAN_DONE (chapter 10). -/

namespace Sys2Proof.Machine

/-! ### Lane states (Table 10-3) -/

def execLaneEnableWrite (t : Nat) (q : Req) (l : Nat) (v : Int) (s : State) : Host.Outcome State Fault Refusal :=
  s.afterUnit t 22 l fun d => d.writeObj q (Od.laneEnable l) v

def execLaneRestart (t : Nat) (q : Req) (l : Nat) (v : Int) (s : State) : Host.Outcome State Fault Refusal :=
  s.afterUnit t 22 l fun d => d.writeObj q (Od.laneRestart l) v

/-- LANE_CALIBRATION_COMPLETE: the loop delay of each lane of the group, and, in CALIBRATE, the histogram of each lane's phase
detector (R222). -/
def execLaneCalibrationComplete (t l : Nat) (delays : List Nat) (burnish : List (List Nat)) (s : State) :
    Host.Outcome State Fault Refusal :=
  s.afterUnit t 22 l fun d =>
    let d := if d.md = Mode.calibrate ∧ d.nat (Od.laneState l) = 1 then
        d.each ((d.laneGroup l).zip burnish) fun d p => d.lpdHistogram p.1 p.2 0 else d
    d.laneCalibrated l delays

/-- LINK_UP: the block boundary found on each lane of the group, lowest first, and the delay to the deskewed data. A preemption
verification starts anew (R364). -/
def execLinkUp (t l : Nat) (slips : List Nat) (deskew : Int) (s : State) : Host.Outcome State Fault Refusal :=
  s.afterUnit t 22 l fun d =>
    let rises := d.nat (Od.laneState l) == 2 && d.laneHead l == l
    let d := (d.laneUp l slips deskew).synceSignal
    let d := if rises ∧ portOfLane l < 18 then d.showPort (portOfLane l) else d
    if rises ∧ l < 16 ∧ d.on (Od.preemptEnable l) then d.startPreempt l else d

/-- LINK_DOWN: loss of signal or lock, where Table 10-5 does not except it. -/
def execLinkDown (t l : Nat) (s : State) : Host.Outcome State Fault Refusal :=
  s.afterUnit t 22 l fun d => (d.laneSignalLost l).synceSignal

def execLaneDrainWrite (t : Nat) (q : Req) (l : Nat) (v : Int) (s : State) : Host.Outcome State Fault Refusal :=
  s.afterUnit t 22 l fun d => d.writeObj q (Od.laneDrain l) v

def execLaneLoopWrite (t : Nat) (q : Req) (l : Nat) (v : Int) (s : State) : Host.Outcome State Fault Refusal :=
  s.afterUnit t 22 l fun d => d.writeObj q (Od.laneLoop l) v

/-- EQ_ENTRY_WRITE: the entry of a rate of a lane. -/
def execEqEntryWrite (t : Nat) (q : Req) (l r : Nat) (v : Int) (s : State) : Host.Outcome State Fault Refusal :=
  s.afterIf t (decide (l < 22) && decide (r < 256)) fun d => d.writeObj q (Od.eqEntry l r) v

/-! ### Sleep (Tables 10-5 and 10-6) -/

/-- Row 1 of Table 10-5. -/
def execRxLpiEntry (t l : Nat) (s : State) : Host.Outcome State Fault Refusal :=
  s.afterUnit t 22 l fun d =>
    if d.nat (Od.laneState l) = 3 ∧ d.nat (Od.lpiRxState l) = 0 then (d.rxLpi l 1).bump (Od.lpiRxEntries l) else d

/-- Row 2. -/
def execRxLpiExit (t l : Nat) (s : State) : Host.Outcome State Fault Refusal :=
  s.afterUnit t 22 l fun d => if d.nat (Od.lpiRxState l) = 1 then d.rxLpi l 0 else d

/-- Rows 3 and 4. -/
def execRxLpiSignalLoss (t l : Nat) (s : State) : Host.Outcome State Fault Refusal :=
  s.afterUnit t 22 l fun d => if d.nat (Od.lpiRxState l) = 1 then (d.laneSignalLost l).synceSignal else d

/-- Row 5. -/
def execRxSignalDetected (t l : Nat) (s : State) : Host.Outcome State Fault Refusal :=
  s.afterUnit t 22 l fun d => if d.nat (Od.lpiRxState l) = 2 then d.rxLpi l 3 else d

/-- Row 6. -/
def execRxWakeLock (t l slip : Nat) (s : State) : Host.Outcome State Fault Refusal :=
  s.afterUnit t 22 l fun d =>
    if d.nat (Od.lpiRxState l) = 3 ∧ d.since (d.lane l).rxAt ≤ ticksPerMs then ((d.rxLpi l 0).recordSlip l slip).synceSignal else d

/-- Row 7. -/
def execRxQuietTimeout (t l : Nat) (s : State) : Host.Outcome State Fault Refusal :=
  s.afterUnit t 22 l fun d => (d.rxTimeout l).synceSignal

def execTxLpiIdle (t l : Nat) (s : State) : Host.Outcome State Fault Refusal := s.afterUnit t 22 l fun d => d.txIdle l

def execTxLpiWakeTrigger (t l : Nat) (s : State) : Host.Outcome State Fault Refusal := s.afterUnit t 22 l fun d => d.txTrigger l

def execTxWakeComplete (t l : Nat) (s : State) : Host.Outcome State Fault Refusal := s.afterUnit t 22 l fun d => d.txAwake l

/-- LPI_REFRESH: 20 µs of refresh, every 1 ms in transmit QUIET. -/
def execLpiRefresh (t l : Nat) (s : State) : Host.Outcome State Fault Refusal :=
  s.afterUnit t 22 l fun d =>
    if d.nat (Od.lpiTxState l) = 2 then d.modLane l fun r => { r with refreshAt := d.tick } else d

/-! ### The wake pattern (R338, R339) -/

/-- The bit of WakeDetectEnable of a lane with a detector: MLANE_0 (20) and PAIR_0 (16). -/
def wakeDetector (l : Nat) : Option Nat := if l = 20 then some 0 else if l = 16 then some 1 else none

/-- The instants within WakeCode's 16 slots of 64 µs at which one level passes to the other, in ticks from its begin (R337). -/
def wakeEdges (code : Nat) : List Nat :=
  ((List.range 16).filter fun i => i != 0 && code.testBit (15 - i) != code.testBit (16 - i)).map (· * (64 * ticksPerUs))

/-- Whether edges seen since the first are those of WakeCode, each within 8 µs of its place (R338). -/
def Dev.wakeMatches (s : Dev) (edges : List Nat) : Bool :=
  let want := wakeEdges (s.nat Od.wakeCode)
  edges.length == want.length && (edges.zip want).all fun p => decide (((p.1 : Int) - p.2).natAbs ≤ 8 * ticksPerUs)

/-- Edges of a received envelope on a lane: where they are those of the wake pattern it is accepted, and the power controller told,
which acts where WakeSources lets it (R338, R506). -/
def Dev.wakePattern (s : Dev) (l : Nat) (edges : List Nat) : Dev :=
  match wakeDetector l with
  | some b =>
    if (s.nat Od.powerState = 2 ∨ s.nat Od.powerState = 3) ∧ s.bit Od.wakeDetectEnable b ∧ s.wakeMatches edges then
      let s := (s.bump Od.wakesDetected).flag (Od.laneSticky l) Bit.laneSticky_WakeDetected
      if s.bit Od.wakeSources 0 then s.wakeBy 2 else s
    else s
  | none => s

/-- WAKE_PATTERN_DETECTED: the edges of the envelope after its first, in ticks from it. -/
def execWakePatternDetected (t l : Nat) (edges : List Nat) (s : State) : Host.Outcome State Fault Refusal :=
  s.afterUnit t 22 l fun d => d.wakePattern l edges

def execWakeSend (t : Nat) (q : Req) (v : Int) (s : State) : Host.Outcome State Fault Refusal :=
  s.after t fun d => d.writeObj q Od.wakeSend v

def execWakeSendDone (t l : Nat) (s : State) : Host.Outcome State Fault Refusal :=
  s.afterUnit t 22 l fun d =>
    match (d.lane l).waking with
    | some k => if k ≤ d.tick then d.modLane l fun r => { r with waking := none } else d
    | none => d

/-! ### Patterns and eye scan (R342 to R345); pattern lane i is lane 16 + i -/

/-- PAT_MODE_WRITE: PatTxMode, or PatRxMode. -/
def execPatModeWrite (t : Nat) (q : Req) (i : Nat) (tx : Bool) (v : Int) (s : State) : Host.Outcome State Fault Refusal :=
  s.afterUnit t 6 i fun d => d.writeObj q (if tx then Od.patTxMode i else Od.patRxMode i) v

def execPatInjectOne (t : Nat) (q : Req) (i : Nat) (v : Int) (s : State) : Host.Outcome State Fault Refusal :=
  s.afterUnit t 6 i fun d => d.writeObj q (Od.patInjectOne i) v

def execPatClear (t : Nat) (q : Req) (i : Nat) (v : Int) (s : State) : Host.Outcome State Fault Refusal :=
  s.afterUnit t 6 i fun d => d.writeObj q (Od.patClear i) v

/-- PAT_LOCK_LOSS: the errors among 1,024 bits, more than 10 %; the checker locks again after 64 bits. -/
def execPatLockLoss (t i errs : Nat) (s : State) : Host.Outcome State Fault Refusal :=
  s.afterUnit t 6 i fun d =>
    if d.nat (Od.patRxMode i) ≠ 0 ∧ d.on (Od.patLocked i) ∧ 1024 < 10 * errs then
      ((d.patSettle i).bump64 (Od.patErrors i) errs).bump (Od.patLockLosses i)
    else d

def execEyeScanStart (t : Nat) (q : Req) (v : Int) (s : State) : Host.Outcome State Fault Refusal :=
  s.after t fun d => d.writeObj q Od.eyeScanStart v

/-- EYE_SCAN_DONE: the 1,024 counts, row by row. -/
def execEyeScanDone (t : Nat) (map : List Byte) (s : State) : Host.Outcome State Fault Refusal :=
  s.after t fun d => d.eyeDone map

end Sys2Proof.Machine
end

