-- ==== Sys2Proof/Machine/MacCmds.lean ====
section
/-! DEFINITION. The MACs as commands: RX_FRAME to OWN_PAUSE_BREAK (chapter 11). -/

namespace Sys2Proof.Machine

/-- RX_FRAME on a port (R349 to R354, R367). -/
def execRxFrame (t p : Nat) (f : RxF) (s : State) : Host.Outcome State Fault Refusal :=
  s.afterUnit t 18 p fun d => d.rxFrame p f

/-- PAUSE_FRAME_RECEIVED: the class-enable vector and the times of the frame (R372). -/
def execPauseFrameReceived (t p enable : Nat) (times : List Nat) (s : State) : Host.Outcome State Fault Refusal :=
  s.afterUnit t 18 p fun d => d.pauseFrame p enable times

/-- TX_FRAME_COMMIT (R355, R359, R362, R365, R370, R376, R384). -/
def execTxFrameCommit (t p : Nat) (f : TxF) (s : State) : Host.Outcome State Fault Refusal :=
  s.afterUnit t 18 p fun d => d.txCommit p f

/-- LAUNCH_TIME_FRAME: T of a port's next launch-time frame has come, which reached the MAC at a tick (R358). -/
def execLaunchTimeFrame (t p arrived : Nat) (f : TxF) (s : State) : Host.Outcome State Fault Refusal :=
  s.afterUnit t 16 p fun d => d.launchFrame p arrived f

/-- TSQ_READ: one entry of a two-step queue (R362, R363). -/
def execTsqRead (t p : Nat) (s : State) : Host.Outcome State Fault Refusal := s.afterUnit t 18 p fun d => d.tsqRead p

/-- TX_SLOT_WRITE (R360): class, insertion request and frame of a slot. -/
def execTxSlotWrite (t p slot cls : Nat) (insert : Option Insert) (frame : List Byte) (s : State) : Host.Outcome State Fault Refusal :=
  s.afterIf t (decide (p < 16) && decide (slot < 64)) fun d => d.writeSlot p slot cls insert frame

/-! ### Preemption (R364) -/

def execPreemptEnableWrite (t : Nat) (q : Req) (p : Nat) (v : Int) (s : State) : Host.Outcome State Fault Refusal :=
  s.afterUnit t 16 p fun d => d.writeObj q (Od.preemptEnable p) v

/-- PREEMPT_VERIFY: a verify attempt, at least 10 ms after the one before it where that failed. -/
def execPreemptVerify (t p : Nat) (ok : Bool) (s : State) : Host.Outcome State Fault Refusal :=
  s.afterUnit t 16 p fun d =>
    if (d.port p).tries = 0 ∨ 10 * ticksPerMs ≤ d.since (d.port p).tryAt then d.verifyPreempt p ok else d

/-! ### Gates (R368 to R371) -/

/-- GATE_ENTRY: the states of the entry the list is at. -/
def execGateEntry (t p : Nat) (s : State) : Host.Outcome State Fault Refusal := s.afterUnit t 16 p fun d => d.showGates p

def execConfigChange (t : Nat) (q : Req) (p : Nat) (v : Int) (s : State) : Host.Outcome State Fault Refusal :=
  s.afterUnit t 16 p fun d => d.writeObj q (Od.configChange p) v

def execGateConfigChangeTime (t p : Nat) (s : State) : Host.Outcome State Fault Refusal :=
  s.afterUnit t 16 p fun d => d.gateConfigApply p

/-! ### PAUSE and PFC (R372 to R375); with PAUSE the engine's own XOFF is that of class 0 -/

def execPauseTimerExpiry (t p c : Nat) (s : State) : Host.Outcome State Fault Refusal :=
  s.afterIf t (decide (p < 16) && decide (c < 8)) fun d => d.pauseExpiry p c

def execPauseWatchdogBreak (t p c : Nat) (s : State) : Host.Outcome State Fault Refusal :=
  s.afterIf t (decide (p < 16) && decide (c < 8)) fun d => d.pauseBreak p c

/-- PAUSE_BREAK_WINDOW_END: requests of the class are honoured again. -/
def execPauseBreakWindowEnd (t p c : Nat) (s : State) : Host.Outcome State Fault Refusal :=
  s.afterIf t (decide (p < 16) && decide (c < 8)) fun d => d.showPause p

/-- XOFF_REPEAT: with the frames held on the port, counted from the oldest, that their consumers have taken since. -/
def execXoffRepeat (t p c : Nat) (taken : List Nat) (s : State) : Host.Outcome State Fault Refusal :=
  s.afterIf t (decide (p < 16) && decide (c < 8)) fun d => d.repeatXoff p c taken

def execOwnPauseBreak (t p c : Nat) (s : State) : Host.Outcome State Fault Refusal :=
  s.afterIf t (decide (p < 16) && decide (c < 8)) fun d => d.breakXoff p c

end Sys2Proof.Machine
end

