-- ==== Sys2Proof/Machine/OutCmds.lean ====
section
/-! DEFINITION. Timed outputs and the schedule as commands: SCHEDULE_OCCURRENCE to OSYN_ENABLE_WRITE (chapter 9). -/

namespace Sys2Proof.Machine

/-- SCHEDULE_OCCURRENCE: a due COMMIT comes first, then the entries of this tick in the order of R305. -/
def execScheduleOccurrence (t : Nat) (s : State) : Host.Outcome State Fault Refusal :=
  s.after t fun d => d.runDue.runSchedule.showEntries

def execTioPeriodicPulse (t n : Nat) (s : State) : Host.Outcome State Fault Refusal :=
  s.afterUnit t 32 n fun d => d.periodicPulse n

def execTodoutMessage (t j : Nat) (s : State) : Host.Outcome State Fault Refusal := s.afterUnit t 2 j fun d => d.todSend j

def execSchedEntryWrite (t : Nat) (q : Req) (e : Nat) (v : Int) (s : State) : Host.Outcome State Fault Refusal :=
  s.afterUnit t 4096 e fun d => d.writeObj q (Od.schedEntry e) v

def execTioFunctionWrite (t : Nat) (q : Req) (n : Nat) (v : Int) (s : State) : Host.Outcome State Fault Refusal :=
  s.afterUnit t 32 n fun d => d.writeObj q (Od.tioFunction n) v

def execOsynEnableWrite (t : Nat) (q : Req) (o : Nat) (v : Int) (s : State) : Host.Outcome State Fault Refusal :=
  s.afterUnit t 4 o fun d => d.writeObj q (Od.osynEnable o) v

end Sys2Proof.Machine
end

