-- ==== Sys2Proof/Machine/PairCmds.lean ====
section
/-! DEFINITION. Pair redundancy as commands: HELLO_FRAME to M3_HANDLER_RETURN (chapter 14). -/

namespace Sys2Proof.Machine

/-! ### What every command of the pair needs -/

/-- f where the pair is enabled (R471). -/
def Dev.inPair (s : Dev) (f : Dev → Dev) : Dev := if s.paired then f s else s

/-- Whether PEER_ALIVE keeps changing level. -/
def Dev.peerAlive (s : Dev) : Bool := decide (s.since s.pair.peerAt < s.nat Od.aliveLossTime * ticksPerUs)

/-- The barriers confirmed by the digests compared so far (R311). -/
def Dev.confirmed (s : Dev) : Dev :=
  let last := s.nat Od.digestEpoch
  s.confirmBarriers fun e => decide (e ≤ last) && decide (last < e + s.nat Od.digestRun)

/-! ### HELLO and roles (R442, R445, R446) -/

/-- Whether this engine yields to a partner that is ACTIVE as well. -/
def Dev.yields (s : Dev) (serial since : Nat) : Bool :=
  let own := s.nat Od.activeSince
  decide (since < own) || (since == own && decide (serial < s.nat Od.serialNumber))

/-- A HELLO. -/
def Dev.helloFrame (s : Dev) (h : Hello) : Dev :=
  let s := (s.linkHeard.modPair fun p => { p with hello := some h }).put Od.partnerSerial h.serial
  let s := if !h.versionsMatch ∧ s.md ≠ Mode.follower then
      (s.flag Od.pairSticky Bit.pairSticky_ImageMismatch).when (s.md != Mode.warmup) (·.put Od.pairState 6)
    else if h.versionsMatch ∧ s.nat Od.pairState = 6 ∧ s.nat Od.pairRole = 1 then s.put Od.pairState 3
    else s
  if s.nat Od.pairRole = 1 ∧ h.claim = 1 then
    let s := s.flag Od.pairSticky Bit.pairSticky_DualActive
    if s.yields h.serial h.activeSince then s.resetRow1 else s
  else if s.nat Od.pairRole = 1 ∧ h.claim = 0 ∧ s.nat Od.pairState ≠ 6 then s.put Od.pairState 3
  else if s.md = Mode.warmup ∧ s.mode.ready then s.post .oscReady
  else s

/-- HELLO_FRAME: SerialNumber, PairPriority, RoleClaim, the versions of the application and of the pipeline microcode, ActiveSince. -/
def execHelloFrame (t serial priority claim : Nat) (app micro : Int) (activeSince : Nat) (s : State) :
    Host.Outcome State Fault Refusal :=
  s.after t fun d => d.inPair fun d =>
    let versionsMatch := app == d.num Od.applicationVersionM3 && micro == d.update.micro
    d.helloFrame { serial, priority, claim, versionsMatch, activeSince }

/-- PAIR_JOIN_WAIT_EXPIRY (R445): row 11 with role ACTIVE. -/
def execPairJoinWaitExpiry (t : Nat) (s : State) : Host.Outcome State Fault Refusal :=
  s.after t fun d => d.inPair fun d =>
    match d.pair.waiting with
    | some k =>
      if d.md = Mode.warmup ∧ d.mode.ready ∧ d.pair.hello.isNone ∧ d.nat Od.pairJoinWait * ticksPerSec ≤ d.since k then
        ((d.enterMode Mode.acquire 4 []).becomeActive 3).modPair fun p => { p with waiting := none }
      else d
    | none => d

/-! ### Heartbeats (R448, R453, R457, R460) -/

/-- A held frame is discarded once the CommitHorizon of its port reaches it. -/
def beyondCommit (commit : Tab (Nat × Nat)) (h : Held) : Bool :=
  let c := Tab.get (fun _ => (0, 0)) commit h.port
  decide (c.1 < h.ready) || (h.ready == c.1 && decide (c.2 < h.ordinal))

/-- What an active engine reads off its partner's mode (R445, R468). -/
def Dev.partnerMode (s : Dev) (mode : Nat) : Dev :=
  if s.nat Od.pairRole ≠ 1 ∨ s.nat Od.pairState = 6 then s
  else if mode = Mode.follower then
    let s := (s.put Od.pairState 2).when (s.nat Od.pairState != 2) (·.flag Od.pairSticky Bit.pairSticky_Paired)
    s.modPair fun p => { p with diverged := false }
  else if mode = Mode.resync ∧ !s.pair.diverged then s.put Od.pairState 4
  else s.put Od.pairState 3

/-- The active's mode changes, as its heartbeats show (R33). Where its Keeper comes to steer, L is latched (R244, R246); where it
comes to be locked, LearnHoldoff runs (R189). -/
def Dev.shadowTo (s : Dev) (mode : Nat) : Dev :=
  let was := s.nat Od.shadowMode
  let kept (m : Nat) : Bool := m == Mode.holdover || m == Mode.freerun
  let s := if kept mode && !kept was then s.latchBound 0 else s
  let s := s.put Od.shadowMode mode
  let s := if was ≠ Mode.locked ∧ mode = Mode.locked then s.modKeep fun k => { k with lockAt := s.tick } else s
  if was ≠ Mode.holdover ∧ mode = Mode.holdover then s.startHoldover
  else if was = Mode.holdover ∧ mode ≠ Mode.holdover then s.endHoldover
  else s

/-- What a standby takes from the active's heartbeat. -/
def Dev.fromActive (s : Dev) (mode horizon : Nat) (commits : List (Nat × Nat × Nat)) (lead : Int) : Dev :=
  let commit := commits.foldl (fun l c => Tab.set (fun _ => (0, 0)) l c.1 c.2) s.pair.commit
  let held := s.pair.held.filter (beyondCommit commit)
  let s := (s.modPair fun p => { p with horizon := max p.horizon horizon, commit, held }).put Od.holdDepth held.length
  if s.md = Mode.follower then
    s.shadowTo mode
  else if s.md = Mode.resync ∧ s.pair.running ∧ s.nat Od.resyncStep = 0 ∧ s.pair.hello.isSome ∧ s.pairLanesUp ≠ 0 then
    (s.linkResync lead).runDue
  else s

/-- HEARTBEAT_FRAME (Table 14-4), with this engine's own mean of the partner's edges (2^-16 ns) and by how much the active's
TS_0 is ahead of its own (2^-32 ns), as PAIRCLK shows it. -/
def execHeartbeatFrame (t mode role : Nat) (healthy : Bool) (horizon : Nat) (commits : List (Nat × Nat × Nat))
    (measure own lead : Int) (s : State) : Host.Outcome State Fault Refusal :=
  s.after t fun d => d.inPair fun d =>
    let d := d.linkHeard.putB Od.partnerHealthy healthy
    let d := d.modPair fun p => { p with peerMode := mode, peerRole := role, peerMeasure := measure, measure := own }
    let d := d.partnerMode mode
    if d.nat Od.pairRole = 2 ∧ role = 1 then d.fromActive mode horizon commits lead else d

/-- HEARTBEAT_SEND, while ALIVE toggles: with it, for 10 s after a failover, TAKEN (R465); once At of a planned exchange is
past, the exchange is done (R467). -/
def execHeartbeatSend (t : Nat) (s : State) : Host.Outcome State Fault Refusal :=
  s.after t fun d => d.inPair fun d =>
    if d.nat Od.aliveState ≠ 1 then d
    else
      let commits := ((List.range 16).map fun p => [(d.port p).commit.1, (d.port p).commit.2]).flatten
      let d := d.tell 0x02 ([d.md, d.nat Od.pairRole, if d.healthy then 1 else 0, d.cnt] ++ commits ++ [twos 64 d.pair.measure])
      let d := if d.tick < d.pair.takenUntil then d.tell 0x41 [d.nat Od.lastFailoverTime] else d
      match d.pair.exchange with
      | some (at', true) =>
        if at' ≤ d.tsNow 0 ∧ d.nat Od.roleExchangeResult = 1 then
          (d.put Od.roleExchangeResult 2).flag Od.pairSticky Bit.pairSticky_ExchangeDone
        else d
      | _ => d

/-! ### The link (R449 to R451) -/

def execNakFrame (t first last : Nat) (s : State) : Host.Outcome State Fault Refusal :=
  s.after t fun d => d.inPair fun d => d.linkHeard.retransmit first last

def execAckFrame (t seq : Nat) (s : State) : Host.Outcome State Fault Refusal :=
  s.after t fun d => d.inPair fun d => d.linkHeard.ackUpTo seq

/-- ACK_SEND: the highest LinkSeq received without gap. -/
def execAckSend (t : Nat) (s : State) : Host.Outcome State Fault Refusal :=
  s.after t fun d => d.inPair fun d =>
    if d.pair.frameAt.isSome then d.tell 0x21 [(d.pair.seqIn + 4294967295) % 4294967296] else d

/-- LINK_SILENT: on a standby whose partner's ALIVE goes on it is a divergence (R468). -/
def execLinkSilent (t : Nat) (s : State) : Host.Outcome State Fault Refusal :=
  s.after t fun d => d.inPair fun d =>
    match d.pair.frameAt with
    | some k =>
      if !d.pair.silent ∧ d.nat Od.linkLossTime * ticksPerUs ≤ d.since k then
        let d := d.modPair fun p => { p with silent := true }
        if d.peerAlive ∧ (d.md = Mode.follower ∨ d.nat Od.pairState = 2) then d.diverge 4 (epochOf (d.tsNow 0)) else d
      else d
    | none => d

def execPeerAliveChange (t : Nat) (level : Bool) (s : State) : Host.Outcome State Fault Refusal :=
  s.after t fun d =>
    if d.pair.peer = level then d else d.modPair fun p => { p with peer := level, peerAt := d.tick }

/-! ### The log as the standby executes it (R452, R453, R459) -/

/-- The actions of a handler take effect. -/
def Dev.takeActions (s : Dev) (l : List (Nat × Int)) : Dev := s.each l fun s a => s.appWrite a.1 a.2

/-- The returned handlers of epochs up to e act, in order. -/
def Dev.runHandlers (s : Dev) (e : Nat) : Dev :=
  let due (h : Handler) : Bool := h.returned && decide (h.epoch ≤ e)
  let go := s.pair.handlers.filter due
  (s.modPair fun p => { p with handlers := p.handlers.filter fun h => !due h }).each go fun s h => s.takeActions h.acts

/-- The entries of objects and values as a write carries them. -/
def asksOf (vs : List (Nat × Int)) : List Ask :=
  vs.filterMap fun p => (Dict.row? p.1).map fun r => { key := p.1, typ := r.typ.wire, bytes := r.typ.enc p.2 : Ask }

/-- A logged frame with a request to a service, as it arrived at the active. -/
def Dev.serviceRecord (s : Dev) : SvcReq → Dev
  | .delay f p => s.delayReq f p
  | .request f p rs => s.signalRequest f p rs
  | .cancel f p typ => s.signalCancel f p typ
  | .ntp f n => s.ntpRequest f n
  | .nts f n x => s.ntsRequest f n x

/-- A record of the log executed. -/
def Dev.logRecord (s : Dev) : LogRec → Dev
  | .service r => s.serviceRecord r
  | .pdelayReq f p => s.pdelayAnswer f p
  | .pdelayResp f p x => s.pdelayResp f p x
  | .resolve p a => s.answerAsk p a
  | .foreign port domain => s.foreignAnnounce port domain
  | .announce r f a => s.trkAnnounce r f a
  | .sync r f seq two origin corr tlv => s.trkSync r f seq two origin corr tlv
  | .followUp r f seq origin corr tlv => s.trkFollowUp r f seq origin corr tlv
  | .delayResp r f seq t4 corr => s.trkDelayResp r f seq t4 corr
  | .grant r f typ d => s.trkGranted r f typ d
  | .esmc m ssm essm => s.esmcPdu m ssm essm
  | .awl m k f => s.refinEdge m k f
  | .tod m bs => s.todMessage m bs
  | .solution a epoch tick fine x status band d msys sigma causes withheld utc leap =>
    s.takeSolution a { epoch, x, status, band, d, msys, sigma, causes, withheld, utc, leap } { number := epoch, tick, fine }
  | .write vs =>
    let (o, s) := s.writeAll .log (asksOf vs)
    if o.status = .ok then s.afterWrite vs else s
  | .stage vs => (s.stage .log (asksOf vs)).2.2.2
  | .commit scheduled at' =>
    let (_, _, _, vs, s) := s.commit .log scheduled at'
    s.afterWrite vs
  | .abort => (s.abortStage .log).2.2
  | .txStamp p seq tag k f => s.tsqPush p seq tag k f
  | .txMissed p q kind => s.launchMissed p q kind
  | .inc n i k => if k ≤ s.tick then s.takeInc n i else s.modPair fun p => { p with incs := p.incs ++ [(k, n, i)] }
  | .terms pred uy ua ut lo temp sys =>
    s.modPair fun p => { p with terms := some { pred, uy, ua, ut, lo, temp, sys } }
  | .phase m k f => s.measureEdge m k f 0
  | .link l up =>
    (s.modPair fun p => { p with
      lanesDown := if up then p.lanesDown.filter (· != l) else l :: p.lanesDown.filter (· != l) }).synceSignal
  | .verdict c b =>
    (s.endGrants c).modClient c fun x => { x with refused := true, admitTime := (s.sec0 + b) % 4294967296 }
  | .random n => s.newCookies n
  | .appBoundary e => s.runHandlers e

/-- Whether a record is executed now: a standby follows the active's INC as soon as it has its time, and executes the whole log
from CUTOVER on (Table 14-9). -/
def Dev.executes (s : Dev) (r : LogRec) : Bool :=
  s.md == Mode.follower || (s.md == Mode.resync && s.pair.running &&
    (decide (3 ≤ s.nat Od.resyncStep) || (decide (1 ≤ s.nat Od.resyncStep) && match r with
      | .inc .. => true
      | _ => false)))

/-- A record executed as an input of its entry tick (R452). -/
def Dev.takeRecord (s : Dev) (r : Nat × LogRec) : Dev :=
  if s.executes r.2 then
    ((s.modPair fun p => { p with entry := some r.1 }).logRecord r.2).modPair fun p => { p with entry := none }
  else s

/-- LOG_FRAME: LinkSeq, whether the CRC is good, the records with their entry ticks. -/
def execLogFrame (t seq : Nat) (crcOk : Bool) (recs : List (Nat × LogRec)) (s : State) : Host.Outcome State Fault Refusal :=
  s.after t fun d => d.inPair fun d =>
    let (ok, d) := d.takeSeq seq crcOk
    if ok then (d.modPair fun p => { p with received := p.received + recs.length }).each recs (·.takeRecord ·) else d

/-! ### Epochs and digests (R455, R459, R468) -/

/-- EPOCH_END_FRAME: where as many records came as the active logged, the log of the epoch is complete; its digest is known. -/
def execEpochEndFrame (t seq : Nat) (crcOk : Bool) (epoch count digest : Nat) (s : State) : Host.Outcome State Fault Refusal :=
  s.after t fun d => d.inPair fun d =>
    let (ok, d) := d.takeSeq seq crcOk
    if ok then
      ((d.modPair fun p => { p with
        complete := if p.received = count then max p.complete epoch else p.complete
        received := 0 }).takeDigest epoch digest).confirmed
    else d

def execDigestFrame (t epoch digest : Nat) (s : State) : Host.Outcome State Fault Refusal :=
  s.after t fun d => d.inPair fun d => (d.linkHeard.takeDigest epoch digest).confirmed

/-- Whether an engine forms digests: an active with a partner that executes the log, or that partner. -/
def Dev.digests (s : Dev) : Bool :=
  s.md == Mode.follower || (s.md == Mode.resync && s.pair.running && decide (3 ≤ s.nat Od.resyncStep)) ||
    (s.nat Od.pairRole == 1 && (s.nat Od.pairState == 2 || s.nat Od.pairState == 4))

/-- The handlers of the active that have not returned by their boundary (R459). -/
def Dev.overruns (s : Dev) (e : Nat) : Dev :=
  let beyond := s.pair.handlers.filter fun h => !h.returned && h.epoch + 2 == e
  if s.nat Od.pairRole = 1 then
    s.each beyond fun s _ => ((s.bump Od.appOverruns).flag Od.pairSticky Bit.pairSticky_AppOverrun).report 204 0
  else s

/-- The digest of the epoch past is formed. Where an active has sent every item to a partner that resynchronises, CUTOVER ends the
copy, and the next digest is formed from its seed (R469). -/
def Dev.closeEpoch (s : Dev) (e : Nat) (writers : List (Nat × Nat × Nat)) (cutover : Option Nat) : Dev :=
  let s := if s.digests then (s.formDigest e writers).confirmed else s
  let s := s.modPair fun p => { p with logged' := 0 }
  match cutover with
  | some seed =>
    if s.nat Od.pairRole = 1 ∧ s.nat Od.pairState = 4 then
      (s.modPair fun p => { p with last := seed, seed := some (e, seed) }).tell 0x31 [e, seed]
    else s
  | none => s

/-- EPOCH_BOUNDARY, with what each writer of Table 14-6 wrote in the epoch past (number of writes, accumulator), and for an active
that has sent a copy whole the digest of its items: lanes join and leave, the digest is formed, the handlers of the epoch before
it act; what an active applies late is logged. -/
def execEpochBoundary (t : Nat) (writers : List (Nat × Nat × Nat)) (cutover : Option Nat) (s : State) :
    Host.Outcome State Fault Refusal :=
  s.after t fun d =>
    if !d.running 0 then d
    else
      let e := epochOf (d.tsNow 0)
      let d := d.put Od.epochNow e
      d.inPair fun d =>
        let d := d.takeLanes
        let d := d.closeEpoch (e - 1) writers cutover
        let late := d.pair.handlers.filter fun h => h.returned && decide (h.epoch + 2 < e)
        let d := if late.isEmpty then d else d.logInput 0x0C [e, e - 2]
        if 2 ≤ e then (d.runHandlers (e - 2)).overruns e else d

/-- DIGEST_DEADLINE of the epoch that ended DigestDeadline ago or before. -/
def execDigestDeadline (t : Nat) (s : State) : Host.Outcome State Fault Refusal :=
  s.after t fun d => d.inPair fun d =>
    let beyond := d.tsNow 0 - (d.nat Od.digestDeadline * 1000 * 2 ^ 32 : Nat)
    if !d.running 0 ∨ beyond < epochStart 1 then d
    else
      let e := epochOf beyond - 1
      if d.md = Mode.follower then
        if d.pair.complete < e ∧ d.peerAlive then d.diverge 2 e
        else if d.pair.handlers.any fun h => !h.returned && decide (h.epoch ≤ e) then d.diverge 3 e
        else d
      else if d.nat Od.pairRole = 1 ∧ d.nat Od.pairState = 2 ∧ (Tab.find? d.pair.digests e).isSome ∧ d.peerAlive then
        -- no DIGEST of the epoch came: the standby has declared LOG_INCOMPLETE or APP_LAG (free, log entry 34)
        let (x, d) := d.fresh
        d.diverge (2 + x.toNat % 2) e
      else d

/-! ### Partner loss and exchange (R447, R463 to R467) -/

def execLeavingFrame (t time cause : Nat) (s : State) : Host.Outcome State Fault Refusal :=
  s.after t fun d => d.inPair fun d =>
    let d := d.linkHeard
    if d.nat Od.pairRole = 2 ∧ cause = 0 then d.modPair fun p => { p with leaving := some (tsTime time) } else d

/-- PARTNER_LOSS_CONFIRMED. A standby that takes over at the At of a LEAVING frame completes an exchange. -/
def execPartnerLossConfirmed (t : Nat) (s : State) : Host.Outcome State Fault Refusal :=
  s.after t fun d => d.inPair fun d =>
    if d.lossConfirmed then
      let planned := d.pair.leaving.isSome && d.md == Mode.follower && d.healthy && d.on Od.failoverPermit
      d.partnerLost.when planned fun d =>
        (d.put Od.roleExchangeResult 2).flag Od.pairSticky Bit.pairSticky_ExchangeDone
    else d

def execTakenFrame (t time : Nat) (s : State) : Host.Outcome State Fault Refusal :=
  s.after t fun d => d.inPair fun d =>
    let d := d.linkHeard
    if d.nat Od.pairRole = 1 ∧ 0 ≤ tsTime time then d.resetRow1 else d

def execExchangeFrame (t time : Nat) (s : State) : Host.Outcome State Fault Refusal :=
  s.after t fun d => d.inPair fun d =>
    let d := d.linkHeard
    if d.nat Od.pairRole = 2 then
      d.tell 0x43 [time, if d.healthy && d.on Od.failoverPermit then 1 else 0]
    else d

def execExchangeAckFrame (t time : Nat) (accept : Bool) (s : State) : Host.Outcome State Fault Refusal :=
  s.after t fun d => d.inPair fun d =>
    let d := d.linkHeard
    match d.pair.exchange with
    | some (at', false) =>
      if at' = tsTime time then
        if accept then (d.modPair fun p => { p with exchange := some (at', true) }).tell 0x40 [time, 0]
        else (d.put Od.roleExchangeResult 3).modPair fun p => { p with exchange := none }
      else d
    | _ => d

def execRoleExchangeWrite (t : Nat) (q : Req) (v : Int) (s : State) : Host.Outcome State Fault Refusal :=
  s.after t fun d => d.writeObj q Od.roleExchangeAt v

def execPairEnableWrite (t : Nat) (q : Req) (v : Int) (s : State) : Host.Outcome State Fault Refusal :=
  s.after t fun d => d.writeObj q Od.pairEnable v

/-- PCD_BURNISH, every 900 s (R460). -/
def execPcdBurnish (t : Nat) (s : State) : Host.Outcome State Fault Refusal :=
  s.after t fun d => d.inPair fun d =>
    if 900 * ticksPerSec ≤ d.since d.pair.pcdAt then
      let d := d.modPair fun p => { p with pcdAt := d.tick }
      d.put Od.pcdSysTerm d.pcdTerm
    else d

/-! ### Resynchronisation (R469) -/

/-- An item of a COPY frame put in its place; what is the engine's own is not copied (R454). -/
def Dev.copyItem (s : Dev) : CopyItem → Dev
  | .obj k v => if Od.isLocal k then s else s.put k v
  | .staged set level =>
    let a := { s.acc with staged := set, stageOwner := if set.isEmpty then none else some .log, stageLevel := level }
    { s with acc := a }
  | .scale n val inc integ =>
    if 8 ≤ n then s
    else
      let s := if n = 0 then s else if s.running n then s.setTs n val else s.startTs n val inc
      (s.modScale n fun c => { c with integ }).takeInc n inc
  | .ref m r => if m < 16 then s.modRr m fun _ => r else s
  | .selection x => { s with sel := { x with refs := s.sel.refs } }
  | .bound n b => s.modEbr n fun _ => b
  | .growth base temp tau dti degraded uy ua ut => s.modKeep fun k => { k with base, temp, tau, dti, degraded, uy, ua, ut }
  | .sched e x => (s.modSched e fun _ => x).showEntries
  | .queue p q => (s.modPort p fun r => { r with tsq := q }).showTsq p
  | .gates p oper next ext => s.modPort p fun r => { r with oper, next, ext }
  | .slot p n cls insert frame => s.writeSlot p n cls insert frame
  | .client n c => s.setClient n (some c)

/-- COPY_FRAME: LinkSeq, whether the CRC is good, the items, and whether they are the last. -/
def execCopyFrame (t seq : Nat) (crcOk : Bool) (items : List CopyItem) (done : Bool) (s : State) :
    Host.Outcome State Fault Refusal :=
  s.after t fun d => d.inPair fun d =>
    let (ok, d) := d.takeSeq seq crcOk
    if ok ∧ d.md = Mode.resync ∧ d.pair.running ∧ (d.nat Od.resyncStep = 1 ∨ d.nat Od.resyncStep = 2) then
      let d := d.each items (·.copyItem ·)
      if done ∧ d.nat Od.resyncStep = 1 then d.resyncStepDone 2 else d
    else d

/-- CUTOVER_FRAME: the digest of the epoch is seeded, and the log is executed from the next one on. -/
def execCutoverFrame (t epoch seed : Nat) (s : State) : Host.Outcome State Fault Refusal :=
  s.after t fun d => d.inPair fun d =>
    let d := d.linkHeard
    if d.md = Mode.resync ∧ d.pair.running ∧ d.nat Od.resyncStep = 2 then
      (d.modPair fun p => { p with seed := some (epoch, seed), last := seed, complete := epoch, received := 0 }).resyncStepDone 3
    else d

def execResyncStepTimeout (t : Nat) (s : State) : Host.Outcome State Fault Refusal :=
  s.after t fun d =>
    if d.md = Mode.resync ∧ d.pair.running ∧ d.resyncLimit < d.since d.pair.stepAt then d.resyncFailed else d

/-- RESYNC_RETRY, 10 s after a failed run or a loss of the partner. -/
def execResyncRetry (t : Nat) (s : State) : Host.Outcome State Fault Refusal :=
  s.after t fun d =>
    match d.pair.failedAt with
    | some k =>
      if d.md = Mode.resync ∧ !d.pair.running ∧ 10 * ticksPerSec ≤ d.since k ∧ d.journalFree then d.startResync else d
    | none => d

/-! ### M3 (R309, R458, R459) -/

/-- The epoch of an event record: that of its tick on TS_0. -/
def Dev.eventEpoch (s : Dev) (r : CoreRec) : Nat :=
  let c := s.convert 0 (s.cntZero.getD 0 + r.tick) 0
  epochOf (if c.2 then c.1 else s.tsNow 0)

/-- M3_EVENT_DELIVERY: the oldest record, whose handler starts. In a pair it waits for the handlers of earlier epochs. -/
def execM3EventDelivery (t : Nat) (s : State) : Host.Outcome State Fault Refusal :=
  s.after t fun d =>
    match d.tugs.events with
    | [] => d
    | r :: _ =>
      let e := d.eventEpoch r
      if d.nat (Od.coreState 3) ≠ 1 ∨ d.stays 9 ∨ (d.paired && d.pair.handlers.any fun h => !h.returned && decide (h.epoch < e)) then d
      else d.deliverEvent.2.modPair fun p => { p with handlers := p.handlers ++ [{ epoch := e, entry := r.tick }] }

/-- The oldest running handler of a list returns with its actions. -/
def returnFirst (acts : List (Nat × Int)) : List Handler → Option Handler × List Handler
  | [] => (none, [])
  | h :: l =>
    if h.returned then
      let (r, l) := returnFirst acts l
      (r, h :: l)
    else
      let h := { h with returned := true, acts }
      (some h, h :: l)

/-- A handler returns: on an engine of no pair its actions take effect at once, on a standby past its boundary too. -/
def Dev.handlerReturns (s : Dev) (acts : List (Nat × Int)) : Dev :=
  let (h, l) := returnFirst acts s.pair.handlers
  match h with
  | none => s
  | some h =>
    let lag := s.paired && s.nat Od.pairRole == 2 && decide (h.epoch + 2 ≤ epochOf (s.tsNow 0))
    let s := s.modPair fun p => { p with handlers := l }
    if lag then ((s.bump Od.appLag).report 204 1).runHandlers h.epoch
    else if !s.paired then s.runHandlers h.epoch
    else s

def execM3HandlerReturn (t : Nat) (acts : List (Nat × Int)) (s : State) : Host.Outcome State Fault Refusal :=
  s.after t fun d => d.handlerReturns acts

end Sys2Proof.Machine
end

