-- ==== Sys2Proof/Machine/PowerCmds.lean ====
section
/-! DEFINITION. Power states as commands: POWER_REQUEST_RUN to ECC_ERROR, and POWER_GATING_DONE (chapter 16). -/

namespace Sys2Proof.Machine

/-! ### Requests (R498 to R502); `delays` holds the Delay answers, as (block, ms), of blocks that answer for themselves -/

/-- A write of PowerRequest with the code of a state. -/
def Dev.askPower (s : Dev) (q : Req) (r : Nat) (delays : List (Nat × Nat)) : Dev :=
  s.writeWith q Od.powerRequest r fun _ s => s.powerRequest r delays

def execPowerRequestRun (t : Nat) (q : Req) (s : State) : Host.Outcome State Fault Refusal :=
  s.after t fun d => d.askPower q 0 []

def execPowerRequestTrim (t : Nat) (q : Req) (s : State) : Host.Outcome State Fault Refusal :=
  s.after t fun d => d.askPower q 1 []

def execPowerRequestQuiet (t : Nat) (q : Req) (delays : List (Nat × Nat)) (s : State) : Host.Outcome State Fault Refusal :=
  s.after t fun d => d.askPower q 2 delays

def execPowerRequestKeep (t : Nat) (q : Req) (delays : List (Nat × Nat)) (s : State) : Host.Outcome State Fault Refusal :=
  s.after t fun d => d.askPower q 3 delays

def execPowerRequestOff (t : Nat) (q : Req) (delays : List (Nat × Nat)) (s : State) : Host.Outcome State Fault Refusal :=
  s.after t fun d => d.askPower q 4 delays

/-- POWER_DELAY_ELAPSED: what the blocks that delayed answer now. -/
def execPowerDelayElapsed (t : Nat) (answers : List (Nat × Nat)) (s : State) : Host.Outcome State Fault Refusal :=
  s.after t fun d => d.powerAskAgain answers

/-! ### Entries (R503 to R505) -/

def execQuietEntryComplete (t : Nat) (s : State) : Host.Outcome State Fault Refusal := s.after t fun d => d.quietEntered

/-- KEEP_ENTRY_COMPLETE: M0 stores the model (R187) and the counters stop (R494) before the islands are gated. -/
def execKeepEntryComplete (t : Nat) (s : State) : Host.Outcome State Fault Refusal :=
  s.after t fun d =>
    if d.power.change = .entering 3 then
      let d := d.pmcLatchAll
      let d := if d.nat Od.modelState ≠ 0 ∧ d.nat (Od.coreState 0) = 1 then d.storeModel else d
      d.keepEntered
    else d

def execPowerGatingDone (t : Nat) (s : State) : Host.Outcome State Fault Refusal := s.after t fun d => d.gatingDone

/-! ### Wakes (R506 to R511) -/

/-- WAKE_TIMER: TS_0 has reached WakeAt in KEEP. -/
def execWakeTimer (t : Nat) (s : State) : Host.Outcome State Fault Refusal :=
  s.after t fun d =>
    if d.nat Od.powerState = 3 ∧ d.nat Od.wakeAt ≠ 0 ∧ d.bit Od.wakeSources 1 ∧ d.running 0 ∧
        tsTime (d.nat Od.wakeAt) ≤ d.tsNow 0 then d.wakeBy 3 else d

/-- WAKE_COMPLETE: the banks whose retention check fails, and the configuration image of the booted slot. -/
def execWakeComplete (t failed : Nat) (image : List Ent) (s : State) : Host.Outcome State Fault Refusal :=
  s.after t fun d => (d.wakeDone failed fun d b28 => d.rebuildBank b28 image).runDue

def execWakeFailed (t : Nat) (s : State) : Host.Outcome State Fault Refusal := s.after t fun d => d.wakeFailed

/-! ### Memory (R514) -/

/-- DRAM_SCRUB, once per DramScrubInterval: what it finds, as (corrected, channel). -/
def execDramScrub (t : Nat) (found : List (Bool × Nat)) (s : State) : Host.Outcome State Fault Refusal :=
  s.after t fun d =>
    if d.nat Od.dramScrubInterval * 3600 * ticksPerSec ≤ d.since d.power.dramScrubAt then
      (d.each found fun d e => d.eccError true e.1 e.2).modPower fun p => { p with dramScrubAt := d.tick }
    else d

/-- SRAM_SCRUB, once per hour: what it finds, as (corrected, bank). -/
def execSramScrub (t : Nat) (found : List (Bool × Nat)) (s : State) : Host.Outcome State Fault Refusal :=
  s.after t fun d =>
    if 3600 * ticksPerSec ≤ d.since d.power.sramScrubAt then
      (d.each found fun d e => d.eccError false e.1 e.2).modPower fun p => { p with sramScrubAt := d.tick }
    else d

/-- ECC_ERROR in DRAM or SRAM, corrected or not, of a channel or bank. -/
def execEccError (t : Nat) (dram corrected : Bool) (unit : Nat) (s : State) : Host.Outcome State Fault Refusal :=
  s.after t fun d => d.eccError dram corrected unit

end Sys2Proof.Machine
end

