-- ==== Sys2Proof/Machine/RefCmds.lean ====
section
/-! DEFINITION. References, the oscillator and the Keeper as commands: REF_ENABLE_WRITE to MODEL_RESET (chapters 4 and 5). -/

namespace Sys2Proof.Machine

/-! ### References (R136 to R171) -/

def execRefEnableWrite (t : Nat) (q : Req) (n : Nat) (v : Int) (s : State) : Host.Outcome State Fault Refusal :=
  s.afterUnit t 16 n fun d => d.writeObj q (Od.refEnable n) v

/-- The Cinch's look at one enabled reference. -/
def Dev.lookAt (s : Dev) (n : Nat) (f : Dev → Dev) : Dev := if s.on (Od.refEnable n) then f s else s

def execSignalLoss (t n : Nat) (s : State) : Host.Outcome State Fault Refusal :=
  s.afterUnit t 16 n fun d => d.lookAt n fun d => if d.lossDue n then d.setLoss n true else d

/-- HOLDOFF_ELAPSED: row 14 of Table 4-6, where the Cinch runs. -/
def execHoldoffElapsed (t n : Nat) (s : State) : Host.Outcome State Fault Refusal :=
  s.afterUnit t 16 n fun d => d.lookAt n fun d => if d.cinchOn then (d.refRows n).showEligible n else d

/-- QUALIFY_TIME_ELAPSED: row 3 or 4. -/
def execQualifyTimeElapsed (t n : Nat) (s : State) : Host.Outcome State Fault Refusal :=
  s.afterUnit t 16 n fun d => d.lookAt n fun d => if d.cinchOn then (d.refRows n).showEligible n else d

/-- SUSPECT_CLEAR_TIME_ELAPSED: the half conditions of a reference are judged anew (R149). -/
def execSuspectClearTimeElapsed (t n : Nat) (s : State) : Host.Outcome State Fault Refusal :=
  s.afterUnit t 16 n fun d => d.lookAt n fun d => (d.monitor n).showEligible n

def execDisagreeIntervalEnd (t : Nat) (s : State) : Host.Outcome State Fault Refusal :=
  s.after t fun d => if d.cinchOn ∧ d.intervalOver then d.disagreeEnd else d

/-- TOD_MESSAGE on TODIN_n; a standby takes the one in the log (R452). -/
def execTodMessage (t n : Nat) (bytes : List Byte) (s : State) : Host.Outcome State Fault Refusal :=
  s.afterUnit t 8 n fun d =>
    if d.fromLog then d else (d.todMessage n bytes).logInput 3 (n :: d.tick :: bytes.map (·.toNat))

def execEsmcPdu (t n ssm essm : Nat) (s : State) : Host.Outcome State Fault Refusal :=
  s.afterUnit t 16 n fun d => if d.fromLog then d else (d.esmcPdu n ssm essm).logInput 1 [n, ssm, essm]

def execEsmcTimeout (t n : Nat) (s : State) : Host.Outcome State Fault Refusal :=
  s.afterUnit t 16 n fun d => d.esmcTimeout n

def execAlignEnableWrite (t : Nat) (q : Req) (g : Nat) (v : Int) (s : State) : Host.Outcome State Fault Refusal :=
  s.afterUnit t 8 g fun d => d.writeObj q (Od.alignEnable g) v

/-! ### Oscillator and Keeper (R174 to R190) -/

def execOvenrdyChange (t : Nat) (level : Bool) (s : State) : Host.Outcome State Fault Refusal :=
  s.after t fun d => d.ovenrdy level

def execAtomlockChange (t : Nat) (level : Bool) (s : State) : Host.Outcome State Fault Refusal :=
  s.after t fun d => d.atomlock level

/-- LO_FAIL: detail 0 for the frequency, by the offset measured (0.001 ppt) where it is beyond 1,000 ppm; 1 no edge, 2 TSYN
lock. -/
def execLoFail (t detail : Nat) (lo : Int) (s : State) : Host.Outcome State Fault Refusal :=
  s.after t fun d => if detail = 0 then d.loMeasured lo else d.loFailed detail

/-- OVEN_SETTLE_END: learning is held off by an instant (R180), which has come; the oven's state is shown. -/
def execOvenSettleEnd (t : Nat) (s : State) : Host.Outcome State Fault Refusal := s.after t fun d => d.ovenStep

def execTempStale (t : Nat) (s : State) : Host.Outcome State Fault Refusal := s.after t fun d => d.takeTemp

/-- Whether M0, which learns and stores, runs. -/
def Dev.m0Runs (s : Dev) : Bool := s.nat (Od.coreState 0) == 1

/-- LEARN_INTERVAL: the present interval has lasted LearnInterval on TS_0. -/
def execLearnInterval (t : Nat) (s : State) : Host.Outcome State Fault Refusal :=
  s.after t fun d =>
    if d.m0Runs ∧ d.running 0 ∧ d.keep.start + d.num Od.learnInterval * second ≤ d.tsNow 0 then d.learn else d

def execModelStore (t : Nat) (s : State) : Host.Outcome State Fault Refusal :=
  s.after t fun d => if d.m0Runs then d.storeTrained else d

def execModelReset (t : Nat) (q : Req) (v : Int) (s : State) : Host.Outcome State Fault Refusal :=
  s.after t fun d => d.writeObj q Od.modelReset v

end Sys2Proof.Machine
end

