-- ==== Sys2Proof/Machine/Startup.lean ====
section
/-! DEFINITION. Resets, start-up and mode requests: BACKUP_POR to MODE_REQUEST_LEAVE_SAFE, RESET_RELEASE and the supplies
(chapters 1, 17 and 18). -/

namespace Sys2Proof.Machine

/-! ### Resets (R524, R544, R545) -/


/-- The power state lets RESET_N reach the engine (R545). -/
def Dev.takesResetN (s : Dev) : Bool := decide (s.nat Od.powerState ≤ 2) && s.mode.held != some 1

/-- PORST_N or RESET_N rises, or a brownout hold ends with the rails in range for 2 ms: POWERUP begins. -/
def Dev.release (s : Dev) : Dev :=
  match s.mode.held with
  | none => s
  | some h =>
    let railsOk := match s.power.railsOkAt with
      | some k => s.power.railsOut.isEmpty && decide (2 * ticksPerMs ≤ s.since k)
      | none => false
    if h = 3 ∧ !railsOk then s
    else
      let s := s.modMode fun m => { m with held := none, since := s.tick, bootFrom := s.tick }
      let s := if h = 2 then s else s.modKeep fun k => { k with ovenFrom := some s.tick }
      s.sealedAtRelease

def execBackupPor (t : Nat) (s : State) : Host.Outcome State Fault Refusal := s.after t fun d => d.resetCold

def execPorst (t : Nat) (s : State) : Host.Outcome State Fault Refusal := s.after t fun d => d.resetWarm 1 (some 1)

def execResetN (t : Nat) (s : State) : Host.Outcome State Fault Refusal :=
  s.after t fun d => if d.takesResetN then d.resetWarm 2 (some 2) else d

def execEngineReset (t : Nat) (q : Req) (v : Int) (s : State) : Host.Outcome State Fault Refusal :=
  s.after t fun d => d.writeObj q Od.engineReset v

def execBrownout (t rail : Nat) (s : State) : Host.Outcome State Fault Refusal :=
  s.afterUnit t mainRails rail fun d => d.brownout rail

def execSupplyOutOfRange (t rail : Nat) (s : State) : Host.Outcome State Fault Refusal :=
  s.afterUnit t mainRails rail fun d => d.supplyOut rail

def execSupplyInRange (t rail : Nat) (s : State) : Host.Outcome State Fault Refusal :=
  s.afterUnit t mainRails rail fun d => d.supplyBack rail

def execResetRelease (t : Nat) (s : State) : Host.Outcome State Fault Refusal := s.after t fun d => d.release

/-! ### POWERUP (R525, R530, rows 2 to 4 of Table 1-6) -/

/-- The boot ROM still has to choose a slot. -/
def Dev.booting (s : Dev) : Bool := s.md == Mode.powerup && s.mode.held.isNone && !s.mode.loader

/-- The images of a slot run: versions and cores (Table 17-2, R488). -/
def Dev.bootSlotRuns (s : Dev) (slot : Nat) (f : SlotF) : Dev :=
  let s := s.put Od.bootSlot slot
  let s := s.each (f.boxes.filter fun b => decide (b.kind ≤ 3)) fun s b => s.put (Od.firmwareVersionM0 + b.kind) b.version
  let s := s.each (f.boxes.filter fun b => decide (b.kind = 4)) fun s b => s.modUpdate fun u => { u with micro := b.version }
  s.each [0, 1, 2, 3] (·.coreRuns ·)

/-- What CONFIGURE begins with: the key-store mirror is opened (R418), the records of what a reset completes are completed, the
journal is normalised (R84). -/
def Dev.beginConfigure (s : Dev) (mirrorOk : Bool) : Dev :=
  let s := if mirrorOk then s else
    ((s.each (0 :: s.keys.slots.map (·.1)) (·.emptySlot ·)).flag Od.keySticky Bit.keySticky_MirrorLost).report 193 0
  s.completeResets.lifeDone.normaliseJournal

/-- Verification of the slots ends. A SCRAPPED chip halts (Table 1-8). -/
def Dev.verifyBoot (s : Dev) (a b : SlotF) (mirrorOk : Bool) : Dev :=
  if !s.booting then s
  else
    let s := s.sealedAtRelease.lifeBoot
    if s.nat Od.lifeCycleState = 4 then s
    else
      let va := s.slotValid a
      let vb := s.slotValid b
      let s := ((s.putB Od.slotAValid va).putB Od.slotBValid vb).put Od.slotASeq a.seq
      let s := s.put Od.slotBSeq b.seq
      if va then ((s.bootSlotRuns 0 a).enterMode Mode.configure 1 []).beginConfigure mirrorOk
      else if vb then
        ((s.bootSlotRuns 1 b).enterMode Mode.configure 1 [Bit.modeSticky_BootSlotFallback]).beginConfigure mirrorOk
      else ((s.enterMode Mode.powerup 1 []).modMode fun m => { m with loader := true }).emit .bootNoImage

def execBootImageVerified (t : Nat) (a b : SlotF) (mirrorOk : Bool) (s : State) : Host.Outcome State Fault Refusal :=
  s.after t fun d => d.verifyBoot a b mirrorOk

/-! ### CONFIGURE and CALIBRATE -/

/-- The restore ends: rows 5 and 6. A slot without an image restores nothing (R526). -/
def Dev.restored (s : Dev) (image : Option (List Ent)) : Dev :=
  if s.md ≠ Mode.configure ∨ s.mode.restoreFailed then s
  else
    let (ok, s) := match image with
      | some l => s.restoreImage l
      | none => (true, s)
    let s := s.modAcc fun a => { a with appLevel := s.nat Od.appOdLevel }
    if ok then s.enterMode Mode.calibrate 2 []
    else (s.enterMode Mode.configure 2 [Bit.modeSticky_ConfigDefaults]).modMode fun m => { m with restoreFailed := true }

def execDictionaryRestored (t : Nat) (image : Option (List Ent)) (s : State) : Host.Outcome State Fault Refusal :=
  s.after t fun d => d.restored image

/-- Whether a channel, AWL_S or a lane is out of service (row 10). -/
def Dev.calibrationPartial (s : Dev) : Bool :=
  s.nat Od.spareState == 3 || (List.range 40).any (fun n => s.nat (Od.awlState n) == 3) ||
    (List.range 22).any (fun l => s.nat (Od.laneState l) == 6)

/-- CALIBRATE is done: devices whose lines are not locked, the histograms of channels, AWL_S (40) and the GNSS capture detectors
(96, 97), and the skew measured for each input. -/
def Dev.calibrated (s : Dev) (unlocked : List Nat) (tables : List (Nat × List Nat)) (skews : List (Nat × Int)) : Dev :=
  if s.md ≠ Mode.calibrate then s
  else
    let s := s.calibrateAwl unlocked tables skews
    let s := s.each [96, 97] fun s d => match Tab.find? tables d with
      | some h => if histogramOk h (sumN h) then s.loadTable d h 0 else s
      | none => s
    let s := (s.modGnss fun g => { g with gcdAt := s.tick }).modPair fun p => { p with pcdAt := s.tick }
    let bits := if s.calibrationPartial then [Bit.modeSticky_CalibrationPartial] else []
    let s := s.modMode fun m => { m with ready := false }
    -- a RETURNED chip goes to TEST (R38)
    (s.enterMode (if s.nat Od.lifeCycleState = 3 then Mode.test else Mode.warmup) 3 bits).awlReady

def execCalibrationDone (t : Nat) (unlocked : List Nat) (tables : List (Nat × List Nat)) (skews : List (Nat × Int)) (s : State) :
    Host.Outcome State Fault Refusal :=
  s.after t fun d => d.calibrated unlocked tables skews

def execOscillatorReady (t amplitude : Nat) (tsyn : Bool) (s : State) : Host.Outcome State Fault Refusal :=
  s.after t fun d => d.loReady amplitude tsyn

/-! ### Timeouts, deferred events and requests (rows 13 and 15, R29, R35, R36) -/

/-- The present mode has lasted a number of seconds. -/
def Dev.modeLasted (s : Dev) (sec : Nat) : Bool := decide (sec * ticksPerSec ≤ s.since s.mode.since)

def execWarmupTimeout (t : Nat) (s : State) : Host.Outcome State Fault Refusal :=
  s.after t fun d => if d.md = Mode.warmup ∧ d.modeLasted (d.nat Od.warmupTimeout) then d.post .warmupTimeout else d

def execAcquireTimeout (t : Nat) (s : State) : Host.Outcome State Fault Refusal :=
  s.after t fun d => if d.md = Mode.acquire ∧ d.modeLasted (d.nat Od.acquireTimeout) then d.post .acquireTimeout else d

def execPendingModeEvent (t : Nat) (s : State) : Host.Outcome State Fault Refusal := s.after t fun d => d.servePending

def execModeRequestProceed (t : Nat) (q : Req) (s : State) : Host.Outcome State Fault Refusal :=
  s.after t fun d => d.writeObj q Od.modeRequest 1

def execModeRequestEnterTest (t : Nat) (q : Req) (s : State) : Host.Outcome State Fault Refusal :=
  s.after t fun d => d.writeObj q Od.modeRequest 2

def execModeRequestLeaveTest (t : Nat) (q : Req) (s : State) : Host.Outcome State Fault Refusal :=
  s.after t fun d => d.writeObj q Od.modeRequest 3

def execModeRequestLeaveSafe (t : Nat) (q : Req) (s : State) : Host.Outcome State Fault Refusal :=
  s.after t fun d => d.writeObj q Od.modeRequest 4

end Sys2Proof.Machine
end

