-- ==== Sys2Proof/Machine/SvcCmds.lean ====
section
/-! DEFINITION. Authenticated time service as commands: PIPE_DRAIN_WRITE to CLIENT_SCAN, and TRACKER_GRANT_RECEIVED
(chapter 12). -/

namespace Sys2Proof.Machine

/-- A frame received on the engine's own ports: a standby takes its inputs from the log instead (R376, R452). -/
def Dev.fromWire (s : Dev) (f : Dev → Dev) : Dev := if s.fromLog then s else f s

/-! ### Pipelines (R381) -/

def execPipeDrainWrite (t : Nat) (q : Req) (i : Nat) (v : Int) (s : State) : Host.Outcome State Fault Refusal :=
  s.afterUnit t 4 i fun d => d.writeObj q (Od.pipeDrain i) v

def execPipeDrained (t i : Nat) (s : State) : Host.Outcome State Fault Refusal := s.afterUnit t 4 i fun d => d.pipeEmpty i

/-! ### Instances (R386 to R393) -/

/-- PTP_MULTICAST_SYNC of an instance, once per interval. -/
def execPtpMulticastSync (t i : Nat) (s : State) : Host.Outcome State Fault Refusal := s.afterUnit t 32 i fun d => d.mcSync i

def execPtpMulticastAnnounce (t i : Nat) (s : State) : Host.Outcome State Fault Refusal :=
  s.afterUnit t 32 i fun d => d.mcAnnounce i

def execPdelayReqSend (t i : Nat) (s : State) : Host.Outcome State Fault Refusal := s.afterUnit t 32 i fun d => d.sendPdelay i

/-- UNICAST_GRANT_TRANSMISSION: Announce (0) or Sync (1) to the client of a record. -/
def execUnicastGrantTransmission (t rec typ : Nat) (s : State) : Host.Outcome State Fault Refusal :=
  s.after t fun d => d.grantSend rec typ

def execDelayReq (t : Nat) (f : SvcF) (p : PtpF) (s : State) : Host.Outcome State Fault Refusal :=
  s.afterUnit t 16 f.port fun d => d.fromWire fun d => d.delayReq f p

def execPdelayReq (t : Nat) (f : SvcF) (p : PtpF) (s : State) : Host.Outcome State Fault Refusal :=
  s.afterUnit t 16 f.port fun d => d.fromWire fun d => d.pdelayAnswer f p

/-- PDELAY_RESP to the latest Pdelay_Req, with the responder's time in 2^-32 ns. -/
def execPdelayResp (t : Nat) (f : SvcF) (p : PtpF) (residence : Int) (s : State) : Host.Outcome State Fault Refusal :=
  s.afterUnit t 16 f.port fun d => d.fromWire fun d => d.pdelayResp f p residence

/-- REQUEST_UNICAST_TRANSMISSION: a Signaling message with its request TLVs. -/
def execRequestUnicastTransmission (t : Nat) (f : SvcF) (p : PtpF) (rs : List UniReq) (s : State) :
    Host.Outcome State Fault Refusal :=
  s.afterUnit t 16 f.port fun d => d.fromWire fun d => d.signalRequest f p rs

def execCancelUnicastTransmission (t : Nat) (f : SvcF) (p : PtpF) (typ : Nat) (s : State) : Host.Outcome State Fault Refusal :=
  s.afterUnit t 16 f.port fun d => d.fromWire fun d => d.signalCancel f p typ

def execForeignAnnounce (t port domain : Nat) (s : State) : Host.Outcome State Fault Refusal :=
  s.afterUnit t 16 port fun d => d.fromWire fun d => d.foreignAnnounce port domain

/-- GRANT_EXPIRY of the Announce (0), Sync (1) or Delay_Resp (2) grant of a record. -/
def execGrantExpiry (t rec typ : Nat) (s : State) : Host.Outcome State Fault Refusal := s.after t fun d => d.grantExpiry rec typ

def execInstEnableWrite (t : Nat) (q : Req) (i : Nat) (v : Int) (s : State) : Host.Outcome State Fault Refusal :=
  s.afterUnit t 32 i fun d => d.writeObj q (Od.instEnable i) v

/-! ### Trackers of REF_(10 + r) (R141, R167, R168, R397) -/

def execPtpAnnounceReceived (t r : Nat) (f : TrkF) (a : AnnF) (s : State) : Host.Outcome State Fault Refusal :=
  s.afterUnit t 4 r fun d => d.fromWire fun d => d.trkAnnounce r f a

def execPtpSyncReceived (t r : Nat) (f : TrkF) (seq : Nat) (twoStep : Bool) (origin corr : Int) (tlv : Option TlvF) (s : State) :
    Host.Outcome State Fault Refusal :=
  s.afterUnit t 4 r fun d => d.fromWire fun d => d.trkSync r f seq twoStep origin corr tlv

def execFollowUpReceived (t r : Nat) (f : TrkF) (seq : Nat) (origin corr : Int) (tlv : Option TlvF) (s : State) :
    Host.Outcome State Fault Refusal :=
  s.afterUnit t 4 r fun d => d.fromWire fun d => d.trkFollowUp r f seq origin corr tlv

def execDelayRespReceived (t r : Nat) (f : TrkF) (seq : Nat) (t4 corr : Int) (s : State) : Host.Outcome State Fault Refusal :=
  s.afterUnit t 4 r fun d => d.fromWire fun d => d.trkDelayResp r f seq t4 corr

def execTrkDelayReq (t r : Nat) (s : State) : Host.Outcome State Fault Refusal := s.afterUnit t 4 r fun d => d.trkDelayReq r

def execTrkGrantRenew (t r : Nat) (s : State) : Host.Outcome State Fault Refusal := s.afterUnit t 4 r fun d => d.trkRenew r

def execTrackerGrantReceived (t r : Nat) (f : TrkF) (typ duration : Nat) (s : State) : Host.Outcome State Fault Refusal :=
  s.afterUnit t 4 r fun d => d.fromWire fun d => d.trkGranted r f typ duration

/-! ### Security parameters (R395) -/

def execSppKeySwitch (t e : Nat) (s : State) : Host.Outcome State Fault Refusal := s.afterUnit t 16 e fun d => d.sppSwitch e

/-! ### NTP, NTS and NTS-KE (R398 to R402) -/

def execNtpRequest (t : Nat) (f : SvcF) (n : NtpF) (s : State) : Host.Outcome State Fault Refusal :=
  s.afterUnit t 16 f.port fun d => d.fromWire fun d => d.ntpRequest f n

def execNtsRequest (t : Nat) (f : SvcF) (n : NtpF) (x : NtsF) (s : State) : Host.Outcome State Fault Refusal :=
  s.afterUnit t 16 f.port fun d => d.fromWire fun d => d.ntsRequest f n x

/-- NTS_KE_CONNECTION: the connections open as it arrives, and whether TLS and the exchange succeed. -/
def execNtsKeConnection (t : Nat) (f : SvcF) (openNow : Nat) (ok : Bool) (s : State) : Host.Outcome State Fault Refusal :=
  s.afterUnit t 16 f.port fun d => d.fromWire fun d => d.ntsKe f openNow ok

def execCookiePeriodChange (t : Nat) (s : State) : Host.Outcome State Fault Refusal := s.after t fun d => d.cookiePeriodBegins

/-! ### Client records (R404 to R409) -/

/-- CACHE_MISS_FILL of a bucket: whether the record's check value matches. -/
def execCacheMissFill (t bucket : Nat) (checkOk : Bool) (s : State) : Host.Outcome State Fault Refusal :=
  s.after t fun d => d.missFill bucket checkOk

def execAdmissionReview (t : Nat) (s : State) : Host.Outcome State Fault Refusal := s.after t fun d => d.admissionReview

def execClientScan (t : Nat) (s : State) : Host.Outcome State Fault Refusal := s.after t fun d => d.clientScan

end Sys2Proof.Machine
end

