-- ==== Sys2Proof/Machine/TimeCmds.lean ====
section
/-! DEFINITION. The servo update and the commands on time scales: SERVO_UPDATE to LEAP_APPLIED (chapter 3). -/

namespace Sys2Proof.Machine

/-! ### The servo update (R109, R156, R193, R238) -/

/-- The Rein's update, with whether the update of TS_0 was neither slope limited nor missed (R185). -/
def Dev.reinNoted (s : Dev) : Bool × Dev :=
  let had := s.bit (Od.servoSticky 0) Bit.servoSticky_SlopeLimited
  let missed := s.nat (Od.updatesMissed 0)
  let s := (s.unflag (Od.servoSticky 0) Bit.servoSticky_SlopeLimited).reinStep
  let hit := s.bit (Od.servoSticky 0) Bit.servoSticky_SlopeLimited
  let s := s.when had (·.flag (Od.servoSticky 0) Bit.servoSticky_SlopeLimited)
  (!hit && s.nat (Od.updatesMissed 0) == missed, s)

/-- B_rest of R194: Bound_0 without H. -/
def Dev.restBound (s : Dev) : Nat :=
  match s.terms0 with
  | some t => { t with h := 0 }.total (s.nat Od.coverageFactor)
  | none => sat64

/-- HOLDOVER at an update, after the bounds: the timer, and the crossing of HoldoverLimit, which is EXCEEDED from this update on
(R194 to R196). The event of row 21 is that of the engine's own HOLDOVER. -/
def Dev.holdStep (s : Dev) : Dev :=
  if s.holding = 0 then s
  else
    let crossed := decide (s.nat Od.holdoverLimit ≤ s.nat (Od.bound 0))
    if s.nat Od.holdoverState = 0 then s.when crossed (·.modKeep fun k => { k with hold := 2 })
    else
      let s := s.holdTimer s.restBound
      if s.nat Od.holdoverState = 1 ∧ crossed then
        (s.put Od.holdoverState 2).when (s.md == Mode.holdover) (·.post .boundCrossed)
      else s

/-- The lock declared event of rows 14, 16 and 20 while its condition holds. -/
def Dev.lockStep (s : Dev) : Dev :=
  if s.inMode [Mode.acquire, Mode.freerun, Mode.holdover] && s.lockHolds then s.post (.lockDeclared s.lockWithheld)
  else s

/-- What the active of a pair logs once per update: INC of each scale and its Local quantities (Table 14-5). -/
def Dev.logUpdate (s : Dev) : Dev :=
  let s := s.each ((List.range 8).filter s.running) fun s n => s.logInput 7 [n, s.inc n, s.cnt]
  let refs := (List.range 16).filter fun m => s.on (Od.refEnable m)
  s.logInput 8 ([twos 64 (s.num Od.keeperPrediction), s.nat Od.modelFreqUnc, s.nat Od.modelAgeingUnc, s.nat Od.modelTempUnc,
    s.nat Od.loState, twos 32 (s.num Od.tempInUse)] ++ (refs.map fun m => [m, s.deviceTerm m]).flatten)

/-- One update: die temperature in 0.001 °C and the local oscillator's offset against the AON crystal in 0.001 ppt. -/
def Dev.servoUpdate (s : Dev) (temp lo : Int) : Dev :=
  if !s.running 0 then s
  else
    let s := (s.put Od.tempOnChip temp).loMeasured lo
    let s := if s.nat Od.powerState ≤ 2 then s.ageStep temp else s
    let s := (s.modKeep fun k => { k with updates := k.updates + 1 }).pmcCount 0x0500 1
    let s := (s.runDue.takeTemp.pinsAfter id).writeRefit.cinchStep.runDue
    let (clean, s) := s.reinNoted
    let s := if s.aligning then s.alignStep else s
    let s := s.keeperStep clean
    let s := if s.holding = 0 then s else s.holdGrowth
    let s := (s.ebeStep.holdStep.each (List.range 8) (·.showFlags ·)).serveUpdate.finishAudit.lockStep
    let s := s.modFlt fun f => { f with lastUpdate := s.tick }
    let s := s.modGnss fun g => { g with drift := g.drift + (s.num Od.keeperPrediction - s.num (Od.freqNow 0)) }
    s.todCheck.osynPull.logUpdate

def execServoUpdate (t : Nat) (temp lo : Int) (s : State) : Host.Outcome State Fault Refusal :=
  s.after t fun d => d.servoUpdate temp lo

/-! ### Steering by software (R97 to R104) -/

def execIncOwnerTake (t : Nat) (q : Req) (n : Nat) (s : State) : Host.Outcome State Fault Refusal :=
  s.afterUnit t 8 n fun d => d.writeObj q (Od.incOwnerRequest n) 1

def execIncOwnerRelease (t : Nat) (q : Req) (n : Nat) (s : State) : Host.Outcome State Fault Refusal :=
  s.afterUnit t 8 n fun d => d.writeObj q (Od.incOwnerRequest n) 0

def execFreqSteerWrite (t : Nat) (q : Req) (n : Nat) (v : Int) (s : State) : Host.Outcome State Fault Refusal :=
  s.afterUnit t 8 n fun d => d.writeObj q (Od.freqSteer n) v

def execIncWrite (t : Nat) (q : Req) (n : Nat) (v : Int) (s : State) : Host.Outcome State Fault Refusal :=
  s.afterUnit t 8 n fun d => d.writeObj q (Od.incWrite n) v

def execPhaseAdjustWrite (t : Nat) (q : Req) (n : Nat) (v : Int) (s : State) : Host.Outcome State Fault Refusal :=
  s.afterUnit t 8 n fun d => d.writeObj q (Od.phaseAdjust n) v

/-- TIME_SET: what a step of TS_0 passes runs on its tick (R79). -/
def execTimeSet (t : Nat) (q : Req) (n : Nat) (v : Int) (s : State) : Host.Outcome State Fault Refusal :=
  s.afterUnit t 8 n fun d => (d.writeObj q (Od.timeSet n) v).runDue

/-! ### TS_1 … TS_7 (R119 to R123) -/

/-- The objects among a list of optional values. -/
def given (l : List (Nat × Option Int)) : List (Nat × Int) := l.filterMap fun p => p.2.map fun v => (p.1, v)

def execDerivedWrite (t : Nat) (q : Req) (n : Nat) (rate anchor start : Option Int) (s : State) :
    Host.Outcome State Fault Refusal :=
  s.afterUnit t 8 n fun d =>
    d.writeObjs q (given [(Od.derivedRate n, rate), (Od.derivedAnchor n, anchor), (Od.derivedStart n, start)])

def execTsSourceWrite (t : Nat) (q : Req) (n : Nat) (v : Int) (s : State) : Host.Outcome State Fault Refusal :=
  s.afterUnit t 8 n fun d => d.writeObj q (Od.tsSource n) v

/-- DERIVED_REALIGN: at a second boundary of TS_0 (R120). -/
def execDerivedRealign (t n : Nat) (s : State) : Host.Outcome State Fault Refusal :=
  s.afterUnit t 8 n fun d => if d.derivedScales.contains n then d.realign n else d

/-! ### Leap seconds (R126 to R128) -/

def execLeapPendingWrite (t : Nat) (q : Req) (pending time : Option Int) (s : State) : Host.Outcome State Fault Refusal :=
  s.after t fun d => d.writeObjs q (given [(Od.leapPending, pending), (Od.leapTime, time)])

/-- LEAP_FLAG_START: the flags of a served message follow from LeapTime and LeapFlagLead as it is composed (`Dev.leapAt`), so
that time alone makes them appear. -/
def execLeapFlagStart (t : Nat) (s : State) : Host.Outcome State Fault Refusal := s.after t fun d => d

def execLeapApplied (t : Nat) (s : State) : Host.Outcome State Fault Refusal := s.after t fun d => d.applyLeap

end Sys2Proof.Machine
end

