-- ==== Sys2Proof/Machine/UpdateCmds.lean ====
section
/-! DEFINITION. Updates as commands: UPDATE_BEGIN to UPDATE_ACTIVATION (R531 to R535). -/

namespace Sys2Proof.Machine

def execUpdateBegin (t : Nat) (q : Req) (v : Int) (s : State) : Host.Outcome State Fault Refusal :=
  s.after t fun d => d.writeObj q Od.updateBegin v

def execUpdateChunk (t : Nat) (q : Req) (v : Int) (s : State) : Host.Outcome State Fault Refusal :=
  s.after t fun d => d.writeObj q Od.updateChunk v

def execUpdateApply (t : Nat) (q : Req) (v : Int) (s : State) : Host.Outcome State Fault Refusal :=
  s.after t fun d => d.writeObj q Od.updateApply v

/-- UPDATE_B_WRITTEN: whether the writing succeeded, and whether slot B is valid. -/
def execUpdateBWritten (t : Nat) (writeOk validOk : Bool) (s : State) : Host.Outcome State Fault Refusal :=
  s.after t fun d => d.updateB writeOk validOk

/-- UPDATE_A_WRITTEN: whether slot A, rewritten from slot B, is valid. -/
def execUpdateAWritten (t : Nat) (ok : Bool) (s : State) : Host.Outcome State Fault Refusal := s.after t fun d => d.updateA ok

def execUpdateActivation (t : Nat) (s : State) : Host.Outcome State Fault Refusal := s.after t fun d => d.updateActivate

end Sys2Proof.Machine
end

