-- ==== Sys2Proof/Machine/Dispatch.lean ====
section
/-! DEFINITION. The meaning of a command, by the constructor it is: one arm per row of the table. -/

namespace Sys2Proof.Machine

def exec (i : Instr) (s : State) : Host.Outcome State Fault Refusal :=
  match i with
  | .backupPor t => Sys2Proof.Machine.execBackupPor t s
  | .porst t => Sys2Proof.Machine.execPorst t s
  | .resetN t => Sys2Proof.Machine.execResetN t s
  | .engineReset t q v => Sys2Proof.Machine.execEngineReset t q v s
  | .brownout t rail => Sys2Proof.Machine.execBrownout t rail s
  | .supplyOutOfRange t rail => Sys2Proof.Machine.execSupplyOutOfRange t rail s
  | .bootImageVerified t a b mirrorOk => Sys2Proof.Machine.execBootImageVerified t a b mirrorOk s
  | .dictionaryRestored t image => Sys2Proof.Machine.execDictionaryRestored t image s
  | .calibrationDone t unlocked tables skews => Sys2Proof.Machine.execCalibrationDone t unlocked tables skews s
  | .oscillatorReady t amplitude tsyn => Sys2Proof.Machine.execOscillatorReady t amplitude tsyn s
  | .warmupTimeout t => Sys2Proof.Machine.execWarmupTimeout t s
  | .acquireTimeout t => Sys2Proof.Machine.execAcquireTimeout t s
  | .pendingModeEvent t => Sys2Proof.Machine.execPendingModeEvent t s
  | .modeRequestProceed t q => Sys2Proof.Machine.execModeRequestProceed t q s
  | .modeRequestEnterTest t q => Sys2Proof.Machine.execModeRequestEnterTest t q s
  | .modeRequestLeaveTest t q => Sys2Proof.Machine.execModeRequestLeaveTest t q s
  | .modeRequestLeaveSafe t q => Sys2Proof.Machine.execModeRequestLeaveSafe t q s
  | .oapDatagramDropped t why => Sys2Proof.Machine.execOapDatagramDropped t why s
  | .oapHello t port level nonce => Sys2Proof.Machine.execOapHello t port level nonce s
  | .oapClose t dg => Sys2Proof.Machine.execOapClose t dg s
  | .oapRead t dg body => Sys2Proof.Machine.execOapRead t dg body s
  | .oapWrite t dg body => Sys2Proof.Machine.execOapWrite t dg body s
  | .oapReadBlock t dg body => Sys2Proof.Machine.execOapReadBlock t dg body s
  | .oapWriteBlock t dg body => Sys2Proof.Machine.execOapWriteBlock t dg body s
  | .oapStage t dg body => Sys2Proof.Machine.execOapStage t dg body s
  | .oapCommit t dg body => Sys2Proof.Machine.execOapCommit t dg body s
  | .oapAbort t dg body => Sys2Proof.Machine.execOapAbort t dg body s
  | .oapSubscribe t dg body => Sys2Proof.Machine.execOapSubscribe t dg body s
  | .sessionIdle t sid => Sys2Proof.Machine.execSessionIdle t sid s
  | .notifyOnChange t sub => Sys2Proof.Machine.execNotifyOnChange t sub s
  | .notifyPeriodic t sub => Sys2Proof.Machine.execNotifyPeriodic t sub s
  | .hspiReq t bytes => Sys2Proof.Machine.execHspiReq t bytes s
  | .hspiPoll t => Sys2Proof.Machine.execHspiPoll t s
  | .hspiFetch t => Sys2Proof.Machine.execHspiFetch t s
  | .journalQuery t q id => Sys2Proof.Machine.execJournalQuery t q id s
  | .objectWrite t q key v => Sys2Proof.Machine.execObjectWrite t q key v s
  | .pskWrite t q level v => Sys2Proof.Machine.execPskWrite t q level v s
  | .servoUpdate t temp lo => Sys2Proof.Machine.execServoUpdate t temp lo s
  | .incOwnerTake t q n => Sys2Proof.Machine.execIncOwnerTake t q n s
  | .incOwnerRelease t q n => Sys2Proof.Machine.execIncOwnerRelease t q n s
  | .freqSteerWrite t q n v => Sys2Proof.Machine.execFreqSteerWrite t q n v s
  | .incWrite t q n v => Sys2Proof.Machine.execIncWrite t q n v s
  | .phaseAdjustWrite t q n v => Sys2Proof.Machine.execPhaseAdjustWrite t q n v s
  | .timeSet t q n v => Sys2Proof.Machine.execTimeSet t q n v s
  | .derivedWrite t q n rate anchor start => Sys2Proof.Machine.execDerivedWrite t q n rate anchor start s
  | .tsSourceWrite t q n v => Sys2Proof.Machine.execTsSourceWrite t q n v s
  | .derivedRealign t n => Sys2Proof.Machine.execDerivedRealign t n s
  | .leapPendingWrite t q pending time => Sys2Proof.Machine.execLeapPendingWrite t q pending time s
  | .leapFlagStart t => Sys2Proof.Machine.execLeapFlagStart t s
  | .leapApplied t => Sys2Proof.Machine.execLeapApplied t s
  | .refEnableWrite t q n v => Sys2Proof.Machine.execRefEnableWrite t q n v s
  | .signalLoss t n => Sys2Proof.Machine.execSignalLoss t n s
  | .holdoffElapsed t n => Sys2Proof.Machine.execHoldoffElapsed t n s
  | .qualifyTimeElapsed t n => Sys2Proof.Machine.execQualifyTimeElapsed t n s
  | .suspectClearTimeElapsed t n => Sys2Proof.Machine.execSuspectClearTimeElapsed t n s
  | .disagreeIntervalEnd t => Sys2Proof.Machine.execDisagreeIntervalEnd t s
  | .todMessage t n bytes => Sys2Proof.Machine.execTodMessage t n bytes s
  | .esmcPdu t n ssm essm => Sys2Proof.Machine.execEsmcPdu t n ssm essm s
  | .esmcTimeout t n => Sys2Proof.Machine.execEsmcTimeout t n s
  | .alignEnableWrite t q g v => Sys2Proof.Machine.execAlignEnableWrite t q g v s
  | .ovenrdyChange t level => Sys2Proof.Machine.execOvenrdyChange t level s
  | .atomlockChange t level => Sys2Proof.Machine.execAtomlockChange t level s
  | .loFail t detail lo => Sys2Proof.Machine.execLoFail t detail lo s
  | .ovenSettleEnd t => Sys2Proof.Machine.execOvenSettleEnd t s
  | .tempStale t => Sys2Proof.Machine.execTempStale t s
  | .learnInterval t => Sys2Proof.Machine.execLearnInterval t s
  | .modelStore t => Sys2Proof.Machine.execModelStore t s
  | .modelReset t q v => Sys2Proof.Machine.execModelReset t q v s
  | .awlEdge t ch tclk bin falling other => Sys2Proof.Machine.execAwlEdge t ch tclk bin falling other s
  | .intervalEventRelease t ch => Sys2Proof.Machine.execIntervalEventRelease t ch s
  | .freqGateEnd t ch => Sys2Proof.Machine.execFreqGateEnd t ch s
  | .awlDmaWrite t => Sys2Proof.Machine.execAwlDmaWrite t s
  | .dmaRunWrite t q v => Sys2Proof.Machine.execDmaRunWrite t q v s
  | .burnishStart t => Sys2Proof.Machine.execBurnishStart t s
  | .burnishNow t q v => Sys2Proof.Machine.execBurnishNow t q v s
  | .skewMeasured t => Sys2Proof.Machine.execSkewMeasured t s
  | .overlapMaxExpiry t => Sys2Proof.Machine.execOverlapMaxExpiry t s
  | .spareOnDuty t => Sys2Proof.Machine.execSpareOnDuty t s
  | .histogramDone t dev hits => Sys2Proof.Machine.execHistogramDone t dev hits s
  | .handbackChecked t => Sys2Proof.Machine.execHandbackChecked t s
  | .channelOnDuty t => Sys2Proof.Machine.execChannelOnDuty t s
  | .dllUnlock t dev => Sys2Proof.Machine.execDllUnlock t dev s
  | .dllRelock t dev => Sys2Proof.Machine.execDllRelock t dev s
  | .lpdBurnishNow t q l v => Sys2Proof.Machine.execLpdBurnishNow t q l v s
  | .syncePhaseStamp t r tclk bin => Sys2Proof.Machine.execSyncePhaseStamp t r tclk bin s
  | .gifClockCheck t offset => Sys2Proof.Machine.execGifClockCheck t offset s
  | .epochMark t tclk0 bin0 dk tclk1 bin1 pins meas => Sys2Proof.Machine.execEpochMark t tclk0 bin0 dk tclk1 bin1 pins meas s
  | .gcdBurnish t hits => Sys2Proof.Machine.execGcdBurnish t hits s
  | .gfeReplay t q k v => Sys2Proof.Machine.execGfeReplay t q k v s
  | .gfeTransfer t q v resp => Sys2Proof.Machine.execGfeTransfer t q v resp s
  | .acquisitionSearchDone t queued peak bin code => Sys2Proof.Machine.execAcquisitionSearchDone t queued peak bin code s
  | .channelTrack t c => Sys2Proof.Machine.execChannelTrack t c s
  | .channelLost t c visible => Sys2Proof.Machine.execChannelLost t c visible s
  | .navUnitDecoded t c mask bits payload => Sys2Proof.Machine.execNavUnitDecoded t c mask bits payload s
  | .navCopyRunWrite t q v => Sys2Proof.Machine.execNavCopyRunWrite t q v s
  | .gnssSolution t a sol => Sys2Proof.Machine.execGnssSolution t a sol s
  | .solutionRecordArrival t a => Sys2Proof.Machine.execSolutionRecordArrival t a s
  | .surveyStart t q a v => Sys2Proof.Machine.execSurveyStart t q a v s
  | .surveyDone t a => Sys2Proof.Machine.execSurveyDone t a s
  | .antennaPositionWrite t q a which v => Sys2Proof.Machine.execAntennaPositionWrite t q a which v s
  | .resurveyDelayElapsed t a => Sys2Proof.Machine.execResurveyDelayElapsed t a s
  | .almanacStore t => Sys2Proof.Machine.execAlmanacStore t s
  | .ifLevelFault t k occupancy => Sys2Proof.Machine.execIfLevelFault t k occupancy s
  | .scheduleOccurrence t => Sys2Proof.Machine.execScheduleOccurrence t s
  | .tioPeriodicPulse t n => Sys2Proof.Machine.execTioPeriodicPulse t n s
  | .todoutMessage t j => Sys2Proof.Machine.execTodoutMessage t j s
  | .schedEntryWrite t q e v => Sys2Proof.Machine.execSchedEntryWrite t q e v s
  | .tioFunctionWrite t q n v => Sys2Proof.Machine.execTioFunctionWrite t q n v s
  | .osynEnableWrite t q o v => Sys2Proof.Machine.execOsynEnableWrite t q o v s
  | .laneEnableWrite t q l v => Sys2Proof.Machine.execLaneEnableWrite t q l v s
  | .laneRestart t q l v => Sys2Proof.Machine.execLaneRestart t q l v s
  | .laneCalibrationComplete t l delays burnish => Sys2Proof.Machine.execLaneCalibrationComplete t l delays burnish s
  | .linkUp t l slips deskew => Sys2Proof.Machine.execLinkUp t l slips deskew s
  | .linkDown t l => Sys2Proof.Machine.execLinkDown t l s
  | .laneDrainWrite t q l v => Sys2Proof.Machine.execLaneDrainWrite t q l v s
  | .laneLoopWrite t q l v => Sys2Proof.Machine.execLaneLoopWrite t q l v s
  | .eqEntryWrite t q l r v => Sys2Proof.Machine.execEqEntryWrite t q l r v s
  | .rxLpiEntry t l => Sys2Proof.Machine.execRxLpiEntry t l s
  | .rxLpiExit t l => Sys2Proof.Machine.execRxLpiExit t l s
  | .rxLpiSignalLoss t l => Sys2Proof.Machine.execRxLpiSignalLoss t l s
  | .rxSignalDetected t l => Sys2Proof.Machine.execRxSignalDetected t l s
  | .rxWakeLock t l slip => Sys2Proof.Machine.execRxWakeLock t l slip s
  | .rxQuietTimeout t l => Sys2Proof.Machine.execRxQuietTimeout t l s
  | .txLpiIdle t l => Sys2Proof.Machine.execTxLpiIdle t l s
  | .txLpiWakeTrigger t l => Sys2Proof.Machine.execTxLpiWakeTrigger t l s
  | .txWakeComplete t l => Sys2Proof.Machine.execTxWakeComplete t l s
  | .lpiRefresh t l => Sys2Proof.Machine.execLpiRefresh t l s
  | .wakePatternDetected t l edges => Sys2Proof.Machine.execWakePatternDetected t l edges s
  | .wakeSend t q v => Sys2Proof.Machine.execWakeSend t q v s
  | .wakeSendDone t l => Sys2Proof.Machine.execWakeSendDone t l s
  | .patModeWrite t q j tx v => Sys2Proof.Machine.execPatModeWrite t q j tx v s
  | .patInjectOne t q j v => Sys2Proof.Machine.execPatInjectOne t q j v s
  | .patClear t q j v => Sys2Proof.Machine.execPatClear t q j v s
  | .patLockLoss t j errs => Sys2Proof.Machine.execPatLockLoss t j errs s
  | .eyeScanStart t q v => Sys2Proof.Machine.execEyeScanStart t q v s
  | .eyeScanDone t map => Sys2Proof.Machine.execEyeScanDone t map s
  | .rxFrame t p f => Sys2Proof.Machine.execRxFrame t p f s
  | .pauseFrameReceived t p enable times => Sys2Proof.Machine.execPauseFrameReceived t p enable times s
  | .txFrameCommit t p f => Sys2Proof.Machine.execTxFrameCommit t p f s
  | .launchTimeFrame t p arrived f => Sys2Proof.Machine.execLaunchTimeFrame t p arrived f s
  | .tsqRead t p => Sys2Proof.Machine.execTsqRead t p s
  | .txSlotWrite t p slot cls insert frame => Sys2Proof.Machine.execTxSlotWrite t p slot cls insert frame s
  | .preemptEnableWrite t q p v => Sys2Proof.Machine.execPreemptEnableWrite t q p v s
  | .preemptVerify t p ok => Sys2Proof.Machine.execPreemptVerify t p ok s
  | .gateEntry t p => Sys2Proof.Machine.execGateEntry t p s
  | .configChange t q p v => Sys2Proof.Machine.execConfigChange t q p v s
  | .gateConfigChangeTime t p => Sys2Proof.Machine.execGateConfigChangeTime t p s
  | .pauseTimerExpiry t p c => Sys2Proof.Machine.execPauseTimerExpiry t p c s
  | .pauseWatchdogBreak t p c => Sys2Proof.Machine.execPauseWatchdogBreak t p c s
  | .pauseBreakWindowEnd t p c => Sys2Proof.Machine.execPauseBreakWindowEnd t p c s
  | .xoffRepeat t p c taken => Sys2Proof.Machine.execXoffRepeat t p c taken s
  | .ownPauseBreak t p c => Sys2Proof.Machine.execOwnPauseBreak t p c s
  | .pipeDrainWrite t q j v => Sys2Proof.Machine.execPipeDrainWrite t q j v s
  | .pipeDrained t j => Sys2Proof.Machine.execPipeDrained t j s
  | .ptpMulticastSync t j => Sys2Proof.Machine.execPtpMulticastSync t j s
  | .ptpMulticastAnnounce t j => Sys2Proof.Machine.execPtpMulticastAnnounce t j s
  | .pdelayReqSend t j => Sys2Proof.Machine.execPdelayReqSend t j s
  | .unicastGrantTransmission t rec typ => Sys2Proof.Machine.execUnicastGrantTransmission t rec typ s
  | .delayReq t f p => Sys2Proof.Machine.execDelayReq t f p s
  | .pdelayReq t f p => Sys2Proof.Machine.execPdelayReq t f p s
  | .pdelayResp t f p residence => Sys2Proof.Machine.execPdelayResp t f p residence s
  | .requestUnicastTransmission t f p rs => Sys2Proof.Machine.execRequestUnicastTransmission t f p rs s
  | .cancelUnicastTransmission t f p typ => Sys2Proof.Machine.execCancelUnicastTransmission t f p typ s
  | .foreignAnnounce t port domain => Sys2Proof.Machine.execForeignAnnounce t port domain s
  | .grantExpiry t rec typ => Sys2Proof.Machine.execGrantExpiry t rec typ s
  | .instEnableWrite t q j v => Sys2Proof.Machine.execInstEnableWrite t q j v s
  | .ptpAnnounceReceived t r f a => Sys2Proof.Machine.execPtpAnnounceReceived t r f a s
  | .ptpSyncReceived t r f seq twoStep origin corr tlv => Sys2Proof.Machine.execPtpSyncReceived t r f seq twoStep origin corr tlv s
  | .followUpReceived t r f seq origin corr tlv => Sys2Proof.Machine.execFollowUpReceived t r f seq origin corr tlv s
  | .delayRespReceived t r f seq t4 corr => Sys2Proof.Machine.execDelayRespReceived t r f seq t4 corr s
  | .trkDelayReq t r => Sys2Proof.Machine.execTrkDelayReq t r s
  | .trkGrantRenew t r => Sys2Proof.Machine.execTrkGrantRenew t r s
  | .sppKeySwitch t e => Sys2Proof.Machine.execSppKeySwitch t e s
  | .ntpRequest t f n => Sys2Proof.Machine.execNtpRequest t f n s
  | .ntsRequest t f n x => Sys2Proof.Machine.execNtsRequest t f n x s
  | .ntsKeConnection t f openNow ok => Sys2Proof.Machine.execNtsKeConnection t f openNow ok s
  | .cookiePeriodChange t => Sys2Proof.Machine.execCookiePeriodChange t s
  | .cacheMissFill t bucket checkOk => Sys2Proof.Machine.execCacheMissFill t bucket checkOk s
  | .admissionReview t => Sys2Proof.Machine.execAdmissionReview t s
  | .clientScan t => Sys2Proof.Machine.execClientScan t s
  | .keyImport t q v => Sys2Proof.Machine.execKeyImport t q v s
  | .keyGenerate t q v => Sys2Proof.Machine.execKeyGenerate t q v s
  | .keyDestroy t q v => Sys2Proof.Machine.execKeyDestroy t q v s
  | .keyRotate t q v => Sys2Proof.Machine.execKeyRotate t q v s
  | .keyRotationSwitch t => Sys2Proof.Machine.execKeyRotationSwitch t s
  | .keyRetire t => Sys2Proof.Machine.execKeyRetire t s
  | .attestRequest t q v => Sys2Proof.Machine.execAttestRequest t q v s
  | .keyQuery t q v => Sys2Proof.Machine.execKeyQuery t q v s
  | .tamperEvent t src detail begins => Sys2Proof.Machine.execTamperEvent t src detail begins s
  | .tamperUnseal t q v => Sys2Proof.Machine.execTamperUnseal t q v s
  | .lifeCycleRequest t q v => Sys2Proof.Machine.execLifeCycleRequest t q v s
  | .customerSignerHashWrite t q j v => Sys2Proof.Machine.execCustomerSignerHashWrite t q j v s
  | .securityFloorWrite t q kind v => Sys2Proof.Machine.execSecurityFloorWrite t q kind v s
  | .helloFrame t serial priority claim app micro activeSince => Sys2Proof.Machine.execHelloFrame t serial priority claim app micro activeSince s
  | .heartbeatFrame t mode role healthy horizon commits measure own lead => Sys2Proof.Machine.execHeartbeatFrame t mode role healthy horizon commits measure own lead s
  | .logFrame t seq crcOk recs => Sys2Proof.Machine.execLogFrame t seq crcOk recs s
  | .epochEndFrame t seq crcOk epoch count digest => Sys2Proof.Machine.execEpochEndFrame t seq crcOk epoch count digest s
  | .digestFrame t epoch digest => Sys2Proof.Machine.execDigestFrame t epoch digest s
  | .nakFrame t first last => Sys2Proof.Machine.execNakFrame t first last s
  | .ackFrame t seq => Sys2Proof.Machine.execAckFrame t seq s
  | .copyFrame t seq crcOk items done => Sys2Proof.Machine.execCopyFrame t seq crcOk items done s
  | .cutoverFrame t epoch seed => Sys2Proof.Machine.execCutoverFrame t epoch seed s
  | .leavingFrame t time cause => Sys2Proof.Machine.execLeavingFrame t time cause s
  | .takenFrame t time => Sys2Proof.Machine.execTakenFrame t time s
  | .exchangeFrame t time => Sys2Proof.Machine.execExchangeFrame t time s
  | .exchangeAckFrame t time accept => Sys2Proof.Machine.execExchangeAckFrame t time accept s
  | .heartbeatSend t => Sys2Proof.Machine.execHeartbeatSend t s
  | .ackSend t => Sys2Proof.Machine.execAckSend t s
  | .epochBoundary t writers cutover => Sys2Proof.Machine.execEpochBoundary t writers cutover s
  | .digestDeadline t => Sys2Proof.Machine.execDigestDeadline t s
  | .linkSilent t => Sys2Proof.Machine.execLinkSilent t s
  | .peerAliveChange t level => Sys2Proof.Machine.execPeerAliveChange t level s
  | .partnerLossConfirmed t => Sys2Proof.Machine.execPartnerLossConfirmed t s
  | .pairJoinWaitExpiry t => Sys2Proof.Machine.execPairJoinWaitExpiry t s
  | .pcdBurnish t => Sys2Proof.Machine.execPcdBurnish t s
  | .roleExchangeWrite t q v => Sys2Proof.Machine.execRoleExchangeWrite t q v s
  | .pairEnableWrite t q v => Sys2Proof.Machine.execPairEnableWrite t q v s
  | .resyncStepTimeout t => Sys2Proof.Machine.execResyncStepTimeout t s
  | .resyncRetry t => Sys2Proof.Machine.execResyncRetry t s
  | .m3EventDelivery t => Sys2Proof.Machine.execM3EventDelivery t s
  | .m3HandlerReturn t acts => Sys2Proof.Machine.execM3HandlerReturn t acts s
  | .faultReport t src detail => Sys2Proof.Machine.execFaultReport t src detail s
  | .reactSettleEnd t r => Sys2Proof.Machine.execReactSettleEnd t r s
  | .sourceQuietPeriod t src => Sys2Proof.Machine.execSourceQuietPeriod t src s
  | .faultAck t q v => Sys2Proof.Machine.execFaultAck t q v s
  | .faultRecordClear t q v => Sys2Proof.Machine.execFaultRecordClear t q v s
  | .faultQuery t q v => Sys2Proof.Machine.execFaultQuery t q v s
  | .sourceConfigWrite t q src v => Sys2Proof.Machine.execSourceConfigWrite t q src v s
  | .aliveToggle t => Sys2Proof.Machine.execAliveToggle t s
  | .collectorWatchdog t => Sys2Proof.Machine.execCollectorWatchdog t s
  | .coreWatchdogExpiry t c => Sys2Proof.Machine.execCoreWatchdogExpiry t c s
  | .srvStall t => Sys2Proof.Machine.execSrvStall t s
  | .pmcWrap t k => Sys2Proof.Machine.execPmcWrap t k s
  | .pmcConfigWrite t q k which v => Sys2Proof.Machine.execPmcConfigWrite t q k which v s
  | .pmcClear t q hi v => Sys2Proof.Machine.execPmcClear t q hi v s
  | .powerRequestRun t q => Sys2Proof.Machine.execPowerRequestRun t q s
  | .powerRequestTrim t q => Sys2Proof.Machine.execPowerRequestTrim t q s
  | .powerRequestQuiet t q delays => Sys2Proof.Machine.execPowerRequestQuiet t q delays s
  | .powerRequestKeep t q delays => Sys2Proof.Machine.execPowerRequestKeep t q delays s
  | .powerRequestOff t q delays => Sys2Proof.Machine.execPowerRequestOff t q delays s
  | .powerDelayElapsed t answers => Sys2Proof.Machine.execPowerDelayElapsed t answers s
  | .quietEntryComplete t => Sys2Proof.Machine.execQuietEntryComplete t s
  | .keepEntryComplete t => Sys2Proof.Machine.execKeepEntryComplete t s
  | .wakeTimer t => Sys2Proof.Machine.execWakeTimer t s
  | .wakeComplete t failed image => Sys2Proof.Machine.execWakeComplete t failed image s
  | .wakeFailed t => Sys2Proof.Machine.execWakeFailed t s
  | .dramScrub t found => Sys2Proof.Machine.execDramScrub t found s
  | .sramScrub t found => Sys2Proof.Machine.execSramScrub t found s
  | .eccError t dram corrected unit => Sys2Proof.Machine.execEccError t dram corrected unit s
  | .updateBegin t q v => Sys2Proof.Machine.execUpdateBegin t q v s
  | .updateChunk t q v => Sys2Proof.Machine.execUpdateChunk t q v s
  | .updateApply t q v => Sys2Proof.Machine.execUpdateApply t q v s
  | .updateBWritten t writeOk validOk => Sys2Proof.Machine.execUpdateBWritten t writeOk validOk s
  | .updateAWritten t ok => Sys2Proof.Machine.execUpdateAWritten t ok s
  | .updateActivation t => Sys2Proof.Machine.execUpdateActivation t s
  | .resetRelease t => Sys2Proof.Machine.execResetRelease t s
  | .gifClkLoss t => Sys2Proof.Machine.execGifClkLoss t s
  | .coreRunning t c => Sys2Proof.Machine.execCoreRunning t c s
  | .pipelineReturnedActive t j => Sys2Proof.Machine.execPipelineReturnedActive t j s
  | .powerGatingDone t => Sys2Proof.Machine.execPowerGatingDone t s
  | .trackerGrantReceived t r f typ duration => Sys2Proof.Machine.execTrackerGrantReceived t r f typ duration s
  | .supplyInRange t rail => Sys2Proof.Machine.execSupplyInRange t rail s

end Sys2Proof.Machine
end

