-- ==== Sys2Proof/WellFormed.lean ====
section
/-! DEFINITION. Well-formed commands: those that name a unit the hardware has. -/

namespace Sys2Proof

/-- The unit numbers of a command, and what they may be: time scales 0 … 7 (R91), references 0 … 15 (Table 4-1), Awl channels
0 … 39, lanes 0 … 21 (Table 10-1), ports 0 … 17 of which data ports 0 … 15 (Table 11-1), pipelines 0 … 3, instances 0 … 31,
GNSS channels 0 … 191, and so on. -/
def Instr.wf : Instr → Bool
  | .backupPor _ => true
  | .porst _ => true
  | .resetN _ => true
  | .engineReset _ _ _ => true
  | .brownout _ rail => decide (rail < Machine.mainRails)
  | .supplyOutOfRange _ rail => decide (rail < Machine.mainRails)
  | .bootImageVerified _ _ _ _ => true
  | .dictionaryRestored _ _ => true
  | .calibrationDone _ _ _ _ => true
  | .oscillatorReady _ _ _ => true
  | .warmupTimeout _ => true
  | .acquireTimeout _ => true
  | .pendingModeEvent _ => true
  | .modeRequestProceed _ _ => true
  | .modeRequestEnterTest _ _ => true
  | .modeRequestLeaveTest _ _ => true
  | .modeRequestLeaveSafe _ _ => true
  | .oapDatagramDropped _ _ => true
  | .oapHello _ port _ _ => decide (port < 18)
  | .oapClose _ _ => true
  | .oapRead _ _ _ => true
  | .oapWrite _ _ _ => true
  | .oapReadBlock _ _ _ => true
  | .oapWriteBlock _ _ _ => true
  | .oapStage _ _ _ => true
  | .oapCommit _ _ _ => true
  | .oapAbort _ _ _ => true
  | .oapSubscribe _ _ _ => true
  | .sessionIdle _ _ => true
  | .notifyOnChange _ _ => true
  | .notifyPeriodic _ _ => true
  | .hspiReq _ _ => true
  | .hspiPoll _ => true
  | .hspiFetch _ => true
  | .journalQuery _ _ _ => true
  | .objectWrite _ _ _ _ => true
  | .pskWrite _ _ level _ => decide (level < 5)
  | .servoUpdate _ _ _ => true
  | .incOwnerTake _ _ n => decide (n < 8)
  | .incOwnerRelease _ _ n => decide (n < 8)
  | .freqSteerWrite _ _ n _ => decide (n < 8)
  | .incWrite _ _ n _ => decide (n < 8)
  | .phaseAdjustWrite _ _ n _ => decide (n < 8)
  | .timeSet _ _ n _ => decide (n < 8)
  | .derivedWrite _ _ n _ _ _ => decide (n < 8)
  | .tsSourceWrite _ _ n _ => decide (n < 8)
  | .derivedRealign _ n => decide (n < 8)
  | .leapPendingWrite _ _ _ _ => true
  | .leapFlagStart _ => true
  | .leapApplied _ => true
  | .refEnableWrite _ _ n _ => decide (n < 16)
  | .signalLoss _ n => decide (n < 16)
  | .holdoffElapsed _ n => decide (n < 16)
  | .qualifyTimeElapsed _ n => decide (n < 16)
  | .suspectClearTimeElapsed _ n => decide (n < 16)
  | .disagreeIntervalEnd _ => true
  | .todMessage _ n _ => decide (n < 8)
  | .esmcPdu _ n _ _ => decide (n < 16)
  | .esmcTimeout _ n => decide (n < 16)
  | .alignEnableWrite _ _ g _ => decide (g < 8)
  | .ovenrdyChange _ _ => true
  | .atomlockChange _ _ => true
  | .loFail _ _ _ => true
  | .ovenSettleEnd _ => true
  | .tempStale _ => true
  | .learnInterval _ => true
  | .modelStore _ => true
  | .modelReset _ _ _ => true
  | .awlEdge _ ch _ _ _ _ => decide (ch < 40)
  | .intervalEventRelease _ ch => decide (ch < 40)
  | .freqGateEnd _ ch => decide (ch < 40)
  | .awlDmaWrite _ => true
  | .dmaRunWrite _ _ _ => true
  | .burnishStart _ => true
  | .burnishNow _ _ _ => true
  | .skewMeasured _ => true
  | .overlapMaxExpiry _ => true
  | .spareOnDuty _ => true
  | .histogramDone _ dev _ => Machine.isDevice dev
  | .handbackChecked _ => true
  | .channelOnDuty _ => true
  | .dllUnlock _ dev => Machine.isDevice dev
  | .dllRelock _ dev => Machine.isDevice dev
  | .lpdBurnishNow _ _ l _ => decide (l < 22)
  | .syncePhaseStamp _ r _ _ => decide (r < 2)
  | .gifClockCheck _ _ => true
  | .epochMark _ _ _ _ _ _ _ meas => meas.all fun m => decide (m.ch < 192)
  | .gcdBurnish _ _ => true
  | .gfeReplay _ _ k _ => decide (k < 4)
  | .gfeTransfer _ _ _ _ => true
  | .acquisitionSearchDone _ queued _ _ _ => queued.all fun q => decide (q.ch < 192)
  | .channelTrack _ c => decide (c < 192)
  | .channelLost _ c _ => decide (c < 192)
  | .navUnitDecoded _ c _ _ _ => decide (c < 192)
  | .navCopyRunWrite _ _ _ => true
  | .gnssSolution _ a _ => decide (a < 2)
  | .solutionRecordArrival _ a => decide (a < 2)
  | .surveyStart _ _ a _ => decide (a < 2)
  | .surveyDone _ a => decide (a < 2)
  | .antennaPositionWrite _ _ a which _ => decide (a < 2) && decide (which < 4)
  | .resurveyDelayElapsed _ a => decide (a < 2)
  | .almanacStore _ => true
  | .ifLevelFault _ k _ => decide (k < 4)
  | .scheduleOccurrence _ => true
  | .tioPeriodicPulse _ n => decide (n < 32)
  | .todoutMessage _ j => decide (j < 2)
  | .schedEntryWrite _ _ e _ => decide (e < 4096)
  | .tioFunctionWrite _ _ n _ => decide (n < 32)
  | .osynEnableWrite _ _ o _ => decide (o < 4)
  | .laneEnableWrite _ _ l _ => decide (l < 22)
  | .laneRestart _ _ l _ => decide (l < 22)
  | .laneCalibrationComplete _ l _ _ => decide (l < 22)
  | .linkUp _ l _ _ => decide (l < 22)
  | .linkDown _ l => decide (l < 22)
  | .laneDrainWrite _ _ l _ => decide (l < 22)
  | .laneLoopWrite _ _ l _ => decide (l < 22)
  | .eqEntryWrite _ _ l r _ => decide (l < 22) && decide (r < 256)
  | .rxLpiEntry _ l => decide (l < 22)
  | .rxLpiExit _ l => decide (l < 22)
  | .rxLpiSignalLoss _ l => decide (l < 22)
  | .rxSignalDetected _ l => decide (l < 22)
  | .rxWakeLock _ l _ => decide (l < 22)
  | .rxQuietTimeout _ l => decide (l < 22)
  | .txLpiIdle _ l => decide (l < 22)
  | .txLpiWakeTrigger _ l => decide (l < 22)
  | .txWakeComplete _ l => decide (l < 22)
  | .lpiRefresh _ l => decide (l < 22)
  | .wakePatternDetected _ l _ => decide (l < 22)
  | .wakeSend _ _ _ => true
  | .wakeSendDone _ l => decide (l < 22)
  | .patModeWrite _ _ i _ _ => decide (i < 6)
  | .patInjectOne _ _ i _ => decide (i < 6)
  | .patClear _ _ i _ => decide (i < 6)
  | .patLockLoss _ i _ => decide (i < 6)
  | .eyeScanStart _ _ _ => true
  | .eyeScanDone _ _ => true
  | .rxFrame _ p _ => decide (p < 18)
  | .pauseFrameReceived _ p _ _ => decide (p < 18)
  | .txFrameCommit _ p _ => decide (p < 18)
  | .launchTimeFrame _ p _ _ => decide (p < 16)
  | .tsqRead _ p => decide (p < 18)
  | .txSlotWrite _ p slot _ _ _ => decide (p < 16) && decide (slot < 64)
  | .preemptEnableWrite _ _ p _ => decide (p < 16)
  | .preemptVerify _ p _ => decide (p < 16)
  | .gateEntry _ p => decide (p < 16)
  | .configChange _ _ p _ => decide (p < 16)
  | .gateConfigChangeTime _ p => decide (p < 16)
  | .pauseTimerExpiry _ p c => decide (p < 16) && decide (c < 8)
  | .pauseWatchdogBreak _ p c => decide (p < 16) && decide (c < 8)
  | .pauseBreakWindowEnd _ p c => decide (p < 16) && decide (c < 8)
  | .xoffRepeat _ p c _ => decide (p < 16) && decide (c < 8)
  | .ownPauseBreak _ p c => decide (p < 16) && decide (c < 8)
  | .pipeDrainWrite _ _ i _ => decide (i < 4)
  | .pipeDrained _ i => decide (i < 4)
  | .ptpMulticastSync _ i => decide (i < 32)
  | .ptpMulticastAnnounce _ i => decide (i < 32)
  | .pdelayReqSend _ i => decide (i < 32)
  | .unicastGrantTransmission _ _ _ => true
  | .delayReq _ f _ => decide (f.port < 16)
  | .pdelayReq _ f _ => decide (f.port < 16)
  | .pdelayResp _ f _ _ => decide (f.port < 16)
  | .requestUnicastTransmission _ f _ _ => decide (f.port < 16)
  | .cancelUnicastTransmission _ f _ _ => decide (f.port < 16)
  | .foreignAnnounce _ port _ => decide (port < 16)
  | .grantExpiry _ _ _ => true
  | .instEnableWrite _ _ i _ => decide (i < 32)
  | .ptpAnnounceReceived _ r _ _ => decide (r < 4)
  | .ptpSyncReceived _ r _ _ _ _ _ _ => decide (r < 4)
  | .followUpReceived _ r _ _ _ _ _ => decide (r < 4)
  | .delayRespReceived _ r _ _ _ _ => decide (r < 4)
  | .trkDelayReq _ r => decide (r < 4)
  | .trkGrantRenew _ r => decide (r < 4)
  | .sppKeySwitch _ e => decide (e < 16)
  | .ntpRequest _ f _ => decide (f.port < 16)
  | .ntsRequest _ f _ _ => decide (f.port < 16)
  | .ntsKeConnection _ f _ _ => decide (f.port < 16)
  | .cookiePeriodChange _ => true
  | .cacheMissFill _ _ _ => true
  | .admissionReview _ => true
  | .clientScan _ => true
  | .keyImport _ _ _ => true
  | .keyGenerate _ _ _ => true
  | .keyDestroy _ _ _ => true
  | .keyRotate _ _ _ => true
  | .keyRotationSwitch _ => true
  | .keyRetire _ => true
  | .attestRequest _ _ _ => true
  | .keyQuery _ _ _ => true
  | .tamperEvent _ src _ _ => decide (src < 8)
  | .tamperUnseal _ _ _ => true
  | .lifeCycleRequest _ _ _ => true
  | .customerSignerHashWrite _ _ i _ => decide (i < 4)
  | .securityFloorWrite _ _ kind _ => decide (kind < 6)
  | .helloFrame _ _ _ _ _ _ _ => true
  | .heartbeatFrame _ _ _ _ _ _ _ _ _ => true
  | .logFrame _ _ _ _ => true
  | .epochEndFrame _ _ _ _ _ _ => true
  | .digestFrame _ _ _ => true
  | .nakFrame _ _ _ => true
  | .ackFrame _ _ => true
  | .copyFrame _ _ _ _ _ => true
  | .cutoverFrame _ _ _ => true
  | .leavingFrame _ _ _ => true
  | .takenFrame _ _ => true
  | .exchangeFrame _ _ => true
  | .exchangeAckFrame _ _ _ => true
  | .heartbeatSend _ => true
  | .ackSend _ => true
  | .epochBoundary _ _ _ => true
  | .digestDeadline _ => true
  | .linkSilent _ => true
  | .peerAliveChange _ _ => true
  | .partnerLossConfirmed _ => true
  | .pairJoinWaitExpiry _ => true
  | .pcdBurnish _ => true
  | .roleExchangeWrite _ _ _ => true
  | .pairEnableWrite _ _ _ => true
  | .resyncStepTimeout _ => true
  | .resyncRetry _ => true
  | .m3EventDelivery _ => true
  | .m3HandlerReturn _ _ => true
  | .faultReport _ src _ => Machine.isSource src
  | .reactSettleEnd _ r => decide (r < 32)
  | .sourceQuietPeriod _ src => decide (src < 256)
  | .faultAck _ _ _ => true
  | .faultRecordClear _ _ _ => true
  | .faultQuery _ _ _ => true
  | .sourceConfigWrite _ _ src _ => decide (src < 256)
  | .aliveToggle _ => true
  | .collectorWatchdog _ => true
  | .coreWatchdogExpiry _ c => decide (c < 4)
  | .srvStall _ => true
  | .pmcWrap _ k => decide (k < 64)
  | .pmcConfigWrite _ _ k _ _ => decide (k < 64)
  | .pmcClear _ _ _ _ => true
  | .powerRequestRun _ _ => true
  | .powerRequestTrim _ _ => true
  | .powerRequestQuiet _ _ _ => true
  | .powerRequestKeep _ _ _ => true
  | .powerRequestOff _ _ _ => true
  | .powerDelayElapsed _ _ => true
  | .quietEntryComplete _ => true
  | .keepEntryComplete _ => true
  | .wakeTimer _ => true
  | .wakeComplete _ _ _ => true
  | .wakeFailed _ => true
  | .dramScrub _ _ => true
  | .sramScrub _ _ => true
  | .eccError _ _ _ _ => true
  | .updateBegin _ _ _ => true
  | .updateChunk _ _ _ => true
  | .updateApply _ _ _ => true
  | .updateBWritten _ _ _ => true
  | .updateAWritten _ _ => true
  | .updateActivation _ => true
  | .resetRelease _ => true
  | .gifClkLoss _ => true
  | .coreRunning _ c => decide (c < 4)
  | .pipelineReturnedActive _ i => decide (i < 4)
  | .powerGatingDone _ => true
  | .trackerGrantReceived _ r _ _ _ => decide (r < 4)
  | .supplyInRange _ rail => decide (rail < Machine.mainRails)

end Sys2Proof
end

