-- ==== Sys2Proof/Safety.lean ====
section
/-! DEFINITION. What counts as a safe run, and the terms the statements use: a command that completes, a write that is
accepted, and what a command leaves as it was. -/

namespace Sys2Proof

open Machine

/-- A command completes in a state: it answers a next state whose queue and memory are as they were, and whose device has
P. -/
def Completes (c : Instr) (s : State) (P : Dev → Prop) : Prop :=
  ∃ s', exec c s = .next s' ∧ s'.pending = s.pending ∧ s'.mem = s.mem ∧ P s'.dev

/-- The device as a command of tick t finds it: time has gone on to t, and what fell due on the way has come about on its tick
(R79, R424, R426, R453; log entry 78). -/
abbrev Machine.State.reached (s : State) (t : Nat) : Dev := s.dev.advance t

/-- A command completes at tick t and, where no condition of its row holds, changes nothing. -/
def Idles (c : Instr) (s : State) (t : Nat) : Prop :=
  Completes c s fun d => d = (s.reached t).noteChanges

/-- A write that passes the checks of R48. -/
abbrev Accepted (d : Dev) (q : Req) (k : Nat) (v : Int) : Prop := d.writeStatus q k v = .ok

/-- The parts of the device beside its objects, the tick, what it puts out, the count of free values and what the subscriptions
have seen. -/
inductive Part where
  | cnt | aon | scales | mode | acc | flt | pmc | tugs | lanes | ports | sel | awl | gnss | keep | ebe | keys | pair | power
  | update | ageing | svc
  deriving DecidableEq, Repr

/-- A part is the same in two devices. -/
def Part.same (d d' : Dev) : Part → Prop
  | .cnt => d'.cntZero = d.cntZero
  | .aon => d'.aonTs0 = d.aonTs0 ∧ d'.aonFrom = d.aonFrom
  | .scales => d'.scales = d.scales
  | .mode => d'.mode = d.mode
  | .acc => d'.acc = d.acc
  | .flt => d'.flt = d.flt
  | .pmc => d'.pmc = d.pmc
  | .tugs => d'.tugs = d.tugs
  | .lanes => d'.lanes = d.lanes
  | .ports => d'.ports = d.ports
  | .sel => d'.sel = d.sel
  | .awl => d'.awl = d.awl
  | .gnss => d'.gnss = d.gnss
  | .keep => d'.keep = d.keep
  | .ebe => d'.ebe = d.ebe
  | .keys => d'.keys = d.keys
  | .pair => d'.pair = d.pair
  | .power => d'.power = d.power
  | .update => d'.update = d.update
  | .ageing => d'.ageing = d.ageing
  | .svc => d'.svc = d.svc

/-- The frame: objects but those of a list, and parts but those of a list, are as they were. -/
def OnlyChanges (d d' : Dev) (objects : List Nat) (parts : List Part) : Prop :=
  (∀ k, k ∉ objects → d'.num k = d.num k) ∧ ∀ p, p ∉ parts → p.same d d'

/-- The frame for the parts alone. -/
def KeepsParts (d d' : Dev) (parts : List Part) : Prop := ∀ p ∈ parts, p.same d d'

/-- What a reset of cause 1 to 4 leaves: the cause recorded and counted, POWERUP, the objects of the AON, KEY and GTH islands as
they were (but for the power state, what was asked of it and the live bits), every other object at its default, the time
scales stopped, no session open, the journal kept. -/
def AfterReset (d d' : Dev) (cause : Nat) : Prop :=
  d'.md = Mode.powerup ∧ d'.nat Od.lastResetCause = cause ∧
    d'.nat Od.resetCount = (d.nat Od.resetCount + 1) % 2 ^ 32 ∧ d'.scales = [] ∧ d'.acc.sessions = [] ∧
    d'.acc.journal = d.acc.journal ∧ d'.nat Od.powerState = 0 ∧
    ∀ k, k ∉ [Od.lastResetCause, Od.resetCount, Od.powerState, Od.powerQueued, Od.trimGated, Od.powerRequestResult,
      Od.faultLive, Od.aliveState, Od.collectorSticky] → d'.num k = if Od.warm k then d.num k else Od.dflt k

/-- A write of several objects at once that passes the checks of R48. -/
abbrev AcceptedAll (d : Dev) (q : Req) (vs : List (Nat × Int)) : Prop := d.valuesFail (d.wrOf q (d.levelOf q) vs) 0 vs = none

/-- A request reaches the dictionary: its datagram is accepted (R60, R61), which leaves e; fewer than eight of the session's
requests are unanswered (R63), and neither Sequence is at its limit, so that the session stays open (R62). -/
abbrev Taken (d : Dev) (dg : Dg) (e : Dev) : Prop :=
  d.takeDg dg = (true, e) ∧ dg.unanswered < 8 ∧
    ∀ x ∈ e.acc.sessions, x.sid = dg.sid → x.high < seqLimit ∧ x.out < seqLimit

/-- A frame of the time service is taken (R376, R382, R383): the engine serves, the port passes frames, and the frame's
pipeline is one of the four. -/
abbrev ServiceTakes (d : Dev) (f : SvcF) : Prop :=
  d.fromLog = false ∧ d.portUp f.port = true ∧ d.serves = true ∧ d.pipeOf f.bucket < 4

/-- A PTP message is for an instance without authentication that uses the delay mechanism asked for (R386 to R388). -/
abbrev ForInstance (d : Dev) (f : SvcF) (p : PtpF) (i : Nat) (peer : Bool) : Prop :=
  d.findInst f.port p.domain p.transport = some i ∧ f.ok = true ∧ d.peerDelay i = peer ∧ d.nat (Od.authMode i) = 0

/-- A message a tracker hears is taken (R168, R396, R397), its tracker asking for no authentication. -/
abbrev TrackerTakes (d : Dev) (r : Nat) (f : TrkF) : Prop :=
  d.fromLog = false ∧ d.trkOn r = true ∧ d.trkHears r f = true ∧ f.ok = true ∧ d.nat (Od.trkAuthSpp r) = 0xFF

/-- A frame of the link that counts in no LinkSeq, as the device sends it (Table 14-2). -/
def Machine.Dev.linkFrame (d : Dev) (type : Nat) (fields : List Nat) : Msg :=
  .buckle type fields (buckleOctets type 0 0 (epochOf (d.tsNow 0)) (bucklePayload type fields))

/-- A message is composed and waits for its port's MAC behind those that wait there; `launch`: as a launch-time frame. -/
def Queues (e d : Dev) (pipe port kind : Nat) (body : Body) (launch : Bool) : Prop :=
  ∃ m, d.svc.queue = e.svc.queue ++ [m] ∧ m.pipe = pipe ∧ m.port = port ∧ m.kind = kind ∧ m.body = body ∧
    m.launch.isSome = launch

/-- What a message of an instance comes to: composed, and sent unsigned where the instance asks for no authentication; else signed,
or withheld (R394, R434). -/
def Composes (e d : Dev) (i pipe kind : Nat) (body : Body) : Prop :=
  let port := e.nat (Od.instPort i)
  Queues e d pipe port kind body false ∨
    (e.nat (Od.authMode i) ≠ 0 ∧ (Queues e d pipe port kind body true ∨ d.svc.queue = e.svc.queue))

/-- A client's record is at hand for a frame of its bucket (R405, R406): nothing of the bucket waits, the cache holds the record,
and it is not refused. -/
abbrev RecordAtHand (d : Dev) (kind inst : Nat) (f : SvcF) (n : Nat) (c : Client) : Prop :=
  d.bucketWaits f.bucket = [] ∧ d.findClient kind inst f = some n ∧ d.client n = some c ∧ d.cached n = true ∧ c.refused = false

/-- A key-store slot serves a use that needs a type and a usage bit (R423). -/
abbrev KeyServes (d : Dev) (n bit : Nat) (types : List Nat) : Prop :=
  d.isSealed = false ∧ types.contains (d.slot n).typ = true ∧ (d.slot n).usage.testBit bit = true

/-- TS_0 has reached neither the instant of a scheduled commit nor that of a key's switch still to come (R79, R424). -/
abbrev NothingDue (d : Dev) : Prop :=
  d.running 0 = true → (d.nat Od.stageState = 2 → d.tsNow 0 < tsTime (d.nat Od.stageAt)) ∧
    ∀ r ∈ d.keys.rotations, r.retireAt = none → d.tsNow 0 < r.switchAt

/-- Nothing waits for TS_0 to reach an instant: no commit is scheduled and no key is still to be switched (R79, R424). -/
abbrev NothingWaits (d : Dev) : Prop := d.nat Od.stageState ≠ 2 ∧ ∀ r ∈ d.keys.rotations, r.retireAt ≠ none

/-- The objects that an entry into the pair's input log changes (R449, R491): RetransmitBufferUse, and the performance counters. -/
def logObjects : List Nat :=
  Od.retransmitBufferUse :: Od.pmcOverflowLo :: Od.pmcOverflowHi :: (List.range 64).map Od.pmcValue

/-- The objects that show whether the SyncE references have a signal, which a change of a lane may change (R136). -/
def synceObjects : List Nat := [Od.refLive 14, Od.refSticky 14, Od.refLive 15, Od.refSticky 15]

/-- The objects whose write is the new value and nothing else. -/
def PlainObject (k : Nat) (v : Int) : Prop :=
  (∀ (d : Dev) (w : Wr), d.objAct w k v = d.put k v) ∧ k / 256 ≠ 0x1201 ∧ k ≠ Od.oapPorts ∧ k ≠ Od.engineReset ∧
    k ≠ Od.lifeCycleRequest

/-- A step is safe where it neither faults nor is refused. -/
def SafeStep (s : State) : Prop := ∃ s', step s = .next s'

/-- Every command that waits names units the hardware has. -/
def QueueWf (s : State) : Prop := ∀ c ∈ s.pending, c.wf = true

end Sys2Proof
end

