-- ==== Sys2Proof/Certificates/Slice0/Obligations.lean ====
section
/-! DEFINITION. The statements for the provers: what each command does where it runs, what it leaves as it was, and what
every step keeps. -/

open Sys2Proof Sys2Proof.Machine

/-- With a command c at the front of its queue, a step of the block is exec of c on the same state with the queue's rest; it
is so for every command and state. -/
def Obligations.StepTakesFront : Prop :=
  ∀ (c : Instr) (rest : List Instr) (s : State), step { s with pending := c :: rest } = exec c { s with pending := rest }

/-- With no command waiting the block idles for one tick: what falls due on it comes about, memory and the queue stay as they were.
Where nothing falls due on it, the tick goes one further, nothing is put out, and nothing else of the device changes but what the
subscriptions have seen (the model's own choice, log entries 2 and 78). -/
def Obligations.IdleStepIsOneTick : Prop :=
  ∀ s : State, s.pending = [] →
    step s = .next { s with dev := (s.reached (s.dev.tick + 1)).noteChanges } ∧
    (s.dev.dueTicks (s.dev.tick + 1) = [] → step s = .next { s with dev :=
      { s.dev with tick := s.dev.tick + 1, out := [], watch := (s.reached (s.dev.tick + 1)).noteChanges.watch } })

/-- Whatever the state and whatever commands wait: where memory lists each address once, in rising order, it does so after
the step too. -/
def Obligations.StepKeepsMemoryForm : Prop :=
  ∀ s s' : State, Memory.wf s.mem = true → step s = .next s' → Memory.wf s'.mem = true

/-- Right after reset memory lists nothing, so that it has the canonical form, and no command waits, so that every waiting
command is well formed; OpMode reads POWERUP, PairRole NONE and PowerState RUN, and CNT does not run. -/
def Obligations.ResetMeetsInvariants : Prop :=
  Memory.wf State.reset.mem = true ∧ State.reset.mem = [] ∧ State.reset.pending = [] ∧ QueueWf State.reset ∧
    State.reset.dev.md = Mode.powerup ∧ State.reset.dev.nat Od.pairRole = 0 ∧ State.reset.dev.nat Od.powerState = 0 ∧
    State.reset.dev.cntZero = none

/-- From every state whose waiting commands all name units the hardware has, a step answers a next state (no fault, no
refusal), and the commands that wait then all name units the hardware has: the block never stops on them. -/
def Obligations.WellFormedQueueNeverStops : Prop :=
  ∀ s : State, QueueWf s → ∃ s', step s = .next s' ∧ QueueWf s'

/-- Whatever command is carried out in whatever state: where it answers a next state, the queue of that state is the queue it
was given, so that each step takes exactly one command off the queue. -/
def Obligations.CommandsLeaveTheQueue : Prop :=
  ∀ (c : Instr) (s s' : State), exec c s = .next s' → s'.pending = s.pending

/-- A command is not well formed exactly where it names a unit the hardware does not have; then, in every state, it stops with
the fault noSuchUnit (the model's choice, log entry 26), and no other command stops in any state. -/
def Obligations.UnknownUnitStops : Prop :=
  ∀ (c : Instr) (s : State), (c.wf = false → exec c s = .fault .noSuchUnit) ∧ (c.wf = true → ∃ s', exec c s = .next s')

/-- Every command but AWL_DMA_WRITE and NAV_UNIT_DECODED leaves every octet of memory as it was, in every state. -/
def Obligations.MemoryWrittenByTwo : Prop :=
  ∀ (c : Instr) (s s' : State), exec c s = .next s' → (∀ t, c ≠ .awlDmaWrite t) →
    (∀ t ch mask bits payload, c ≠ .navUnitDecoded t ch mask bits payload) →
    s'.mem = s.mem ∧ ∀ a, readByte s'.mem a = readByte s.mem a

/-- BACKUP_POR, PORST, RESET_N (where it reaches the engine), ENGINE_RESET (an accepted write of a value other than 0) and a
BROWNOUT of a monitored rail complete: LastResetCause reads the cause, ResetCount is one further (it wraps at 2^32), OpMode reads
POWERUP, the time scales are stopped, no session is open, and the journal is kept. Of the objects, BACKUP_POR keeps those in flash
and OTP alone, the others also those of the AON, KEY and GTH islands; every other object reads its default. RESET_N in KEEP and
OFF, or while PORST_N is low, and a BROWNOUT of a rail that is not monitored change nothing; an accepted write of 0 to EngineReset
answers OK and resets nothing. (Which objects are of those islands is the model's reading, log entry 30.) -/
def Obligations.ResetsRecorded : Prop :=
  (∀ (t : Nat) (s : State), Completes (.backupPor t) s fun d =>
    d.md = Mode.powerup ∧ d.nat Od.lastResetCause = 0 ∧
    d.nat Od.resetCount = ((s.reached t).nat Od.resetCount + 1) % 2 ^ 32 ∧ d.scales = [] ∧ d.acc.sessions = [] ∧
    d.mode.held = some 1 ∧ d.acc.journal.map (·.id) = (s.reached t).acc.journalFlash.map (·.id) ∧
    ∀ k, k ≠ Od.lastResetCause → k ≠ Od.resetCount →
      d.num k = if Od.permanent k then (s.reached t).num k else Od.dflt k) ∧
  (∀ (t : Nat) (s : State), Completes (.porst t) s fun d => AfterReset (s.reached t) d 1 ∧ d.mode.held = some 1) ∧
  (∀ (t : Nat) (s : State),
    if (s.reached t).nat Od.powerState ≤ 2 ∧ (s.reached t).mode.held ≠ some 1 then
      Completes (.resetN t) s fun d => AfterReset (s.reached t) d 2 ∧ d.mode.held = some 2
    else Idles (.resetN t) s t) ∧
  (∀ (t : Nat) (q : Req) (v : Int) (s : State), Accepted (s.reached t) q Od.engineReset v →
    Completes (.engineReset t q v) s fun d =>
      if v = 0 then OnlyChanges (s.reached t) d logObjects [.pair, .pmc] ∧ .written 0 (s.reached t).now0 ∈ d.out
      else AfterReset (s.reached t) d 4 ∧ d.mode.held = none) ∧
  (∀ (t rail : Nat) (s : State), rail < 6 →
    if (s.reached t).railsWatched then
      Completes (.brownout t rail) s fun d =>
        AfterReset (s.reached t) d 1 ∧ d.mode.held = some 3 ∧ rail ∈ d.power.railsOut
    else Idles (.brownout t rail) s t)

/-- SUPPLY_OUT_OF_RANGE of a monitored main rail raises the live bit of SUPPLY (218) and notes the rail; SUPPLY_IN_RANGE takes
the rail off the list and, with the last of them, drops the live bit and notes the instant. RESET_RELEASE ends the reset that
is held (a brownout's only when no rail is out and 2 ms have passed, else it changes nothing): POWERUP begins at this tick, and the
oven's count starts except after RESET_N. Nothing else changes. -/
def Obligations.SuppliesAndRelease : Prop :=
  (∀ (t rail : Nat) (s : State), rail < 6 →
    if (s.reached t).railsWatched then
      Completes (.supplyOutOfRange t rail) s fun d =>
        d.isLive 218 = true ∧ rail ∈ d.power.railsOut ∧ d.power.railsOkAt = none ∧
        ((s.reached t).isLive 218 = false →
          ∃ r, d.flt.queue = (s.reached t).flt.queue ++ [r] ∧ r.src = 218 ∧ r.detail = rail) ∧
        OnlyChanges (s.reached t) d [Od.faultLive] [.power, .flt]
    else Idles (.supplyOutOfRange t rail) s t) ∧
  (∀ (t rail : Nat) (s : State), rail < 6 →
    Completes (.supplyInRange t rail) s fun d =>
      d.power.railsOut = (s.reached t).power.railsOut.filter (· != rail) ∧
      (d.power.railsOut = [] → d.isLive 218 = false ∧ d.power.railsOkAt = some (s.reached t).tick) ∧
      OnlyChanges (s.reached t) d [Od.faultLive] [.power, .flt]) ∧
  (∀ (t : Nat) (s : State),
    match (s.reached t).mode.held with
    | none => Idles (.resetRelease t) s t
    | some h =>
      if h = 3 ∧ ¬((s.reached t).power.railsOut = [] ∧
          ∃ k, (s.reached t).power.railsOkAt = some k ∧ 2 * ticksPerMs ≤ (s.reached t).tick - k) then
        Idles (.resetRelease t) s t
      else Completes (.resetRelease t) s fun d =>
        d.mode.held = none ∧ d.mode.since = (s.reached t).tick ∧ d.mode.bootFrom = (s.reached t).tick ∧
        d.keep.ovenFrom = (if h = 2 then (s.reached t).keep.ovenFrom else some (s.reached t).tick) ∧
        OnlyChanges (s.reached t) d [] [.mode, .keep])

/-- BOOT_IMAGE_VERIFIED, while the boot ROM is choosing, first completes a life-cycle transition that a reset interrupted; a chip
that is then SCRAPPED halts. Else it leads to CONFIGURE: with a valid slot A from it, else with a valid slot B from that, with
BootSlotFallback; with neither it stays in POWERUP, in the loader. Once the boot ROM has chosen it changes nothing.
DICTIONARY_RESTORED in CONFIGURE leads to CALIBRATE where no image was stored or every entry of the image was restored; where one
failed, CONFIGURE goes on with ConfigDefaults. CALIBRATION_DONE leads from CALIBRATE to WARMUP (a RETURNED chip: TEST).
OSCILLATOR_READY in WARMUP, the oscillator being ready and TSYN locked, leads an engine of no pair to ACQUIRE; with a pair enabled
whose partner has not been heard it notes the wait and stays. LastModeCause reads the cause the row names. -/
def Obligations.StartUpRows : Prop :=
  (∀ (t : Nat) (a b : SlotF) (m : Bool) (s : State),
    if (s.reached t).booting then
      let e := (s.reached t).sealedAtRelease.lifeBoot
      Completes (.bootImageVerified t a b m) s fun d =>
        if e.nat Od.lifeCycleState = 4 then d.md = Mode.powerup ∧ d.mode.loader = false
        else d.nat Od.lastModeCause = 1 ∧
          if e.slotValid a then d.md = Mode.configure ∧ d.nat Od.bootSlot = 0
          else if e.slotValid b then d.md = Mode.configure ∧ d.nat Od.bootSlot = 1 ∧
            d.bit Od.modeSticky Bit.modeSticky_BootSlotFallback = true
          else d.md = Mode.powerup ∧ d.mode.loader = true
    else Idles (.bootImageVerified t a b m) s t) ∧
  (∀ (t : Nat) (image : Option (List Ent)) (s : State), (s.reached t).md = Mode.configure →
    (s.reached t).mode.restoreFailed = false →
    Completes (.dictionaryRestored t image) s fun d => d.nat Od.lastModeCause = 2 ∧
      if ∃ l, image = some l ∧ ((s.reached t).restoreImage l).1 = false then
        d.md = Mode.configure ∧ d.mode.restoreFailed = true ∧ d.bit Od.modeSticky Bit.modeSticky_ConfigDefaults = true
      else d.md = Mode.calibrate ∧
        d.cntZero = (match (s.reached t).cntZero with | some z => some z | none => some (s.reached t).tick)) ∧
  (∀ (t : Nat) (image : Option (List Ent)) (s : State),
    (s.reached t).md ≠ Mode.configure ∨ (s.reached t).mode.restoreFailed = true → Idles (.dictionaryRestored t image) s t) ∧
  (∀ (t : Nat) (u : List Nat) (h : List (Nat × List Nat)) (k : List (Nat × Int)) (s : State),
    if (s.reached t).md = Mode.calibrate then
      Completes (.calibrationDone t u h k) s fun d =>
        d.md = (if (s.reached t).nat Od.lifeCycleState = 3 then Mode.test else Mode.warmup) ∧ d.nat Od.lastModeCause = 3
    else Idles (.calibrationDone t u h k) s t) ∧
  (∀ (t amplitude : Nat) (s : State), (s.reached t).md = Mode.warmup → (s.reached t).mode.ready = false →
    (s.reached t).cycleTaken = false → (∀ e ∈ (s.reached t).mode.queue, e.isRequest = true) →
    let e := ((s.reached t).putB Od.tsynLocked true).pinsAfter id
    e.nat Od.loState = 2 ∨ (e.nat Od.loState = 1 ∧ e.loCond amplitude = true) →
    Completes (.oscillatorReady t amplitude true) s fun d => d.nat Od.loState = 2 ∧
      ((s.reached t).on Od.pairEnable = false → d.md = Mode.acquire ∧ d.nat Od.lastModeCause = 4) ∧
      ((s.reached t).on Od.pairEnable = true → (s.reached t).pair.hello = none →
        d.md = Mode.warmup ∧ d.mode.ready = true ∧ d.nat Od.pairState = 1 ∧ d.pair.waiting = some (s.reached t).tick))

/-- In a cycle in which no row was taken, with no event but host requests waiting. WARMUP_TIMEOUT and ACQUIRE_TIMEOUT, once the
mode has lasted its timeout, take their rows (WarmupTimeout; FREERUN with EnteredFreerun), and before it change nothing.
PENDING_MODE_EVENT carries out the event that waits with the least priority number, here a lone host request, and with none
waiting changes nothing. The host's requests, accepted: PROCEED from CONFIGURE leads to CALIBRATE, ENTER_TEST from CONFIGURE, and
where TestFromService is armed from a service mode, to TEST with TestEntered, LEAVE_TEST from TEST to CALIBRATE, LEAVE_SAFE from
SAFE to the mode of R31, with a pair enabled to RESYNC; ModeRequestResult reads 0. Requests no row accepts read REFUSED_MODE (2),
ENTER_TEST not armed REFUSED_NOT_ARMED (3), those to a mode Table 1-8 does not allow the life-cycle state REFUSED_LIFECYCLE (4), and
leave the mode. -/
def Obligations.ModeRequestRows : Prop :=
  (∀ (t : Nat) (s : State), (s.reached t).md = Mode.warmup → (s.reached t).mode.ready = false →
    (s.reached t).modeLasted ((s.reached t).nat Od.warmupTimeout) = true → (s.reached t).cycleTaken = false →
    (∀ e ∈ (s.reached t).mode.queue, e.isRequest = true) →
    Completes (.warmupTimeout t) s fun d =>
      d.md = Mode.warmup ∧ d.bit Od.modeSticky Bit.modeSticky_WarmupTimeout = true ∧ d.nat Od.lastModeCause = 4 ∧
      d.scales = (s.reached t).scales ∧ ∃ r, d.flt.queue = (s.reached t).flt.queue ++ [r] ∧ r.src = 2) ∧
  (∀ (t : Nat) (s : State), (s.reached t).md = Mode.acquire → (s.reached t).selected = none →
    (s.reached t).modeLasted ((s.reached t).nat Od.acquireTimeout) = true → (s.reached t).cycleTaken = false →
    (∀ e ∈ (s.reached t).mode.queue, e.isRequest = true) →
    Completes (.acquireTimeout t) s fun d =>
      d.md = Mode.freerun ∧ d.bit Od.modeSticky Bit.modeSticky_EnteredFreerun = true ∧ d.nat Od.lastModeCause = 6) ∧
  (∀ (t : Nat) (s : State),
    ((s.reached t).md ≠ Mode.warmup ∨ (s.reached t).modeLasted ((s.reached t).nat Od.warmupTimeout) = false →
      Idles (.warmupTimeout t) s t) ∧
    ((s.reached t).md ≠ Mode.acquire ∨ (s.reached t).modeLasted ((s.reached t).nat Od.acquireTimeout) = false →
      Idles (.acquireTimeout t) s t) ∧
    ((s.reached t).mode.queue = [] → Idles (.pendingModeEvent t) s t)) ∧
  (∀ (t arm : Nat) (s : State), (s.reached t).md = Mode.configure → (s.reached t).mode.queue = [.request 1 arm] →
    (s.reached t).nat Od.lifeCycleState ≠ 4 →
    (s.reached t).cycleTaken = false →
    Completes (.pendingModeEvent t) s fun d =>
      d.md = Mode.calibrate ∧ d.mode.queue = [] ∧ d.nat Od.modeRequestResult = 0) ∧
  (∀ (t : Nat) (q : Req) (s : State), (s.reached t).cycleTaken = false →
    (∀ e ∈ (s.reached t).mode.queue, e.isRequest = true) →
    let m := (s.reached t).md
    (Accepted (s.reached t) q Od.modeRequest 1 → Completes (.modeRequestProceed t q) s fun d =>
      if m = Mode.configure then
        if (s.reached t).nat Od.lifeCycleState = 4 then d.md = m ∧ d.nat Od.modeRequestResult = 4
        else d.md = Mode.calibrate ∧ d.nat Od.modeRequestResult = 0
      else d.md = m ∧ d.nat Od.modeRequestResult = 2) ∧
    (Accepted (s.reached t) q Od.modeRequest 2 → Completes (.modeRequestEnterTest t q) s fun d =>
      if m = Mode.configure ∨ (m ∈ serviceModes ∧ (s.reached t).bit Od.modeArm Bit.modeArm_TestFromService = true) then
        if (s.reached t).nat Od.lifeCycleState = 4 then d.md = m ∧ d.nat Od.modeRequestResult = 4
        else d.md = Mode.test ∧ d.nat Od.modeRequestResult = 0 ∧ d.bit Od.modeSticky Bit.modeSticky_TestEntered = true
      else d.md = m ∧ d.nat Od.modeRequestResult = if m ∈ serviceModes then 3 else 2) ∧
    (Accepted (s.reached t) q Od.modeRequest 3 → Completes (.modeRequestLeaveTest t q) s fun d =>
      if m = Mode.test then
        if (s.reached t).nat Od.lifeCycleState = 4 then d.md = m ∧ d.nat Od.modeRequestResult = 4
        else d.md = Mode.calibrate ∧ d.nat Od.modeRequestResult = 0
      else d.md = m ∧ d.nat Od.modeRequestResult = 2) ∧
    (Accepted (s.reached t) q Od.modeRequest 4 → Completes (.modeRequestLeaveSafe t q) s fun d =>
      if m = Mode.safe ∧ (s.reached t).nat Od.girthLevel ≠ 4 then
        if (s.reached t).nat Od.lifeCycleState = 3 ∨ (s.reached t).nat Od.lifeCycleState = 4 then d.md = m ∧ d.nat Od.modeRequestResult = 4
        else d.nat Od.modeRequestResult = 0 ∧
        if (s.reached t).on Od.pairEnable then d.md = Mode.resync ∧ d.nat Od.pairRole = 2 ∧ d.nat Od.lastModeCause = 12
        else d.md = (s.reached t).safeExit ∧ d.nat Od.lastModeCause = 10
      else d.md = m ∧ d.nat Od.modeRequestResult = 2))

/-- OBJECT_WRITE of any object, key and value by any requester, outside OFF and with nothing else falling due. A key that names no
object answers NO_OBJECT; one that is not writable ACCESS_MODE; a requester below the object's write level ACCESS_DENIED, whatever
the value. Whatever check fails, the status is put out and no object changes but the notes of a refusal (LeapRefused,
ModeRequestResult, KeyOpStatus). In OFF no write is taken and none is answered. -/
def Obligations.WriteAnswersInOrder : Prop :=
  ∀ (t : Nat) (q : Req) (k : Nat) (v : Int) (s : State), NothingDue (s.reached t) →
    let st := (s.reached t).writeStatus q k v
    (Dict.row? k = none → st = .noObject) ∧
    (∀ r, Dict.row? k = some r → r.wr = none → st = .accessMode) ∧
    (∀ r l, Dict.row? k = some r → r.wr = some l → (s.reached t).levelOf q < l → st = .accessDenied) ∧
    if (s.reached t).nat Od.powerState = 4 then Idles (.objectWrite t q k v) s t
    else st ≠ .ok → Completes (.objectWrite t q k v) s fun d =>
      .written st.code 0 ∈ d.out ∧ OnlyChanges (s.reached t) d [Od.utcSticky, Od.modeRequestResult, Od.keyOpStatus] []

/-- OBJECT_WRITE of an object that only holds its value, the write being accepted and nothing else falling due: the object reads
the value, the answer is OK with TS_0 as EffectiveTime, and nothing else changes but what an entry into the pair's input log
changes, where the engine leads a pair. -/
def Obligations.ObjectWritten : Prop :=
  ∀ (t : Nat) (q : Req) (k : Nat) (v : Int) (s : State), NothingDue (s.reached t) → PlainObject k v →
    Accepted (s.reached t) q k v →
    Completes (.objectWrite t q k v) s fun d =>
      d.num k = v ∧ .written 0 (s.reached t).now0 ∈ d.out ∧ OnlyChanges (s.reached t) d (k :: logObjects) [.pair, .pmc]

/-- OAP_DATAGRAM_DROPPED counts in MalformedDatagrams and does nothing else. OAP_HELLO on an enabled port, for a level whose
pre-shared key is in place and usable, under SessionMax and HelloRateLimit, outside KEEP and OFF, opens one session and answers;
where the level, the port, a limit or the key stands against it, it counts in HelloDropped, a key also in KeyUseDenied, and opens
none; in KEEP and OFF it does nothing.
OAP_CLOSE accepted on a session ends it, and on no session changes nothing; SESSION_IDLE ends, with CLOSE of reason 1, a session
that no accepted datagram has reached for SessionIdle, and else changes nothing; both show in SessionsOpen. -/
def Obligations.SessionsOpenAndClose : Prop :=
  (∀ (t : Nat) (w : DropWhy) (s : State), Completes (.oapDatagramDropped t w) s fun d =>
    d.nat Od.malformedDatagrams = ((s.reached t).nat Od.malformedDatagrams + 1) % 2 ^ 32 ∧ d.out = (s.reached t).out ∧
    OnlyChanges (s.reached t) d [Od.malformedDatagrams] []) ∧
  (∀ (t port level nonce : Nat) (s : State), port < 18 →
    let e := s.reached t
    let made := if e.acc.helloSec = (e.tsNow 0 / second).toNat then e.acc.helloCount else 0
    if 3 ≤ e.nat Od.powerState ∧ e.nat Od.powerState ≤ 4 then Idles (.oapHello t port level nonce) s t
    else if 5 ≤ level ∨ e.nat Od.sessionMax ≤ e.acc.sessions.length ∨ e.nat Od.helloRateLimit ≤ made ∨
        e.oapPort port = false then
      Completes (.oapHello t port level nonce) s fun d =>
        d.nat Od.helloDropped = (e.nat Od.helloDropped + 1) % 2 ^ 32 ∧ OnlyChanges e d [Od.helloDropped] []
    else if ¬KeyServes e (level + 1) 1 [3] then Completes (.oapHello t port level nonce) s fun d =>
      d.nat Od.helloDropped = (e.nat Od.helloDropped + 1) % 2 ^ 32 ∧
      d.nat Od.keyUseDenied = (e.nat Od.keyUseDenied + 1) % 2 ^ 32 ∧
      OnlyChanges e d [Od.helloDropped, Od.keyUseDenied, Od.keySticky] [.flt]
    else Completes (.oapHello t port level nonce) s fun d =>
      (∃ x, d.acc.sessions = e.acc.sessions ++ [x] ∧ x.level = level ∧ x.port = port ∧ x.clientNonce = nonce ∧
        .helloAck x.sid x.engineNonce x.helloAck ∈ d.out) ∧
      d.acc.helloCount = made + 1 ∧ d.nat Od.sessionsOpen = e.acc.sessions.length + 1 ∧
      OnlyChanges e d [Od.sessionsOpen, Od.slotsUsed] [.acc, .keys]) ∧
  (∀ (t : Nat) (dg : Dg) (s : State),
    ((s.reached t).acc.sessions.find? (·.sid == dg.sid) = none → Idles (.oapClose t dg) s t) ∧
    (((s.reached t).takeDg dg).1 = true →
      Completes (.oapClose t dg) s fun d =>
        (∀ x ∈ d.acc.sessions, x.sid ≠ dg.sid) ∧ d.nat Od.sessionsOpen = d.acc.sessions.length ∧
        (∀ x ∈ d.acc.subs, x.owner ≠ .oap dg.sid))) ∧
  (∀ (t sid : Nat) (s : State),
    if ∃ x ∈ (s.reached t).acc.sessions,
        x.sid = sid ∧ (s.reached t).nat Od.sessionIdle * ticksPerSec ≤ (s.reached t).tick - x.last then
      Completes (.sessionIdle t sid) s fun d =>
        (∀ x ∈ d.acc.sessions, x.sid ≠ sid) ∧ d.nat Od.sessionsOpen = d.acc.sessions.length ∧
        d.nat Od.sessionsClosed = ((s.reached t).nat Od.sessionsClosed + 1) % 2 ^ 32 ∧ ∃ w, .close sid 1 w ∈ d.out
    else Idles (.sessionIdle t sid) s t)

/-- A request taken on an open session. READ of a readable object answers OK with type, length and value; READ_BLOCK of one such
object the same with its status. WRITE and WRITE_BLOCK of one plain object, accepted, with nothing else falling due, leave the
object at the value the entry carries and answer OK with TS_0; nothing else changes but what an entry into the pair's input log
changes. A WRITE that a check refuses answers its status and changes no object but the notes of a refusal. -/
def Obligations.SessionReadsAndWrites : Prop :=
  (∀ (t : Nat) (dg : Dg) (a b k : Nat) (s : State) (e : Dev) (r : ObjRow), Taken (s.reached t) dg e →
    k < 16777216 → e.readStatus (.oap dg.sid) k = .ok → Dict.row? k = some r →
    8 + (r.typ.enc (e.readObj (.oap dg.sid) k).1).length ≤ 1440 →
    Completes (.oapRead t dg ([0, BitVec.ofNat 8 a, BitVec.ofNat 8 b] ++ beBytes 3 k ++ [0])) s fun d =>
      ∃ n w, .response dg.sid n ([0x81, 0, BitVec.ofNat 8 a, BitVec.ofNat 8 b] ++ beBytes 1 r.typ.wire ++ [0] ++
        beBytes 2 (r.typ.enc (e.readObj (.oap dg.sid) k).1).length ++ r.typ.enc (e.readObj (.oap dg.sid) k).1) w ∈ d.out) ∧
  (∀ (t : Nat) (dg : Dg) (a b k : Nat) (s : State) (e : Dev) (r : ObjRow), Taken (s.reached t) dg e →
    k < 16777216 → e.readStatus (.oap dg.sid) k = .ok → Dict.row? k = some r →
    10 + (r.typ.enc (e.readObj (.oap dg.sid) k).1).length ≤ 1440 →
    Completes (.oapReadBlock t dg ([0, BitVec.ofNat 8 a, BitVec.ofNat 8 b, 1, 0] ++ beBytes 3 k ++ [0])) s fun d =>
      ∃ n w, .response dg.sid n ([0x83, 0, BitVec.ofNat 8 a, BitVec.ofNat 8 b, 1, 0, 0] ++ beBytes 1 r.typ.wire ++
        beBytes 2 (r.typ.enc (e.readObj (.oap dg.sid) k).1).length ++ r.typ.enc (e.readObj (.oap dg.sid) k).1) w ∈ d.out) ∧
  (∀ (t : Nat) (dg : Dg) (body : List Byte) (s : State) (e : Dev) (a : Ask) (v : Int), Taken (s.reached t) dg e →
    3 ≤ body.length → fld body 0 1 = 0 → parseAsks 1 (body.drop 3) = some [a] → a.value? = some v →
    let st := e.askStatus (e.wrOf (.oap dg.sid) (e.levelOf (.oap dg.sid)) [(a.key, v)]) 0 a
    NothingDue (s.reached t) →
    (st = .ok → PlainObject a.key v → Completes (.oapWrite t dg body) s fun d =>
      d.num a.key = v ∧
      (∃ n w, .response dg.sid n ([0x82, 0] ++ beBytes 2 (fld body 1 2) ++ beBytes 16 (s.reached t).now0) w ∈ d.out) ∧
      OnlyChanges (s.reached t) d (a.key :: logObjects) [.acc, .pair, .pmc]) ∧
    (st ≠ .ok → Completes (.oapWrite t dg body) s fun d =>
      (∃ n w, .response dg.sid n ([0x82] ++ beBytes 1 st.code ++ beBytes 2 (fld body 1 2)) w ∈ d.out) ∧
      OnlyChanges (s.reached t) d [Od.utcSticky, Od.modeRequestResult, Od.keyOpStatus] [.acc])) ∧
  (∀ (t : Nat) (dg : Dg) (body : List Byte) (s : State) (e : Dev) (a : Ask) (v : Int), Taken (s.reached t) dg e →
    3 ≤ body.length → fld body 0 1 = 0 → blockAsks (body.drop 3) = .inr [a] → a.value? = some v →
    e.askStatus (e.wrOf (.oap dg.sid) (e.levelOf (.oap dg.sid)) [(a.key, v)]) 0 a = .ok →
    NothingDue (s.reached t) → PlainObject a.key v →
    Completes (.oapWriteBlock t dg body) s fun d =>
      d.num a.key = v ∧
      (∃ n w, .response dg.sid n ([0x84, 0] ++ beBytes 2 (fld body 1 2) ++ beBytes 16 (s.reached t).now0 ++ [0xFF, 0, 0, 0])
        w ∈ d.out) ∧
      OnlyChanges (s.reached t) d (a.key :: logObjects) [.acc, .pair, .pmc])

/-- On an open session, the dictionary in reach. STAGE of one good entry into an empty set makes the session its owner, StageState
reads OPEN and the set holds the entry. COMMIT at once, by the owner, of a set of one plain object without rules of its own that
passes the checks, leaves the object at the staged value, the set empty and StageState EMPTY. COMMIT at an instant between
CommitMinLead and CommitMaxAhead from now makes StageState SCHEDULED, StageAt the instant, and opens a PENDING record of kind
COMMIT; on the tick on which TS_0 reaches the instant the values are written and the set is empty. ABORT by the owner empties an
OPEN set and writes none of its values. -/
def Obligations.StagedSets : Prop :=
  (∀ (t : Nat) (dg : Dg) (body : List Byte) (s : State) (e : Dev) (a : Ask) (v : Int) (r : ObjRow),
    Taken (s.reached t) dg e → 3 ≤ body.length → fld body 0 1 = 0 → blockAsks (body.drop 3) = .inr [a] →
    Dict.row? a.key = some r → a.value? = some v → a.status (e.levelOf (.oap dg.sid)) = .ok →
    r.typ.lenOf v ≤ 65536 → (s.reached t).nat Od.powerState ≤ 2 →
    (s.reached t).nat Od.stageState = 0 → (s.reached t).acc.stageOwner = none → (s.reached t).acc.staged = [] →
    Completes (.oapStage t dg body) s fun d =>
      d.acc.staged = [{ key := a.key, val := v, len := r.typ.lenOf v }] ∧ d.acc.stageOwner = some (.oap dg.sid) ∧
      d.nat Od.stageState = 1 ∧ d.nat Od.stageEntries = 1 ∧ d.nat Od.stageSession = dg.sid ∧
      OnlyChanges (s.reached t) d ([Od.stageState, Od.stageEntries, Od.stageSession, Od.stageBytes] ++ logObjects)
        [.acc, .pair, .pmc]) ∧
  (∀ (t a b : Nat) (dg : Dg) (at' : List Byte) (s : State) (e : Dev) (x : Staged) (r : ObjRow), Taken (s.reached t) dg e →
    at'.length = 16 → (s.reached t).nat Od.powerState ≤ 2 → (s.reached t).nat Od.stageState = 1 →
    (s.reached t).acc.stageOwner = some (.oap dg.sid) → (s.reached t).acc.staged = [x] →
    (s.reached t).journalFree = true → Dict.row? x.key = some r →
    (∀ (d : Dev) (w : Wr), d.chapterCheck w true x.key x.val = .ok) → r.typ.fits x.val = true →
    ({ key := x.key, typ := r.typ.wire, bytes := r.typ.enc x.val : Ask }).status (s.reached t).acc.stageLevel = .ok →
    (s.reached t).stateStatus (.oap dg.sid) x.key = .ok →
    NothingDue (s.reached t) → PlainObject x.key x.val →
    Completes (.oapCommit t dg ([0, BitVec.ofNat 8 a, BitVec.ofNat 8 b, 0, 0, 0, 0] ++ at')) s fun d =>
      d.num x.key = x.val ∧ d.acc.staged = [] ∧ d.acc.stageOwner = none ∧ d.nat Od.stageState = 0 ∧
      (∃ r ∈ d.acc.journal, r.id = (s.reached t).nat Od.journalNextOpId ∧ r.kind = 1 ∧ r.outcome = 2 ∧ r.done = 3)) ∧
  (∀ (t a b : Nat) (dg : Dg) (at' : List Byte) (s : State) (e : Dev), Taken (s.reached t) dg e →
    at'.length = 16 → tsNs (beNat at') < 1000000000 → (s.reached t).nat Od.powerState ≤ 2 →
    (s.reached t).nat Od.stageState = 1 → (s.reached t).acc.stageOwner = some (.oap dg.sid) →
    (s.reached t).journalFree = true → (s.reached t).running 0 = true → (s.reached t).freeEntry 4096 ≠ none →
    (s.reached t).tsNow 0 + ((s.reached t).nat Od.commitMinLead * 1000 * 2 ^ 32 : Nat) ≤ tsTime (beNat at') →
    tsTime (beNat at') ≤ (s.reached t).tsNow 0 + (s.reached t).nat Od.commitMaxAhead * second →
    NothingDue (s.reached t) → (s.reached t).tsNow 0 < tsTime (beNat at') →
    Completes (.oapCommit t dg ([0, BitVec.ofNat 8 a, BitVec.ofNat 8 b, 1, 0, 0, 0] ++ at')) s fun d =>
      d.nat Od.stageState = 2 ∧ d.nat Od.stageAt = beNat at' ∧ d.acc.staged = (s.reached t).acc.staged ∧
      (∃ r ∈ d.acc.journal, r.id = d.nat Od.stageOpId ∧ r.kind = 1 ∧ r.outcome = 1)) ∧
  (∀ (t k : Nat) (q : Req) (s : State) (x : Staged) (r : ObjRow), s.dev.commitTick = some k → s.dev.dueTicks t = [k] →
    s.dev.acc.stageOwner = some q → s.dev.acc.staged = [x] → Dict.row? x.key = some r →
    (∀ (d : Dev) (w : Wr), d.chapterCheck w true x.key x.val = .ok) → r.typ.fits x.val = true →
    ({ key := x.key, typ := r.typ.wire, bytes := r.typ.enc x.val : Ask }).status s.dev.acc.stageLevel = .ok →
    s.dev.stateStatus q x.key = .ok → PlainObject x.key x.val →
    (s.reached t).num x.key = x.val ∧ (s.reached t).acc.staged = [] ∧ (s.reached t).nat Od.stageState = 0) ∧
  (∀ (t a b : Nat) (dg : Dg) (s : State) (e : Dev), Taken (s.reached t) dg e → (s.reached t).nat Od.powerState ≤ 2 →
    (s.reached t).nat Od.stageState = 1 → (s.reached t).acc.stageOwner = some (.oap dg.sid) →
    Completes (.oapAbort t dg [0, BitVec.ofNat 8 a, BitVec.ofNat 8 b, 0, 0, 0, 0]) s fun d =>
      d.acc.staged = [] ∧ d.acc.stageOwner = none ∧ d.nat Od.stageState = 0 ∧ d.nat Od.stageEntries = 0 ∧
      (∀ k, k / 65536 ≠ 0x1F → k ∉ logObjects → k ≠ Od.schedEntriesUsed → d.num k = (s.reached t).num k))

/-- SUBSCRIBE on an open session of a readable object, with a trigger and a period in range and the limits not reached, adds one
subscription with what was asked. NOTIFY_ON_CHANGE of a host SPI subscription, with a value other than the one last sent or one
that has changed and returned, and 10 ms past, and NOTIFY_PERIODIC of one whose instant on TS_0 has come, send one notification:
NotifySeq is one further, the value sent is kept, and it waits for the host. Without such a subscription they change nothing. -/
def Obligations.Subscriptions : Prop :=
  (∀ (t a b k trigger period : Nat) (dg : Dg) (s : State) (e : Dev), Taken (s.reached t) dg e → k < 16777216 →
    (trigger = 1 ∧ period < 2 ^ 32 ∨ trigger = 2 ∧ 10 ≤ period ∧ period ≤ 3600000) → e.readStatus (.oap dg.sid) k = .ok →
    (s.reached t).acc.subs.length < 256 → (s.reached t).acc.subs.countP (·.owner == .oap dg.sid) < 32 →
    Completes (.oapSubscribe t dg ([0, BitVec.ofNat 8 a, BitVec.ofNat 8 b] ++ beBytes 3 k ++ beBytes 1 trigger ++
        beBytes 4 period)) s fun d =>
      ∃ x, d.acc.subs = (s.reached t).acc.subs ++ [x] ∧ x.key = k ∧ x.trigger = trigger ∧ x.period = period ∧
        x.owner = .oap dg.sid ∧ x.last = (e.readObj (.oap dg.sid) k).1) ∧
  (∀ (t n : Nat) (s : State),
    ((s.reached t).acc.subs.find? (fun y => y.id == n && y.trigger == 1) = none → Idles (.notifyOnChange t n) s t) ∧
    ((s.reached t).acc.subs.find? (fun y => y.id == n && y.trigger == 2) = none → Idles (.notifyPeriodic t n) s t)) ∧
  (∀ (t n : Nat) (s : State) (x : Sub) (r : ObjRow),
    (s.reached t).acc.subs.find? (fun y => y.id == n && y.trigger == 1) = some x → x.owner = .spi →
    (∀ k, x.sent = some k → 10 * ticksPerMs ≤ (s.reached t).tick - k) →
    let v := ((s.reached t).readObj .spi x.key).1
    v ≠ x.last ∨ (s.reached t).changed n = true →
    ((s.reached t).readObj .spi x.key).2.readStatus .spi x.key = .ok → Dict.row? x.key = some r →
    (s.reached t).acc.notes.length < 64 →
    Completes (.notifyOnChange t n) s fun d =>
      (∃ body, d.acc.notes = (s.reached t).acc.notes ++ [body]) ∧
      (∃ y ∈ d.acc.subs, y.id = x.id ∧ y.seq = (x.seq + 1) % 2 ^ 32 ∧ y.last = v ∧ y.sent = some (s.reached t).tick) ∧
      OnlyChanges (s.reached t) d logObjects [.acc, .pmc]) ∧
  (∀ (t n : Nat) (s : State) (x : Sub) (r : ObjRow),
    (s.reached t).acc.subs.find? (fun y => y.id == n && y.trigger == 2) = some x → x.owner = .spi →
    (s.reached t).running 0 = true → x.due ≤ (s.reached t).tsNow 0 → (s.reached t).readStatus .spi x.key = .ok →
    Dict.row? x.key = some r → (s.reached t).acc.notes.length < 64 →
    Completes (.notifyPeriodic t n) s fun d =>
      (∃ body, d.acc.notes = (s.reached t).acc.notes ++ [body]) ∧
      (∃ y ∈ d.acc.subs, y.id = x.id ∧ y.seq = (x.seq + 1) % 2 ^ 32 ∧ y.last = ((s.reached t).readObj .spi x.key).1 ∧
        (s.reached t).tsNow 0 < y.due) ∧
      OnlyChanges (s.reached t) d logObjects [.acc, .pmc])

/-- Outside OFF and the loader: HSPI_REQ with a good CRC and no response waiting, of a request that writes no object at once, leaves
its response waiting; a REQ while one waits sets OVERRUN and does nothing else; one whose CRC fails, or whose length is not that of
its Length field (the model's choice, log entry 75), counts in HspiCrcErrors and sets CRC_ERROR; nothing else falls due. HSPI_POLL
answers the status and the length of what waits and changes nothing. HSPI_FETCH hands out the response, or else the oldest
notification, and takes it away. In OFF none of them is answered, in the loader no REQ. PSK_WRITE, accepted, fills slot level + 1 with a key of type 3, a
value of 0 empties it, and the sessions of the level are closed. -/
def Obligations.HostSpi : Prop :=
  (∀ (t : Nat) (bs : List Byte) (s : State), (s.reached t).nat Od.powerState ≠ 4 → (s.reached t).mode.loader = false →
    NothingDue (s.reached t) →
    if (s.reached t).acc.rsp ≠ none then Completes (.hspiReq t bs) s fun d =>
      d.acc.overrun = true ∧ d.acc.rsp = (s.reached t).acc.rsp ∧ OnlyChanges (s.reached t) d [] [.acc]
    else if bs.length ≠ fld bs 0 2 + 4 ∨ crc16 (bs.take (fld bs 0 2 + 2)) ≠ fld bs (fld bs 0 2 + 2) 2 then
      Completes (.hspiReq t bs) s fun d => d.acc.crcError = true ∧ d.acc.rsp = none ∧
        d.nat Od.hspiCrcErrors = ((s.reached t).nat Od.hspiCrcErrors + 1) % 2 ^ 32 ∧
        OnlyChanges (s.reached t) d [Od.hspiCrcErrors] [.acc]
    else
      let body := (bs.drop 2).take (fld bs 0 2)
      let op := fld body 0 1
      let e := (s.reached t).modAcc fun a => { a with crcError := false, overrun := false }
      op ∉ [2, 4, 6] → Completes (.hspiReq t bs) s fun d =>
        d.acc.rsp = some (responseBody op (body.drop 1) (e.request .spi op (body.drop 1)).1) ∧
        d.acc.crcError = false ∧ d.acc.overrun = false) ∧
  (∀ (t : Nat) (bs : List Byte) (s : State), (s.reached t).nat Od.powerState = 4 → NothingDue (s.reached t) →
    Idles (.hspiReq t bs) s t ∧ Idles (.hspiPoll t) s t ∧ Idles (.hspiFetch t) s t) ∧
  (∀ (t : Nat) (bs : List Byte) (s : State), (s.reached t).mode.loader = true → NothingDue (s.reached t) →
    Idles (.hspiReq t bs) s t) ∧
  (∀ (t : Nat) (s : State), (s.reached t).nat Od.powerState ≠ 4 →
    Completes (.hspiPoll t) s fun d =>
      (∃ n, d.out = (s.reached t).out ++ [.spi (beBytes 1 (s.reached t).spiStatus ++ beBytes 2 n)] ∧
        (∀ r, (s.reached t).acc.rsp = some r → n = r.length)) ∧ OnlyChanges (s.reached t) d [] []) ∧
  (∀ (t : Nat) (s : State), (s.reached t).nat Od.powerState ≠ 4 →
    Completes (.hspiFetch t) s fun d => d.acc.rsp = none ∧ OnlyChanges (s.reached t) d [] [.acc] ∧
      (∀ r, (s.reached t).acc.rsp = some r → d.acc.notes = (s.reached t).acc.notes ∧
        d.out = (s.reached t).out ++ [.spi (beBytes 1 0x11 ++ beBytes 2 r.length ++ r ++
          beBytes 2 (crc16 (beBytes 1 0x11 ++ beBytes 2 r.length ++ r)))]) ∧
      ((s.reached t).acc.rsp = none → d.acc.notes = (s.reached t).acc.notes.drop 1)) ∧
  (∀ (t level : Nat) (q : Req) (v : Int) (s : State), level < 5 → Accepted (s.reached t) q (Od.pskL0 + level) v →
    Completes (.pskWrite t q level v) s fun d =>
      (if v = 0 then (d.slot (level + 1)).typ = 0
       else (d.slot (level + 1)).typ = 3 ∧ (d.slot (level + 1)).key = v.toNat) ∧
      (∀ x ∈ d.acc.sessions, x.level ≠ level) ∧ ∀ n, n ≠ level + 1 → d.slot n = (s.reached t).slot n)

/-- JOURNAL_QUERY, accepted: JournalQueryId reads the ID for that requester, and 1F81:02 to 1F81:0C read the record of that ID
for it; for every other requester all of them are as they were. Where the journal holds no record of the ID, JqOutcome reads
NOT_FOUND (0xFF). No other object and no part but what is held per requester changes, and the journal stays as it was. -/
def Obligations.JournalQueried : Prop :=
  ∀ (t id : Nat) (q : Req) (s : State), Accepted (s.reached t) q Od.journalQueryId id →
    Completes (.journalQuery t q id) s fun d =>
      d.mine q Od.journalQueryId = id ∧
      (∀ r, (s.reached t).acc.journal.find? (·.id == id) = some r →
        d.mine q Od.jqKind = r.kind ∧ d.mine q Od.jqOutcome = r.outcome ∧ d.mine q Od.jqStepsTotal = r.total ∧
        d.mine q Od.jqStepsDone = r.done ∧ d.mine q Od.jqLastStep = r.lastStep ∧ d.mine q Od.jqStartTime = r.start ∧
        d.mine q Od.jqLastTime = r.last ∧ d.mine q Od.jqOrigin = r.origin ∧ d.mine q Od.jqRestartOf = r.restartOf ∧
        d.mine q Od.jqDetail = r.detail ∧ d.mine q Od.jqFlags = r.flags) ∧
      ((s.reached t).acc.journal.find? (·.id == id) = none → d.mine q Od.jqOutcome = 0xFF) ∧
      (∀ q' k, q' ≠ q → k < 16777216 → d.mine q' k = (s.reached t).mine q' k) ∧
      d.acc.journal = (s.reached t).acc.journal ∧ OnlyChanges (s.reached t) d [] [.acc]

/-- SERVO_UPDATE while TS_0 runs and nothing waits for it to reach an instant: this update is the latest one (what SRV_STALL measures
from), TempOnChip and LoMeasuredOffset read what was measured. While TS_0 is stopped no loop is updated and nothing changes. -/
def Obligations.ServoUpdates : Prop :=
  ∀ (t : Nat) (temp lo : Int) (s : State),
    if (s.reached t).running 0 then NothingWaits (s.reached t) →
      Completes (.servoUpdate t temp lo) s fun d =>
        d.flt.lastUpdate = (s.reached t).tick ∧ d.num Od.tempOnChip = temp ∧ d.num Od.loMeasuredOffset = lo
    else Idles (.servoUpdate t temp lo) s t

/-- Accepted writes. IncOwnerRequest 1 makes SOFTWARE the owner of TS_n's INC and 0 gives it back to the owner Tables 3-1 and 3-3
name; neither moves a scale. FreqSteer and IncWrite (with IncWriteFrac) give the INC, FreqSteer reads it as steering, and FreqNow
and INC keep a slew in progress on top; the scale does not jump. PhaseAdjust adds to what is left of the slew and changes nothing
else. TimeSet, with nothing of TS_0's waiting, leaves TimeOrigin HOST with HostTimeSet and no slew, and the scale at the written
value on this tick; where it is a step it counts in StepCount with Stepped. -/
def Obligations.SteeringBySoftware : Prop :=
  (∀ (t n : Nat) (q : Req) (s : State), n < 8 → Accepted (s.reached t) q (Od.incOwnerRequest n) 1 →
    Completes (.incOwnerTake t q n) s fun d =>
      d.nat (Od.incOwner n) = 1 ∧ ∀ m, (d.scale m).marks = ((s.reached t).scale m).marks) ∧
  (∀ (t n : Nat) (q : Req) (s : State), n < 8 → Accepted (s.reached t) q (Od.incOwnerRequest n) 0 →
    Completes (.incOwnerRelease t q n) s fun d =>
      d.nat (Od.incOwner n) = (s.reached t).ownerByTable n ∧ ∀ m, (d.scale m).marks = ((s.reached t).scale m).marks) ∧
  (∀ (t n : Nat) (q : Req) (v : Int) (s : State), n < 8 → Accepted (s.reached t) q (Od.freqSteer n) v →
    Completes (.freqSteerWrite t q n v) s fun d =>
      let inc := ((incOf v : Int) + ((s.reached t).scale n).slewInc).toNat
      d.num (Od.freqSteer n) = v ∧
      d.num (Od.freqNow n) = v + ((s.reached t).num (Od.freqNow n) - (s.reached t).num (Od.freqSteer n)) ∧
      d.nat (Od.incNow n) = inc / 2 ^ 24 ∧ d.nat (Od.incNowFrac n) = inc % 2 ^ 24 ∧
      ((s.reached t).running n = true → (s.reached t).val72 n ≠ 0 → d.inc n = inc ∧ d.val72 n = (s.reached t).val72 n)) ∧
  (∀ (t n : Nat) (q : Req) (v : Int) (s : State), n < 8 → Accepted (s.reached t) q (Od.incWrite n) v →
    Completes (.incWrite t q n v) s fun d =>
      let own := incFrom v.toNat ((s.reached t).nat (Od.incWriteFrac n))
      let inc := ((own : Int) + ((s.reached t).scale n).slewInc).toNat
      d.num (Od.freqSteer n) = steerOf own ∧
      d.num (Od.freqNow n) =
        d.num (Od.freqSteer n) + ((s.reached t).num (Od.freqNow n) - (s.reached t).num (Od.freqSteer n)) ∧
      d.nat (Od.incNow n) = inc / 2 ^ 24 ∧ d.nat (Od.incNowFrac n) = inc % 2 ^ 24 ∧
      ((s.reached t).running n = true → (s.reached t).val72 n ≠ 0 → d.inc n = inc ∧ d.val72 n = (s.reached t).val72 n)) ∧
  (∀ (t n : Nat) (q : Req) (v : Int) (s : State), n < 8 → Accepted (s.reached t) q (Od.phaseAdjust n) v →
    Completes (.phaseAdjustWrite t q n v) s fun d =>
      d.scale n = { (s.reached t).scale n with slew := ((s.reached t).scale n).slew + 125 * v } ∧
      d.num (Od.slewRemaining n) = rdiv (d.scale n).slew 125 ∧ (∀ m, m ≠ n → d.scale m = (s.reached t).scale m) ∧
      OnlyChanges (s.reached t) d (Od.slewRemaining n :: logObjects) [.scales, .pair, .pmc]) ∧
  (∀ (t n : Nat) (q : Req) (v : Int) (s : State), n < 8 → Accepted (s.reached t) q (Od.timeSet n) v →
    NothingWaits (s.reached t) →
    Completes (.timeSet t q n v) s fun d =>
      d.num (Od.timeOrigin n) = 2 ∧ d.num (Od.slewRemaining n) = 0 ∧ (d.scale n).slew = 0 ∧
      d.bit (Od.tsSticky n) Bit.tsSticky_HostTimeSet = true ∧
      valAt (d.scale n).marks (s.reached t).tick = some (tsTime v.toNat * 2 ^ 40).toNat ∧
      ((s.reached t).timeSetStep n = true →
        d.nat (Od.stepCount n) = ((s.reached t).nat (Od.stepCount n) + 1) % 2 ^ 32 ∧
        d.bit (Od.tsSticky n) Bit.tsSticky_Stepped = true))

/-- TsSource, accepted, reads what was written. Of TS_1 to TS_7, while TS_0 runs and where it changes: DISABLED stops a running
scale, SOFTWARE starts a stopped one at the value of TS_0 with INC_nom, DERIVED starts one at the value of R120, and under REFERENCE
a stopped one waits; at TS_0 it changes nothing. The parameters of a scale that does not follow TS_0 read as written, those left out
as before; a new rate of one that does re-anchors it where it stands. DERIVED_REALIGN puts a scale that follows TS_0 at the value of
R120 on this tick, at the INC that follows TS_0's, and where it is within the tolerance changes nothing but the scale. -/
def Obligations.ScalesAndTheirSources : Prop :=
  (∀ (t n : Nat) (q : Req) (v : Int) (s : State), n < 8 → Accepted (s.reached t) q (Od.tsSource n) v →
    Completes (.tsSourceWrite t q n v) s fun d =>
      let e := s.reached t
      (n = 0 → v = 1 ∧ OnlyChanges e d logObjects [.pair, .pmc]) ∧
      (n ≠ 0 → d.nat (Od.tsSource n) = v.toNat) ∧
      (n ≠ 0 → e.running 0 = true → e.nat (Od.tsSource n) ≠ v.toNat →
        (v = 0 → e.running n = true → d.nat (Od.tsState n) = 0 ∧ (d.scale n).marks = []) ∧
        (v = 2 → e.running n = false → d.nat (Od.tsState n) = 1 ∧
          valAt (d.scale n).marks e.tick = some (e.derivedValue n (e.val72 0)) ∧
          incAt (d.scale n).marks e.tick = e.derivedInc n (e.inc 0)) ∧
        (v = 3 → e.running n = false → d.nat (Od.tsState n) = 0 ∧ (d.scale n).await = some e.tick) ∧
        (v = 4 → e.running n = false → d.nat (Od.tsState n) = 1 ∧
          valAt (d.scale n).marks e.tick = some (e.val72 0) ∧ incAt (d.scale n).marks e.tick = incNom))) ∧
  (∀ (t n : Nat) (q : Req) (rate anchor start : Option Int) (s : State), n < 8 → (s.reached t).follows n = false →
    AcceptedAll (s.reached t) q (given [(Od.derivedRate n, rate), (Od.derivedAnchor n, anchor),
      (Od.derivedStart n, start)]) →
    Completes (.derivedWrite t q n rate anchor start) s fun d =>
      d.num (Od.derivedRate n) = rate.getD ((s.reached t).num (Od.derivedRate n)) ∧
      d.nat (Od.derivedAnchor n) = (anchor.getD ((s.reached t).num (Od.derivedAnchor n))).toNat ∧
      d.nat (Od.derivedStart n) = (start.getD ((s.reached t).num (Od.derivedStart n))).toNat ∧
      d.scales = (s.reached t).scales) ∧
  (∀ (t n : Nat) (q : Req) (rate : Int) (s : State), n < 8 → (s.reached t).follows n = true →
    AcceptedAll (s.reached t) q [(Od.derivedRate n, rate)] → rate ≠ (s.reached t).num (Od.derivedRate n) →
    Completes (.derivedWrite t q n (some rate) none none) s fun d =>
      d.num (Od.derivedRate n) = rate ∧ d.nat (Od.derivedAnchor n) = (s.reached t).now0 ∧
      d.nat (Od.derivedStart n) = tsNum ((s.reached t).tsNow n) ∧ d.val72 n = (s.reached t).val72 n ∧
      d.bit (Od.tsSticky n) Bit.tsSticky_DerivedReanchored = true) ∧
  (∀ (t n : Nat) (s : State), n < 8 →
    let e := s.reached t
    let v := e.derivedValue n (e.val72 0)
    if n ∈ e.derivedScales then
      Completes (.derivedRealign t n) s fun d =>
        valAt (d.scale n).marks e.tick = some v ∧ incAt (d.scale n).marks e.tick = e.derivedInc n (e.inc 0) ∧
        (∀ m, m ≠ n → d.scale m = e.scale m) ∧
        (((v : Int) - e.val72 n).natAbs ≤ psTolerance →
          OnlyChanges e d [Od.incNow n, Od.incNowFrac n] [.scales])
    else Idles (.derivedRealign t n) s t)

/-- LEAP_PENDING_WRITE of one or both objects, accepted: they read as written, the other as before; a leap other than NONE has source
HOST, and sets LeapAnnounced where LeapPending is written; one taken back has source NONE and sets LeapCancelled. From LeapTime less
LeapFlagLead until LeapTime LEAP_FLAG_START finds the leap announced in what is served, before and after it none, and changes
nothing. LEAP_APPLIED at LeapTime adds +1 for INSERT or -1 for DELETE to UtcOffset, clears LeapPending, increments LeapsApplied and
sets LeapApplied, in whatever mode; before LeapTime, or with none pending, it changes nothing. -/
def Obligations.LeapSeconds : Prop :=
  (∀ (t : Nat) (q : Req) (pending time : Option Int) (s : State), (pending ≠ none ∨ time ≠ none) →
    AcceptedAll (s.reached t) q (given [(Od.leapPending, pending), (Od.leapTime, time)]) →
    Completes (.leapPendingWrite t q pending time) s fun d =>
      let p := (pending.getD ((s.reached t).num Od.leapPending)).toNat
      d.nat Od.leapPending = p ∧ d.num Od.leapTime = time.getD ((s.reached t).num Od.leapTime) ∧
      (p ≠ 0 → d.nat Od.leapSource = 1 ∧ (pending ≠ none → d.bit Od.utcSticky Bit.utcSticky_LeapAnnounced = true)) ∧
      (p = 0 → (s.reached t).nat Od.leapPending ≠ 0 →
        d.nat Od.leapSource = 0 ∧ d.bit Od.utcSticky Bit.utcSticky_LeapCancelled = true)) ∧
  (∀ (t : Nat) (s : State), Idles (.leapFlagStart t) s t ∧
    let e := s.reached t
    e.leapAt (e.tsNow 0) = if e.nat Od.leapPending ≠ 0 ∧
      tsTime (e.nat Od.leapTime) - e.num Od.leapFlagLead * second ≤ e.tsNow 0 ∧ e.tsNow 0 < tsTime (e.nat Od.leapTime)
      then e.nat Od.leapPending else 0) ∧
  (∀ (t : Nat) (s : State),
    let e := s.reached t
    if e.nat Od.leapPending ≠ 0 ∧ e.running 0 = true ∧ tsTime (e.nat Od.leapTime) ≤ e.tsNow 0 then
      Completes (.leapApplied t) s fun d =>
        (e.nat Od.leapPending = 1 → d.num Od.utcOffset = e.num Od.utcOffset + 1) ∧
        (e.nat Od.leapPending = 2 → d.num Od.utcOffset = e.num Od.utcOffset - 1) ∧
        d.nat Od.leapPending = 0 ∧ d.nat Od.leapsApplied = (e.nat Od.leapsApplied + 1) % 2 ^ 32 ∧
        d.bit Od.utcSticky Bit.utcSticky_LeapApplied = true ∧
        OnlyChanges e d [Od.utcOffset, Od.leapPending, Od.leapSource, Od.leapsApplied, Od.utcSticky] [.svc]
    else Idles (.leapApplied t) s t)

/-- RefEnable written 1, accepted, for a disabled reference takes it to MONITOR with QualifyTime loaded and MonitorEntered; 0 for
an enabled one to DISABLED with no condition live; the value it has changes nothing. SIGNAL_LOSS, due for an enabled reference and
not live yet, sets SignalLoss and starts the hold-off; else it changes nothing. HOLDOFF_ELAPSED and QUALIFY_TIME_ELAPSED of an
enabled reference, while the Cinch runs, take the first row that applies and change nothing else of the device but the fault
collector's queue and the alignment groups: with the loss older than HoldOff the reference goes to LOST, counted and reported; with
the timer done and nothing live, from MONITOR to QUALIFIED. SUSPECT_CLEAR_TIME_ELAPSED clears the conditions of a frequency that
has been below 0.4 of its tolerance for SuspectClearTime. -/
def Obligations.ReferencesEnabledAndLost : Prop :=
  (∀ (t n : Nat) (q : Req) (v : Int) (s : State), n < 16 → Accepted (s.reached t) q (Od.refEnable n) v →
    Completes (.refEnableWrite t q n v) s fun d =>
      d.num (Od.refEnable n) = v ∧
      ((s.reached t).on (Od.refEnable n) = false → v = 1 →
        d.nat (Od.refState n) = 1 ∧ d.bit (Od.refSticky n) Bit.refSticky_MonitorEntered = true ∧
        (d.rr n).loaded = (s.reached t).nat (Od.qualifyTime n) * ticksPerSec) ∧
      ((s.reached t).on (Od.refEnable n) = true → v = 0 → d.nat (Od.refState n) = 0 ∧ d.nat (Od.refLive n) = 0) ∧
      ((s.reached t).num (Od.refEnable n) = v → OnlyChanges (s.reached t) d logObjects [.pair, .pmc])) ∧
  (∀ (t n : Nat) (s : State), n < 16 →
    let e := s.reached t
    if e.on (Od.refEnable n) = true ∧ e.lossDue n = true ∧ e.bit (Od.refLive n) Bit.refLive_SignalLoss = false then
      Completes (.signalLoss t n) s fun d =>
        d.bit (Od.refLive n) Bit.refLive_SignalLoss = true ∧ (d.rr n).lossAt = some e.tick ∧
        (∀ m, m ≠ n → d.rr m = e.rr m) ∧ OnlyChanges e d [Od.refLive n] [.sel]
    else Idles (.signalLoss t n) s t) ∧
  (∀ (t n : Nat) (c : Instr) (s : State), n < 16 → (c = .holdoffElapsed t n ∨ c = .qualifyTimeElapsed t n) →
    let e := s.reached t
    if e.on (Od.refEnable n) = true ∧ e.cinchOn = true then
      Completes c s fun d =>
        (e.rowTaken n = false → e.nat (Od.refState n) ≠ 0 → e.nat (Od.refState n) ≠ 6 →
          e.bit (Od.refLive n) Bit.refLive_SignalLoss = true →
          (∃ k, (e.rr n).lossAt = some k ∧ e.nat Od.holdOff * ticksPerMs ≤ e.tick - k) →
          d.nat (Od.refState n) = 6 ∧ d.bit (Od.refSticky n) Bit.refSticky_Lost = true ∧
          d.nat (Od.lossCount n) = (e.nat (Od.lossCount n) + 1) % 2 ^ 32 ∧
          ∃ r, d.flt.queue = e.flt.queue ++ [r] ∧ r.src = 16 + n ∧ r.detail = 0) ∧
        (e.rowTaken n = false → (e.rr n).rose = false → (e.rr n).verdict = false → e.mayQualify n = true →
          d.nat (Od.refState n) = 2 ∧ d.bit (Od.refSticky n) Bit.refSticky_Qualified = true ∧
          d.num (Od.stateSince n) = e.now0) ∧
        OnlyChanges e d ([Od.refState n, Od.stateSince n, Od.refLive n, Od.refSticky n, Od.lossCount n,
          Od.refDeclaredSource n] ++ (List.range 8).map Od.alignState) [.sel, .flt]
    else Idles c s t) ∧
  (∀ (t n : Nat) (s : State), n < 16 →
    let e := s.reached t
    if e.on (Od.refEnable n) = true then
      Completes (.suspectClearTimeElapsed t n) s fun d =>
        (∀ k, 2 ≤ (e.points n (16 * ticksPerSec)).length →
          10 * (toI64 (e.freqOffsetOf n)).natAbs < 4 * e.nat (Od.freqTolerance n) →
          Tab.get (fun _ => none) (e.rr n).below 0 = some k → e.nat Od.suspectClearTime * ticksPerSec ≤ e.tick - k →
          d.bit (Od.refLive n) Bit.refLive_FreqHalf = false ∧ d.bit (Od.refLive n) Bit.refLive_FreqFull = false ∧
          d.num (Od.freqOffset n) = toI64 (e.freqOffsetOf n)) ∧
        OnlyChanges e d [Od.refLive n, Od.freqOffset n, Od.phaseDeviation n, Od.wander n] [.sel]
    else Idles (.suspectClearTimeElapsed t n) s t)

/-- DISAGREE_INTERVAL_END of an interval that is over, while the Cinch runs, begins the next one at this tick. TOD_MESSAGE on an
enabled time reference of an engine that takes its own inputs keeps a valid message as the latest, and counts one whose check
fails in TodCrcErrors with TodCrcError. ESMC_PDU on an enabled SyncE reference shows the codes and takes the quality level of
Table 4-3; ESMC_TIMEOUT after 5 s takes FAILED (15). AlignEnable, accepted, reads as written, and AlignState HELD where the
group's source is LOST or DISABLED. A message for which no reference is enabled, and one a standby leaves to the log, changes
nothing but the log. -/
def Obligations.ReferenceMessages : Prop :=
  (∀ (t : Nat) (s : State),
    if (s.reached t).cinchOn = true ∧
        (s.reached t).nat Od.disagreeInterval * ticksPerSec ≤ (s.reached t).tick - (s.reached t).sel.interval then
      Completes (.disagreeIntervalEnd t) s fun d => d.sel.interval = (s.reached t).tick
    else Idles (.disagreeIntervalEnd t) s t) ∧
  (∀ (t n : Nat) (bs : List Byte) (s : State), n < 8 →
    let e := s.reached t
    if e.fromLog = true then Idles (.todMessage t n bs) s t
    else Completes (.todMessage t n bs) s fun d =>
      if e.isTimeRef n = true ∧ e.nat (Od.refState n) ≠ 0 then
        if todValid bs = true then (d.rr n).tod = todRead bs e.tick :: (e.rr n).tod
        else (d.rr n).tod = (e.rr n).tod ∧ d.bit (Od.refSticky n) Bit.refSticky_TodCrcError = true ∧
          d.nat (Od.todCrcErrors n) = (e.nat (Od.todCrcErrors n) + 1) % 2 ^ 32
      else OnlyChanges e d logObjects [.pair, .pmc]) ∧
  (∀ (t n ssm essm : Nat) (s : State), n < 16 →
    let e := s.reached t
    if e.fromLog = true then Idles (.esmcPdu t n ssm essm) s t
    else Completes (.esmcPdu t n ssm essm) s fun d =>
      if e.synceRef n = true then
        d.nat (Od.ssmLast n) = ssm ∧ d.nat (Od.essmLast n) = essm ∧ d.nat (Od.qlReceived n) = esmcQl ssm essm ∧
        (d.rr n).announceAt = e.tick
      else OnlyChanges e d logObjects [.pair, .pmc]) ∧
  (∀ (t n : Nat) (s : State), n < 16 →
    let e := s.reached t
    if e.synceRef n = true ∧ 5 * ticksPerSec ≤ e.tick - (e.rr n).announceAt then
      Completes (.esmcTimeout t n) s fun d =>
        d.nat (Od.qlReceived n) = 15 ∧ OnlyChanges e d [Od.qlReceived n, Od.qlEffective n, Od.refSticky n] []
    else Idles (.esmcTimeout t n) s t) ∧
  (∀ (t g : Nat) (q : Req) (v : Int) (s : State), g < 8 → Accepted (s.reached t) q (Od.alignEnable g) v →
    Completes (.alignEnableWrite t q g v) s fun d =>
      let src := (s.reached t).nat (Od.refState ((s.reached t).nat (Od.alignSource g)))
      d.num (Od.alignEnable g) = v ∧ d.nat (Od.alignState g) = (if v ≠ 0 ∧ (src = 0 ∨ src = 6) then 3 else 0) ∧
      OnlyChanges (s.reached t) d (Od.alignEnable g :: Od.alignState g :: logObjects) [.sel, .pair, .pmc])

/-- OVENRDY_CHANGE and ATOMLOCK_CHANGE show the level on the pin from the tick it changed; a level that has stood through every
sample of OvenReadyDebounce, or for 1 ms, is taken. In service in READY, the loss of the level that the active class's fault looks
at leads to DEGRADED, counted, with its sticky bit and source 1 live; AtomLocked shows the level taken. LO_FAIL (of the frequency,
with an offset measured beyond 1,000 ppm and LoState not FAILED yet) leads to FAILED, with LoFail, saturated growth and source 0
live; a lost TSYN lock clears TsynLocked. OVEN_SETTLE_END shows the oven's state and changes nothing else of the objects. TEMP_STALE
takes the temperature in use; an external one older than TempStaleLimit is stale, with TempStale. -/
def Obligations.OscillatorEvents : Prop :=
  (∀ (t : Nat) (level : Bool) (s : State),
    let e := s.reached t
    let p := e.keep.ovenrdy
    Completes (.ovenrdyChange t level) s fun d =>
      d.keep.ovenrdy.raw = some level ∧ d.keep.ovenrdy.since = (if p.raw = some level then p.since else e.tick) ∧
      (p.raw = some level → e.ovenSampleFrom p.since + e.nat Od.ovenReadyDebounce ≤ e.ovenSampleLast →
        d.keep.ovenrdy.taken = some level) ∧
      (e.ovenWatched = true → e.loInService = true → e.nat Od.loState = 2 → e.ovenPin = true → d.ovenPin = false →
        d.nat Od.loState = 3 ∧ d.nat Od.ovenState = 3 ∧ d.bit Od.loSticky Bit.loSticky_OvenUnready = true ∧
        d.nat Od.ovenUnreadyCount = (e.nat Od.ovenUnreadyCount + 1) % 2 ^ 32 ∧ d.isLive 1 = true)) ∧
  (∀ (t : Nat) (level : Bool) (s : State),
    let e := s.reached t
    let p := e.keep.atomlock
    Completes (.atomlockChange t level) s fun d =>
      d.keep.atomlock.raw = some level ∧ d.keep.atomlock.since = (if p.raw = some level then p.since else e.tick) ∧
      (p.raw = some level → ticksPerMs ≤ e.tick - p.since → d.keep.atomlock.taken = some level) ∧
      d.nat Od.atomLocked = (if d.atomPin = true then 1 else 0) ∧
      (e.loClass = 2 → e.loInService = true → e.nat Od.loState = 2 → e.atomPin = true → d.atomPin = false →
        d.nat Od.loState = 3 ∧ d.bit Od.loSticky Bit.loSticky_AtomUnlocked = true ∧
        d.nat Od.atomUnlockCount = (e.nat Od.atomUnlockCount + 1) % 2 ^ 32 ∧ d.isLive 1 = true)) ∧
  (∀ (t detail : Nat) (lo : Int) (s : State),
    let e := s.reached t
    Completes (.loFail t detail lo) s fun d =>
      (detail ≠ 0 ∨ 1000000000000 < lo.natAbs ∧ e.nat Od.loState ≠ 4 →
        d.nat Od.loState = 4 ∧ d.bit Od.loSticky Bit.loSticky_LoFail = true ∧ d.nat Od.holdoverGrowth = sat64 ∧
        d.isLive 0 = true) ∧
      (detail = 0 → d.num Od.loMeasuredOffset = lo) ∧
      (detail = 0 → ¬1000000000000 < lo.natAbs → OnlyChanges e d [Od.loMeasuredOffset] []) ∧
      (detail = 2 → d.nat Od.tsynLocked = 0 ∧ d.bit Od.loSticky Bit.loSticky_TsynLockLost = true) ∧
      OnlyChanges e d [Od.loState, Od.loSticky, Od.tsynLocked, Od.holdoverGrowth, Od.faultLive, Od.loMeasuredOffset]
        [.flt]) ∧
  (∀ (t : Nat) (s : State),
    let e := s.reached t
    Completes (.ovenSettleEnd t) s fun d =>
      d.nat Od.ovenState = (if e.isLive 1 = true ∧ e.ovenWatched = true then 3
        else if e.keep.ovenSeen = false then 0 else if e.ovenCond = true then 2 else 1) ∧
      OnlyChanges e d [Od.ovenState] [.keep]) ∧
  (∀ (t : Nat) (s : State),
    let e := s.reached t
    Completes (.tempStale t) s fun d =>
      (e.nat Od.tempSource = 0 → d.num Od.tempInUse = e.num Od.tempOnChip ∧ d.keep.stale = false) ∧
      (e.nat Od.tempSource ≠ 0 → d.num Od.tempInUse = e.num Od.tempExternal ∧
        ∀ k, e.keep.extAt = some k → e.nat Od.tempStaleLimit < min sat32 ((e.tick - k) / ticksPerMs) →
          d.keep.stale = true ∧ d.bit Od.keeperSticky Bit.keeperSticky_TempStale = true) ∧
      OnlyChanges e d [Od.tempExternalAge, Od.tempInUse, Od.keeperSticky] [.keep])

/-- LEARN_INTERVAL, once the interval has lasted while M0 runs, begins the next one: where a condition of R185 does not hold at its
end, an update of it barred it, or nothing was summed, it adds no point and sets LearningPaused; else its mean is the latest point,
ModelPoints counts those in the window, ModelState reads TRAINED from LearnMinPoints on and else LEARNING, and no coefficient changes
before the next update. MODEL_STORE while TRAINED, ModelStoreInterval after the last store, keeps the model in flash, with
ModelStored, and changes no coefficient; else it changes nothing. ModelReset written other than 0, accepted, leaves no coefficient,
no point and ModelState NONE, with ModelDiscarded, and the model in flash as it was; written 0 it changes nothing. -/
def Obligations.ModelLearnedAndStored : Prop :=
  (∀ (t : Nat) (s : State),
    let e := s.reached t
    if e.m0Runs = true ∧ e.running 0 = true ∧ e.keep.start + e.num Od.learnInterval * second ≤ e.tsNow 0 then
      Completes (.learnInterval t) s fun d =>
        d.keep.start = e.tsNow 0 ∧ d.keep.n = 0 ∧ d.keep.sumInteg = 0 ∧
        if e.mayLearn = false ∨ e.keep.barred = true ∨ e.keep.n = 0 then
          d.keep.points = e.keep.points ∧ d.bit Od.keeperSticky Bit.keeperSticky_LearningPaused = true ∧
          OnlyChanges e d [Od.keeperSticky] [.keep]
        else
          d.keep.points.head? = some ⟨(e.keep.start + e.tsNow 0) / 2, rdiv e.keep.sumTemp e.keep.n,
            rdiv e.keep.sumInteg ((e.keep.n : Int) * fine)⟩ ∧
          d.nat Od.modelPoints = d.keep.points.length ∧
          d.nat Od.modelState = (if e.nat Od.learnMinPoints ≤ d.keep.points.length then 3 else 2) ∧
          OnlyChanges e d [Od.keeperSticky, Od.modelState, Od.modelPoints] [.keep]
    else Idles (.learnInterval t) s t) ∧
  (∀ (t : Nat) (s : State),
    let e := s.reached t
    if e.m0Runs = true ∧ e.nat Od.modelState = 3 ∧
        e.nat Od.modelStoreInterval * ticksPerSec ≤ e.tick - e.keep.storeFrom then
      Completes (.modelStore t) s fun d =>
        (∃ m, d.keep.stored = some m ∧ m.offset = e.num Od.modelOffset ∧ m.ageing = e.num Od.modelAgeing ∧
          m.tempco = e.num Od.modelTempCoef ∧ m.cls = e.loClass ∧ m.storedAt = e.tick) ∧
        d.bit Od.keeperSticky Bit.keeperSticky_ModelStored = true ∧ OnlyChanges e d [Od.keeperSticky] [.keep]
    else Idles (.modelStore t) s t) ∧
  (∀ (t : Nat) (q : Req) (v : Int) (s : State), Accepted (s.reached t) q Od.modelReset v →
    Completes (.modelReset t q v) s fun d =>
      (v ≠ 0 → d.nat Od.modelState = 0 ∧ d.num Od.modelOffset = 0 ∧ d.num Od.modelAgeing = 0 ∧ d.num Od.modelTempCoef = 0 ∧
        d.nat Od.modelPoints = 0 ∧ d.keep.points = [] ∧ d.keep.stored = (s.reached t).keep.stored ∧
        d.bit Od.keeperSticky Bit.keeperSticky_ModelDiscarded = true) ∧
      (v = 0 → OnlyChanges (s.reached t) d logObjects [.pair, .pmc]))

/-- AWL_EDGE. Where no device stamps for the channel, the channels do not run, the pin is not open or the edge is not selected,
nothing changes; an edge that the prescaler does not pass is only counted by it. The edge it passes has the instant a of the device
on duty, that of AWL_S corrected by SpareSkew: less than one tick after the last accepted edge it counts in DeadTimeLosses with
DeadTimeLoss; with the front buffer or the FIFO full it counts in OverrunLosses with OverrunLoss and is reported; both mark the next
stamp of the channel, and change no other object. Any other edge is accepted: on a channel that no reference uses it counts in
Events, and where AwlEnable is 1 and the scale has a value at a, LastStamp is that value less AwlDelay, with LastResult 0 in STAMP
mode. -/
def Obligations.EdgesStamped : Prop :=
  ∀ (t ch tclk bin : Nat) (falling : Bool) (other : Option (Int × Nat × Nat)) (s : State), ch < 40 →
    let e := s.reached t
    let c := .awlEdge t ch tclk bin falling other
    (e.onDuty ch = none ∨ e.awlRuns = false ∨ e.inputOpen ch = false ∨ e.edgeSelected ch falling = false → Idles c s t) ∧
    (∀ dev, e.onDuty ch = some dev → e.awlRuns = true → e.inputOpen ch = true → e.edgeSelected ch falling = true →
      if (e.cap ch).seen % max 1 (e.nat (Od.prescale ch)) ≠ 0 then
        Completes c s fun d => (d.cap ch).seen = (e.cap ch).seen + 1 ∧ OnlyChanges e d [] [.awl]
      else
        let raw := fineOf (e.cap dev).table e.cnt (tclk % 4) (bin % 256)
        let a := if dev = 40 then (e.corrected raw).toNat else raw
        let front := max a (e.cap ch).frontAt + 204800
        let fifo := max front (e.cap ch).fifoAt + 819200
        if (e.cap ch).lastAt.any (fun l => a < l + 65536) = true then
          Completes c s fun d =>
            d.nat (Od.deadTimeLosses ch) = (e.nat (Od.deadTimeLosses ch) + 1) % 2 ^ 32 ∧
            d.bit (Od.awlSticky ch) Bit.awlSticky_DeadTimeLoss = true ∧ (d.cap ch).lossNext = true ∧
            (d.cap ch).lastAt = (e.cap ch).lastAt ∧ OnlyChanges e d [Od.deadTimeLosses ch, Od.awlSticky ch] [.awl]
        else if a + 4 * 204800 < front ∨ front + 256 * 819200 < fifo then
          Completes c s fun d =>
            d.nat (Od.overrunLosses ch) = (e.nat (Od.overrunLosses ch) + 1) % 2 ^ 32 ∧
            d.bit (Od.awlSticky ch) Bit.awlSticky_OverrunLoss = true ∧ (d.cap ch).lossNext = true ∧
            (d.cap ch).lastAt = some a ∧ (∃ r, d.flt.queue = e.flt.queue ++ [r] ∧ r.src = 95 ∧ r.detail = 1) ∧
            OnlyChanges e d [Od.overrunLosses ch, Od.awlSticky ch] [.awl, .flt]
        else
          Completes c s fun d => e.refChannel ch = false →
            let ts := e.nat (Od.awlTimeScale ch)
            d.nat (Od.events ch) = (e.nat (Od.events ch) + 1) % 2 ^ 32 ∧ (d.cap ch).lastAt = some a ∧
            (∀ x, e.on (Od.awlEnable ch) = true → e.convert ts (a / 65536 + (e.tick - e.cnt)) (a % 65536) = (x, true) →
              d.num (Od.lastStamp ch) = tsNum (x - fine16 (e.num (Od.awlDelay ch))) ∧
              (e.nat (Od.awlMode ch) = 0 → d.num (Od.lastResult ch) = 0)) ∧
            OnlyChanges e d [Od.events ch, Od.lastStamp ch, Od.lastResult ch, Od.lastFlags ch, Od.dmaDropped ch,
              Od.awlSticky ch, Od.convTooOld ts, Od.tsSticky ts] [.awl])

/-- INTERVAL_EVENT_RELEASE changes the channel's results alone. With a start and a stop due, none held and the two within the
window, LastResult is the interval from the start to the stop, less the stop's AwlDelay and plus the start's, negative where the stop
is the earlier one, nothing stays held, and Unpaired does not count. With nothing due no object changes. FREQ_GATE_END in FREQUENCY
mode on a running scale, where the present gate is not yet known, ends the gate of the edges held: of two or more at different times
LastResult is the fractional frequency from the prescaler's count and the scale's time between the first and the last; fewer give
no result, which the next one shows. In another mode, or on a stopped scale, nothing changes. -/
def Obligations.IntervalsAndGates : Prop :=
  (∀ (t ch : Nat) (s : State), ch < 40 →
    let e := s.reached t
    Completes (.intervalEventRelease t ch) s fun d =>
      (∀ a z, (e.cap ch).inbox = [a, z] → (e.cap ch).held = none → a.start = true → z.start = false →
        a.at' + 256 * 65536 ≤ e.cnt * 65536 → z.at' + 256 * 65536 ≤ e.cnt * 65536 →
        ((z.at' : Int) - a.at').natAbs * 16 ≤ e.nat (Od.intervalWindow ch) * 655360 →
        d.num (Od.lastResult ch) = toI64 (rdiv (((z.at' : Int) - a.at') *
          (16 * e.inc (e.nat (Od.awlTimeScale ch)) : Nat)) (10 * incNom : Nat) - z.delay + a.delay) ∧
        (d.cap ch).held = none ∧ (d.cap ch).inbox = [] ∧ d.num (Od.unpaired ch) = e.num (Od.unpaired ch)) ∧
      ((∀ x ∈ (e.cap ch).inbox, e.cnt * 65536 < x.at' + 256 * 65536) →
        (d.cap ch).inbox = (e.cap ch).inbox ∧ OnlyChanges e d [] [.awl]) ∧
      OnlyChanges e d [Od.lastResult ch, Od.lastFlags ch, Od.awlSticky ch, Od.dmaDropped ch, Od.unpaired ch] [.awl]) ∧
  (∀ (t ch : Nat) (s : State), ch < 40 →
    let e := s.reached t
    let ts := e.nat (Od.awlTimeScale ch)
    let now := e.tsNow ts / e.gateLen ch
    if e.nat (Od.awlMode ch) = 2 ∧ e.running ts = true then
      Completes (.freqGateEnd t ch) s fun d =>
        (∀ g, (e.cap ch).gate = some g → g.index < now → (e.cap ch).gateNext.getD (now - 1) < now →
          (d.cap ch).gate = none ∧
          if 2 ≤ g.edges ∧ g.t0 < g.t1 then
            d.num (Od.lastResult ch) = toI64 (rdiv ((((g.c1 - g.c0 : Nat) : Int) * second -
              e.num (Od.nominalFreq ch) * (g.t1 - g.t0)) * 1000000000000000) (e.num (Od.nominalFreq ch) * (g.t1 - g.t0)))
          else d.num (Od.lastResult ch) = e.num (Od.lastResult ch) ∧ (d.cap ch).noFreq = true) ∧
        OnlyChanges e d [Od.lastResult ch, Od.lastFlags ch, Od.awlSticky ch, Od.dmaDropped ch] [.awl]
    else Idles (.freqGateEnd t ch) s t)

/-- AWL_DMA_WRITE, running, with a record r at the head of the next channel's queue and the ring not full: the 32 octets of r
stand at DmaBase + 32 x DmaWriteIndex, LossBefore set where the ring lost a record of the channel before, every other octet of
memory is as it was, the index moves on by one and DmaRecords counts. With the ring full the record is dropped and counted in
DmaDropped and RingFull, and memory is as it was; with no record queued, or the DMA stopped, nothing changes. DmaRun, accepted,
reads as written and a start brings both indices to 0. (The octet order of a TS128 within r is the model's choice, log entry
84.) -/
def Obligations.EventRing : Prop :=
  (∀ (t n : Nat) (r : AwlRec) (rest : List AwlRec) (s : State),
    let e := s.reached t
    let at' := e.nat Od.dmaBase + 32 * e.nat Od.dmaWriteIndex
    e.on Od.dmaRun = true → e.awlRuns = true → e.dmaNext = some n → (e.cap n).queue = r :: rest →
    ∃ s', exec (.awlDmaWrite t) s = .next s' ∧ s'.pending = s.pending ∧ (s'.dev.cap n).queue = rest ∧
      if (e.nat Od.dmaWriteIndex + 1) % max 1 (e.nat Od.dmaSize / 32) = e.nat Od.dmaReadIndex then
        s'.mem = s.mem ∧ s'.dev.nat (Od.dmaDropped n) = (e.nat (Od.dmaDropped n) + 1) % 2 ^ 32 ∧
        s'.dev.nat Od.ringFull = (e.nat Od.ringFull + 1) % 2 ^ 32 ∧
        s'.dev.nat Od.dmaWriteIndex = e.nat Od.dmaWriteIndex ∧
        OnlyChanges e s'.dev [Od.dmaDropped n, Od.ringFull, Od.awlSticky n] [.awl]
      else
        s'.mem = writeBytes s.mem at'
          ({ r with flags := withFlag r.flags Bit.awlFlags_LossBefore (e.cap n).lossRing } : AwlRec).bytes ∧
        (∀ a, a < at' ∨ at' + 32 ≤ a → readByte s'.mem a = readByte s.mem a) ∧
        s'.dev.nat Od.dmaWriteIndex = (e.nat Od.dmaWriteIndex + 1) % max 1 (e.nat Od.dmaSize / 32) ∧
        s'.dev.nat Od.dmaRecords = (e.nat Od.dmaRecords + 1) % 2 ^ 64 ∧
        OnlyChanges e s'.dev [Od.dmaWriteIndex, Od.dmaRecords] [.awl, .power]) ∧
  (∀ (t : Nat) (s : State),
    (s.reached t).on Od.dmaRun = false ∨ (s.reached t).awlRuns = false ∨ (s.reached t).dmaNext = none →
    Idles (.awlDmaWrite t) s t) ∧
  (∀ (t : Nat) (q : Req) (v : Int) (s : State), Accepted (s.reached t) q Od.dmaRun v →
    Completes (.dmaRunWrite t q v) s fun d =>
      d.num Od.dmaRun = v ∧ (v ≠ 0 → d.nat Od.dmaWriteIndex = 0 ∧ d.nat Od.dmaReadIndex = 0) ∧
      OnlyChanges (s.reached t) d (Od.dmaRun :: Od.dmaWriteIndex :: Od.dmaReadIndex :: logObjects) [.pair, .pmc])

/-- BURNISH_START changes nothing where a run is in progress, the rotation pauses or is blocked, the journal is full or the block
has answered Stay; else the item that is queued, or due by BurnishStep, begins its run, with a journal record, the spare being free
where the run needs it. BurnishNow, accepted, queues its item, and lets go a spare that the item holds blocked. While the
rotation runs, each event of a run acts in its stage alone: SKEW_MEASURED after OverlapTime with common edges takes their mean as
the skew; OVERLAP_MAX_EXPIRY without one takes the reference skew with SkewReused in step 1 and goes on with HandbackUnchecked in
step 5; SPARE_ON_DUTY past the next 1/1024 s of TS_0 puts AWL_S on duty for the channel; HISTOGRAM_DONE of the run's item, its line
in lock and its hits BurnishSamples in all, loads a good table, ending a run that does not go through the spare, and of a bad one
leaves the item OUT_OF_SERVICE; HANDBACK_CHECKED within HandoverTolerance goes on, and beyond it leaves the channel OUT_OF_SERVICE
with the rotation blocked; CHANNEL_ON_DUTY past the next boundary gives the channel its duty back and ends the run. With no run, or
while the rotation does not run, the events change nothing. -/
def Obligations.BurnishRotation : Prop :=
  (∀ (t : Nat) (s : State),
    let e := s.reached t
    if e.awlRuns = false ∨ e.awl.run.isSome = true ∨ e.on Od.burnishBlocked = true ∨ e.journalFree = false ∨ e.stays 2 = true then
      Idles (.burnishStart t) s t
    else
      Completes (.burnishStart t) s fun d =>
        ∀ i, (e.awl.queued = some i ∨ e.awl.queued = none ∧ e.nat Od.burnishStep ≠ 0 ∧
            e.nat Od.burnishStep * ticksPerSec ≤ e.tick - e.awl.lastStart ∧ i = e.itemFrom 41 e.awl.next) →
          (e.throughSpare i = true → e.nat Od.spareState = 0) → (i = 40 → e.nat Od.spareState ≠ 1) →
          d.nat Od.burnishCurrent = i ∧ d.awl.queued = none ∧ (i = 40 → d.nat Od.spareState = 2) ∧
          (∃ r, d.awl.run = some r ∧ r.item = i ∧ r.spare = e.throughSpare i ∧
            r.stage = (if e.throughSpare i = true then 1 else 3) ∧ r.opId = e.nat Od.journalNextOpId) ∧
          ∃ j, d.acc.journal.getLast? = some j ∧ j.kind = 4 ∧ j.detail = i ∧ j.outcome = 0) ∧
  (∀ (t : Nat) (q : Req) (v : Int) (s : State), Accepted (s.reached t) q Od.burnishNow v →
    Completes (.burnishNow t q v) s fun d =>
      d.awl.queued = some v.toNat ∧ d.nat Od.burnishNext = v.toNat ∧
      if (s.reached t).awl.blockedBy = some v.toNat then
        d.awl.blockedBy = none ∧ d.on Od.burnishBlocked = false ∧ d.nat Od.spareFor = 0xFF
      else OnlyChanges (s.reached t) d (Od.burnishNext :: logObjects) [.awl, .pair, .pmc]) ∧
  (∀ (t dev : Nat) (hits : List Nat) (s : State), (s.reached t).awl.run = none ∨ (s.reached t).awlRuns = false →
    Idles (.skewMeasured t) s t ∧ Idles (.overlapMaxExpiry t) s t ∧ Idles (.spareOnDuty t) s t ∧
    (dev ≤ 40 → Idles (.histogramDone t dev hits) s t) ∧ Idles (.handbackChecked t) s t ∧ Idles (.channelOnDuty t) s t) ∧
  (∀ (t : Nat) (r : BurnRun) (s : State),
    let e := s.reached t
    let at' (d : Dev) (n : Nat) := ∃ x, d.awl.run = some x ∧ x.stage = n ∧ x.item = r.item ∧ x.from' = e.tick
    let ended (d : Dev) := d.awl.run = e.awl.second ∧ d.awl.second = none ∧
      d.nat Od.burnishCurrent = (e.awl.second.map (·.item)).getD 0xFF
    let failed (d : Dev) := ended d ∧ d.nat Od.burnishFailures = (e.nat Od.burnishFailures + 1) % 2 ^ 32 ∧
      (r.item < 40 → d.nat (Od.awlState r.item) = 3) ∧ (r.spare = true → d.on Od.burnishBlocked = true ∧
        d.awl.blockedBy = some r.item)
    e.awl.run = some r → e.awlRuns = true →
    (if r.stage = 1 ∧ e.overlapped r = true then
      Completes (.skewMeasured t) s fun d => d.num Od.spareSkew = r.skew ∧ at' d 2
    else Idles (.skewMeasured t) s t) ∧
    (if r.diffs = [] ∧ e.nat Od.overlapMax * ticksPerSec ≤ e.tick - r.from' ∧ (r.stage = 1 ∨ r.stage = 5) then
      Completes (.overlapMaxExpiry t) s fun d =>
        if r.stage = 1 then d.num Od.spareSkew = (e.cap r.item).skew ∧ r.item ∈ d.ebe.skewLive ∧ at' d 2 ∧
          (r.item < 40 → d.bit (Od.awlSticky r.item) Bit.awlSticky_SkewReused = true)
        else at' d 6 ∧ (r.item < 40 → d.bit (Od.awlSticky r.item) Bit.awlSticky_HandbackUnchecked = true)
    else Idles (.overlapMaxExpiry t) s t) ∧
    (if r.stage = 2 ∧ r.boundary < e.boundaryNow then
      Completes (.spareOnDuty t) s fun d =>
        d.nat Od.spareState = 1 ∧ d.nat Od.spareFor = r.item ∧ at' d 3 ∧ (r.item < 40 → d.nat (Od.awlState r.item) = 2 ∧
          ∀ m < 40, m ≠ r.item → d.nat (Od.awlState m) = e.nat (Od.awlState m))
    else if ∃ x, e.awl.second = some x ∧ x.stage = 2 ∧ x.boundary < e.boundaryNow then
      Completes (.spareOnDuty t) s fun d => d.nat Od.spareState = 1 ∧ d.awl.run = some r ∧
        ∃ x y, e.awl.second = some x ∧ d.awl.second = some y ∧ y.item = x.item ∧ y.stage = 3 ∧ d.nat Od.spareFor = x.item
    else Idles (.spareOnDuty t) s t) ∧
    (∀ hits, r.item ≤ 40 →
      if r.stage = 3 ∧ (e.cap r.item).unlocked = false ∧ e.isHistogram hits = true then
        Completes (.histogramDone t r.item hits) s fun d =>
          if histogramOk hits (sumN hits) = true then
            (d.cap r.item).table = hits ∧
            if r.spare = true then at' d 5
            else ended d ∧ d.nat Od.burnishRuns = (e.nat Od.burnishRuns + 1) % 2 ^ 32
          else failed d ∧ (r.item < 40 → d.bit (Od.awlSticky r.item) Bit.awlSticky_BinFault = true)
      else Idles (.histogramDone t r.item hits) s t) ∧
    (∀ dev hits, dev ≤ 40 → dev ≠ r.item → Idles (.histogramDone t dev hits) s t) ∧
    (if r.stage = 5 ∧ e.overlapped r = true then
      Completes (.handbackChecked t) s fun d =>
        if e.handbackGood r = true then at' d 6
        else failed d ∧ (r.item < 40 → d.bit (Od.awlSticky r.item) Bit.awlSticky_HandoverFault = true)
    else Idles (.handbackChecked t) s t) ∧
    (if r.stage = 6 ∧ r.boundary < e.boundaryNow then
      Completes (.channelOnDuty t) s fun d =>
        ended d ∧ d.nat Od.spareState ≠ 1 ∧ d.nat Od.spareFor = 0xFF ∧
        (r.item < 40 → d.nat (Od.awlState r.item) = (if e.awlUsed r.item = true then 1 else 0)) ∧
        d.nat Od.burnishRuns = (e.nat Od.burnishRuns + 1) % 2 ^ 32
    else Idles (.channelOnDuty t) s t))

/-- DLL_UNLOCK of a channel or of AWL_S makes its source live, with DllUnlock of a channel; an ACTIVE channel that is enabled, while
the spare is free and the rotation may use it, begins a run at step 2 with its reference skew. Of a lane phase detector it makes
LpdState UNLOCKED and its source live. DLL_RELOCK ends it: a channel is the rotation's next item, an UNLOCKED detector is READY.
LpdBurnishNow other than 0, accepted, starts the detector's Burnish, and 0 does nothing; HISTOGRAM_DONE of BurnishSamples hits, while
it runs, makes the detector READY with a good table, and UNLOCKED with a bad one. SYNCE_PHASE_STAMP changes nothing unless its
reference is enabled, its detector READY, its lane's link up and TS_0 running; then the offset of that instant is measured, or on a
standby compared with the log. -/
def Obligations.DelayLines : Prop :=
  (∀ (t dev : Nat) (s : State), dev ≤ 40 →
    let e := s.reached t
    Completes (.dllUnlock t dev) s fun d =>
      (d.cap dev).unlocked = true ∧ d.isLive (32 + dev) = true ∧
      (dev < 40 → d.bit (Od.awlSticky dev) Bit.awlSticky_DllUnlock = true) ∧
      if dev < 40 ∧ e.awlUsed dev = true ∧ e.nat (Od.awlState dev) = 1 ∧ e.nat Od.spareState = 0 ∧
          e.awl.run.any (·.spare) = false ∧ e.awl.second = none ∧ e.journalFree = true ∧ e.on Od.spareAuto = true ∧
          e.awlRuns = true then
        d.num Od.spareSkew = (e.cap dev).skew ∧
        ∃ r, (if e.awl.run.isSome = true then d.awl.second else d.awl.run) = some r ∧ r.item = dev ∧ r.stage = 2 ∧ r.spare = true
      else OnlyChanges e d [Od.awlSticky dev, Od.faultLive] [.awl, .flt]) ∧
  (∀ (t l : Nat) (s : State), l < 22 →
    Completes (.dllUnlock t (64 + l)) s fun d =>
      (d.cap (64 + l)).unlocked = true ∧ d.nat (Od.lpdState l) = 2 ∧ d.isLive (73 + l) = true ∧
      OnlyChanges (s.reached t) d [Od.lpdState l, Od.faultLive] [.awl, .flt]) ∧
  (∀ (t dev : Nat) (s : State), dev ≤ 40 →
    Completes (.dllRelock t dev) s fun d =>
      (d.cap dev).unlocked = false ∧ (dev < 40 → d.awl.next = dev) ∧
      ((s.reached t).itemOut dev = false → d.isLive (32 + dev) = false) ∧
      OnlyChanges (s.reached t) d [Od.burnishNext, Od.faultLive] [.awl, .flt]) ∧
  (∀ (t l : Nat) (s : State), l < 22 →
    Completes (.dllRelock t (64 + l)) s fun d =>
      (d.cap (64 + l)).unlocked = false ∧
      if (s.reached t).nat (Od.lpdState l) = 2 then
        d.nat (Od.lpdState l) = 1 ∧ d.isLive (73 + l) = false ∧
        OnlyChanges (s.reached t) d [Od.lpdState l, Od.faultLive] [.awl, .flt]
      else OnlyChanges (s.reached t) d [] [.awl]) ∧
  (∀ (t l : Nat) (q : Req) (v : Int) (s : State), l < 22 → Accepted (s.reached t) q (Od.lpdBurnishNow l) v →
    Completes (.lpdBurnishNow t q l v) s fun d =>
      (v ≠ 0 → d.nat (Od.lpdState l) = 3 ∧ d.isLive (73 + l) = false ∧
        OnlyChanges (s.reached t) d (Od.lpdState l :: Od.faultLive :: logObjects) [.flt, .pair, .pmc]) ∧
      (v = 0 → OnlyChanges (s.reached t) d logObjects [.pair, .pmc])) ∧
  (∀ (t l : Nat) (hits : List Nat) (s : State), l < 22 →
    let e := s.reached t
    if e.isHistogram hits = true ∧ e.nat (Od.lpdState l) = 3 then
      Completes (.histogramDone t (64 + l) hits) s fun d =>
        if histogramOk hits (sumN hits) = true then
          (d.cap (64 + l)).table = hits ∧ d.nat (Od.lpdState l) = 1 ∧
          d.nat (Od.lpdBinSpread l) = binSpreadOf hits (sumN hits) ∧ d.num (Od.lpdLastBurnish l) = e.now0
        else d.nat (Od.lpdState l) = 2 ∧ d.isLive (73 + l) = true
    else Idles (.histogramDone t (64 + l) hits) s t) ∧
  (∀ (t r tclk bin : Nat) (s : State), r < 2 →
    let e := s.reached t
    let lane := e.nat (Od.synceLane (14 + r))
    let a := fineOf (e.cap (64 + lane)).table e.tick (tclk % 4) (bin % 256)
    if e.on (Od.refEnable (14 + r)) = true ∧ e.nat (Od.lpdState lane) = 1 ∧ e.on (Od.laneLinkUp lane) = true ∧
        e.running 0 = true then
      Completes (.syncePhaseStamp t r tclk bin) s fun d =>
        if e.fromLog = true then OnlyChanges e d [Od.pairSticky] [.flt]
        else e.nat (Od.refState (14 + r)) ≠ 0 → (e.convert 0 (a / 65536) (a % 65536)).2 = true →
          let x := (e.edgeOffset (14 + r) (a / 65536) (a % 65536) 0).1
          (d.rr (14 + r)).meas.head?.map (·.x) = some x ∧ d.num (Od.phaseOffset (14 + r)) = toI64 (to16 x)
    else Idles (.syncePhaseStamp t r tclk bin) s t)

/-- While the baseband does not run, GIF_CLOCK_CHECK, GIF_CLK_LOSS and EPOCH_MARK change nothing. GIF_CLOCK_CHECK within 100 ppm
makes the sample clock OK; beyond it, and at GIF_CLK_LOSS, it is a FAULT with GifClkFault, source 96 is live and every channel
that is not IDLE goes to SEARCH. EPOCH_MARK adds the next mark, at the instant of the detector on duty by its table and its
correction where no handover waits, with what the delays then are; a channel in TRACK that is measured latches its code phase, carrier
phase, Doppler, C/N0, lock flags and slips at the mark. GCD_BURNISH, due, loads a good histogram as the table of the detector off
duty and prepares the handover; a bad one it does not load. GfeReplay other than 0, accepted, plays the IF's script and stops its
channels alone; GFE_TRANSFER, accepted, sends the octets and shows the answer. IF_LEVEL_FAULT shows the occupancy, and outside
20.0 % to 45.0 % of an enabled IF sets IfLevelFault and source 98. -/
def Obligations.SampleClockAndEpochs : Prop :=
  (∀ (t : Nat) (x : Int) (s : State),
    let e := s.reached t
    if e.gnssRuns = false then Idles (.gifClockCheck t x) s t ∧ Idles (.gifClkLoss t) s t
    else
      (x.natAbs ≤ 100000000000 → Completes (.gifClockCheck t x) s fun d =>
        d.num Od.gifClockOffset = x ∧ d.nat Od.gifClockState = 1 ∧ d.isLive 96 = false ∧
        OnlyChanges e d [Od.gifClockOffset, Od.gifClockState, Od.faultLive] [.flt]) ∧
      (100000000000 < x.natAbs → Completes (.gifClockCheck t x) s fun d =>
        d.num Od.gifClockOffset = toI64 x ∧ d.nat Od.gifClockState = 2 ∧ d.isLive 96 = true ∧
        ∀ c < 192, d.nat (Od.chState c) = if e.nat (Od.chState c) = 0 then 0 else 1) ∧
      Completes (.gifClkLoss t) s fun d =>
        d.nat Od.gifClockState = 2 ∧ d.bit Od.gnssSticky Bit.gnssSticky_GifClkFault = true ∧ d.isLive 96 = true ∧
        (∀ k < 4, d.nat (Od.ifChannelsTracking k) = 0) ∧
        ∀ c < 192, d.nat (Od.chState c) = if e.nat (Od.chState c) = 0 then 0 else 1) ∧
  (∀ (t tclk0 bin0 tclk1 bin1 : Nat) (dk : Int) (pins : List Nat) (meas : List ChanMeas) (s : State),
    (∀ x ∈ meas, x.ch < 192) →
    let e := s.reached t
    let c := .epochMark t tclk0 bin0 dk tclk1 bin1 pins meas
    let a := if e.nat Od.gcdOnDuty = 0 then fineOf (e.cap 96).table e.tick (tclk0 % 4) (bin0 % 256)
      else fineOf (e.cap 97).table ((e.tick : Int) + dk).toNat (tclk1 % 4) (bin1 % 256)
    if e.gnssRuns = false then Idles c s t
    else Completes c s fun d =>
      d.gnss.count = e.gnss.count + 1 ∧
      ∃ m : EpochMark, d.gnss.marks = (m :: e.gnss.marks).take 4096 ∧ m.number = e.gnss.count + 1 ∧ m.cal = e.gnssCal ∧
        (e.gnss.handover = false →
          m.tick * 65536 + m.fine = ((a : Int) + e.gcdCorr (e.nat Od.gcdOnDuty)).toNat ∧
          OnlyChanges e d (meas.flatMap fun x => [Od.chCno x.ch, Od.chDoppler x.ch]) [.gnss]) ∧
        ∀ x, meas = [x] → e.gnssTracks = true → e.nat (Od.chState x.ch) = 3 →
          ∃ l, Tab.get (fun _ => none) d.gnss.latches x.ch = some l ∧ l.tick = m.tick ∧ l.fine = m.fine ∧ l.code = x.code ∧
            l.carrier = x.carrier ∧ l.cno = x.cno ∧ l.lock = x.lock ∧ l.slips = x.slips ∧ l.doppler = d.num (Od.chDoppler x.ch)) ∧
  (∀ (t : Nat) (hits : List Nat) (s : State),
    let e := s.reached t
    if e.awlRuns = true ∧ e.nat Od.gcdBurnishStep ≠ 0 ∧ e.nat Od.gcdBurnishStep * ticksPerSec ≤ e.tick - e.gnss.gcdAt ∧
        e.isHistogram hits = true ∧ e.journalFree = true then
      Completes (.gcdBurnish t hits) s fun d =>
        d.gnss.gcdAt = e.tick ∧ d.nat Od.gcdOnDuty = e.nat Od.gcdOnDuty ∧
        if histogramOk hits (sumN hits) = true then
          (d.cap (96 + (1 - e.nat Od.gcdOnDuty))).table = hits ∧ d.gnss.handover = true
        else (∀ n, d.cap n = e.cap n) ∧ d.gnss.handover = e.gnss.handover
    else Idles (.gcdBurnish t hits) s t) ∧
  (∀ (t k : Nat) (q : Req) (v : Int) (s : State), k < 4 → Accepted (s.reached t) q (Od.gfeReplay k) v →
    Completes (.gfeReplay t q k v) s fun d =>
      if v = 0 then OnlyChanges (s.reached t) d logObjects [.pair, .pmc]
      else
        (∀ c < 192, d.nat (Od.chState c) =
          if c / 48 = k ∧ (s.reached t).nat (Od.chState c) ≠ 0 then 1 else (s.reached t).nat (Od.chState c)) ∧
        d.nat (Od.ifChannelsTracking k) = 0 ∧
        ∀ bs ∈ (scriptOf 256 (beBytes 256 ((s.reached t).nat (Od.gfeScript k)))).getD [], Msg.gfe k bs ∈ d.out) ∧
  (∀ (t : Nat) (q : Req) (v : Int) (resp : List Byte) (s : State), Accepted (s.reached t) q Od.gfeTransfer v →
    Completes (.gfeTransfer t q v resp) s fun d =>
      Msg.gfe (gfeByte v 0) (((beBytes 34 v.toNat).drop 2).take (gfeByte v 1)) ∈ d.out ∧
      d.nat Od.gfeResponse =
        beNat ((resp ++ List.replicate 32 0).take (gfeByte v 1) ++ List.replicate (32 - gfeByte v 1) 0) ∧
      d.nat Od.gfeTransfers = ((s.reached t).nat Od.gfeTransfers + 1) % 2 ^ 32 ∧
      OnlyChanges (s.reached t) d (Od.gfeResponse :: Od.gfeTransfers :: logObjects) [.pair, .pmc]) ∧
  (∀ (t k occ : Nat) (s : State), k < 4 → Completes (.ifLevelFault t k occ) s fun d =>
    d.nat (Od.ifMagOccupancy k) = min 1000 occ ∧
    if (s.reached t).on (Od.ifEnable k) = true ∧ (occ < 200 ∨ 450 < occ) then
      d.bit Od.gnssSticky Bit.gnssSticky_IfLevelFault = true ∧ d.isLive 98 = true ∧
      OnlyChanges (s.reached t) d [Od.ifMagOccupancy k, Od.gnssSticky, Od.faultLive] [.flt]
    else OnlyChanges (s.reached t) d [Od.ifMagOccupancy k, Od.faultLive] [.flt])

/-- ACQUISITION_SEARCH_DONE with the baseband tracking ends the search at the front of the queue, once AcqNoncoherent code periods are
over: a peak of AcqThreshold within AcqDopplerRange takes its channel to PULLIN on the signal and satellite, any other leaves it
IDLE, or LOST, and is counted alike; else, with nothing to queue, it changes nothing. A search that suits its channel enters an empty
queue with its channel in SEARCH. CHANNEL_TRACK after 1 s of PLL lock takes a channel from PULLIN to TRACK, and of an L1 channel
gives the satellite a free channel of the antenna's L5 IF with the Doppler scaled. CHANNEL_LOST takes a channel at work whose signal
has gone to REACQUIRE, and any to IDLE where its satellite is no longer visible. NAV_UNIT_DECODED on a channel in TRACK counts the
words or units that fail; a unit that is not LNAV and fails writes nothing; any other is counted and its record of 96 octets goes
to M1, and with the copy running and its ring not full stands at NavCopyBase + 96 x NavCopyWriteIndex, every other octet of memory as
it was. NavCopyRun, accepted, reads as written, and a start brings both indices to 0. -/
def Obligations.ChannelsAndNavigation : Prop :=
  (∀ (t peak code : Nat) (bin : Int) (queued : List Search) (s : State), (∀ q ∈ queued, q.ch < 192) →
    let e := s.reached t
    let ends (q : Search) := e.gnssTracks = true ∧ e.on (Od.ifEnable (q.ch / 48)) = true ∧
      e.nat Od.acqNoncoherent * codePeriod q.sig * ticksPerMs ≤ e.tick - e.gnss.searchAt
    Completes (.acquisitionSearchDone t queued peak bin code) s fun d =>
      (∀ q rest, e.gnss.queue = q :: rest → q.ch < 192 → ends q → queued = [] →
        let off := bin * (500000 / codePeriod q.sig : Nat)
        d.nat Od.acqSearches = (e.nat Od.acqSearches + 1) % 2 ^ 32 ∧
        if e.nat Od.acqThreshold ≤ peak ∧ off.natAbs ≤ e.nat Od.acqDopplerRange * 1000 then
          d.nat (Od.chState q.ch) = 2 ∧ d.nat (Od.chSignal q.ch) = q.sig ∧ d.nat (Od.chSv q.ch) = q.sv ∧
          (d.chan q.ch).code = code ∧ d.gnss.queue = rest ∧
          d.nat Od.acqDetections = (e.nat Od.acqDetections + 1) % 2 ^ 32 ∧
          OnlyChanges e d [Od.acqSearches, Od.acqDetections, Od.chState q.ch, Od.chSignal q.ch, Od.chSv q.ch, Od.chDoppler q.ch,
            Od.ifChannelsTracking (q.ch / 48)] [.gnss]
        else
          d.nat (Od.chState q.ch) = (if e.nat (Od.chState q.ch) = 4 then 4 else 0) ∧
          OnlyChanges e d [Od.acqSearches, Od.chState q.ch, Od.chSignal q.ch, Od.chSv q.ch] [.gnss]) ∧
      ((∀ q rest, e.gnss.queue = q :: rest → ¬ends q) → queued = [] → d = e.noteChanges) ∧
      ∀ x, e.gnss.queue = [] → queued = [x] →
        if channelTakes x.ch x.sig = true ∧ svKnown x.sig x.sv = true ∧ e.on (Od.ifEnable (x.ch / 48)) = true ∧
            e.nat (Od.chState x.ch) ≠ 2 ∧ e.nat (Od.chState x.ch) ≠ 3 then
          d.gnss.queue = [x] ∧ d.nat (Od.chState x.ch) = (if e.nat (Od.chState x.ch) = 4 then 4 else 1) ∧
          d.nat (Od.chSignal x.ch) = x.sig ∧ d.nat (Od.chSv x.ch) = x.sv
        else d = e.noteChanges) ∧
  (∀ (t c : Nat) (s : State), c < 192 →
    let e := s.reached t
    if e.gnssTracks = true ∧ e.nat (Od.chState c) = 2 ∧ (∃ k, (e.chan c).lockAt = some k ∧ ticksPerSec ≤ e.tick - k) then
      Completes (.channelTrack t c) s fun d =>
        d.nat (Od.chState c) = 3 ∧
        (c / 48 % 2 = 1 → OnlyChanges e d [Od.chState c, Od.ifChannelsTracking (c / 48)] []) ∧
        ∀ x, c / 48 % 2 = 0 → e.on (Od.ifEnable (c / 48 + 1)) = true →
          (∀ y ∈ ifChannels (c / 48 + 1), e.nat (Od.chState y) = 0 ∨ e.nat (Od.chSignal y) ≠ e.nat (Od.chSignal c) + 1 ∨
            e.nat (Od.chSv y) ≠ e.nat (Od.chSv c)) →
          ((ifChannels (c / 48 + 1)).find? fun y => e.nat (Od.chState y) == 0) = some x →
          d.nat (Od.chState x) = 2 ∧ d.nat (Od.chSignal x) = e.nat (Od.chSignal c) + 1 ∧ d.nat (Od.chSv x) = e.nat (Od.chSv c) ∧
          d.num (Od.chDoppler x) = clamp (-2147483648) 2147483647 (rdiv (e.num (Od.chDoppler c) * 117645) 157542)
    else Idles (.channelTrack t c) s t) ∧
  (∀ (t c : Nat) (s : State), c < 192 →
    let e := s.reached t
    Completes (.channelLost t c false) s (fun d =>
      d.nat (Od.chState c) = 0 ∧ OnlyChanges e d [Od.chState c, Od.ifChannelsTracking (c / 48)] [.gnss]) ∧
    if (e.nat (Od.chState c) = 2 ∨ e.nat (Od.chState c) = 3) ∧ e.signalGone c = true then
      Completes (.channelLost t c true) s fun d =>
        d.nat (Od.chState c) = 4 ∧
        OnlyChanges e d [Od.chState c, Od.chSignal c, Od.chSv c, Od.ifChannelsTracking (c / 48)] [.gnss]
    else Idles (.channelLost t c true) s t) ∧
  (∀ (t c mask bits : Nat) (payload : List Byte) (s : State), c < 192 →
    let e := s.reached t
    let sig := e.nat (Od.chSignal c)
    let bad := if sig = 0 then ((List.range 10).filter fun w => !mask.testBit w).length else if mask = 0 then 1 else 0
    let rec' := navRecord (((e.gnss.marks.head?.map (·.tick)).getD e.tick) - (e.tick - e.cnt)) c sig (e.nat (Od.chSv c))
      (if sig = 0 ∧ 0 < bad then 1 else 0) (if sig = 0 then mask % 1024 else 1)
      (if sig = 0 then 240 else max 1 (min 576 bits)) (Tab.get (fun _ => 0) e.gnss.msgSeq c)
      (if sig = 0 then lnavPayload mask payload else payload)
    let w := e.nat Od.navCopyWriteIndex
    let next := (w + 1) % max 1 (e.nat Od.navCopyRecords)
    if e.gnssTracks = false ∨ e.nat (Od.chState c) ≠ 3 then Idles (.navUnitDecoded t c mask bits payload) s t
    else
      ∃ s', exec (.navUnitDecoded t c mask bits payload) s = .next s' ∧ s'.pending = s.pending ∧
        s'.dev.nat (Od.chNavErrors c) = (e.nat (Od.chNavErrors c) + bad) % 2 ^ 32 ∧
        if sig ≠ 0 ∧ mask = 0 then s'.mem = s.mem ∧ OnlyChanges e s'.dev [Od.chNavErrors c] []
        else
          s'.dev.nat (Od.chNavRecords c) = (e.nat (Od.chNavRecords c) + 1) % 2 ^ 32 ∧
          Tab.get (fun _ => []) s'.dev.gnss.nav c = rec' ∧
          if e.on Od.navCopyRun = true ∧ next ≠ e.nat Od.navCopyReadIndex then
            s'.dev.nat Od.navCopyWriteIndex = next ∧ s'.mem = writeBytes s.mem (e.nat Od.navCopyBase + 96 * w) rec' ∧
            (∀ a, a < e.nat Od.navCopyBase + 96 * w ∨ e.nat Od.navCopyBase + 96 * w + 96 ≤ a →
              readByte s'.mem a = readByte s.mem a) ∧
            OnlyChanges e s'.dev [Od.chNavErrors c, Od.chNavRecords c, Od.navCopyWriteIndex] [.gnss]
          else
            s'.mem = s.mem ∧ s'.dev.nat Od.navCopyWriteIndex = w ∧
            (e.on Od.navCopyRun = true → s'.dev.nat Od.navCopyDropped = (e.nat Od.navCopyDropped + 1) % 2 ^ 32 ∧
              s'.dev.bit Od.gnssSticky Bit.gnssSticky_NavRingFull = true)) ∧
  (∀ (t : Nat) (q : Req) (v : Int) (s : State), Accepted (s.reached t) q Od.navCopyRun v →
    Completes (.navCopyRunWrite t q v) s fun d =>
      d.num Od.navCopyRun = v ∧ (v ≠ 0 → d.nat Od.navCopyWriteIndex = 0 ∧ d.nat Od.navCopyReadIndex = 0) ∧
      OnlyChanges (s.reached t) d (Od.navCopyRun :: Od.navCopyWriteIndex :: Od.navCopyReadIndex :: logObjects) [.pair, .pmc])

/-- GNSS_SOLUTION at a solution epoch: SolutionStatus and SolutionBand are those of the satellites left by the checks of Table 8-5;
where they give a solution its record goes out for its epoch and its offset stands in SolutionOffset, which is that of the primary
system's time where it has satellites and valid UTC parameters; with no satellite to use the status is NONE and nothing else
changes. Without the baseband tracking, the antenna's IFs, TS_0 or a mark of an epoch nothing changes. SOLUTION_RECORD_ARRIVAL
takes the oldest record: one whose mark is no longer kept counts in SolutionsLate with a report of source 99; one whose mark is kept, of
an enabled reference, declares its D and sigma and, unless it is withheld, is a measurement at the mark. SurveyStart other than 0,
accepted, begins a survey; SURVEY_DONE after SurveyDuration with a position found sets the mean position and ends it SURVEYED; a
written position ends it too. RESURVEY_DELAY_ELAPSED, permitted, begins a survey of its own with a journal record. ALMANAC_STORE
stores when 3,600 s have passed. -/
def Obligations.SolutionsAndSurveys : Prop :=
  (∀ (t a : Nat) (z : GSol) (s : State), a < 2 →
    let e := s.reached t
    let mark := e.gnss.marks.find? fun m => m.number % (1000 / max 1 (e.nat Od.solutionRate)) == 0
    if e.gnssTracks = true ∧ e.antennaOn a = true ∧ e.running 0 = true ∧ mark.isSome = true then
      Completes (.gnssSolution t a z) s fun d => ∀ m, mark = some m →
        let all := (e.satellites a z).1.1
        let p := e.primaryFor z
        let first := (e.solutionKind all).2
        let odd := e.outliers z m.cal a first p (onBand first all)
        let systems := [0, 1, 2].filter fun i => !(ofSystem i (onBand first all)).isEmpty
        let sats := if systems.length = 3 ∧ odd.length = 1 then all.filter fun x => !odd.contains x.sys else all
        let (st, band) := e.solutionKind sats
        d.nat (Od.solutionStatus a) = st ∧ d.nat (Od.solutionBand a) = band ∧
        (st ≠ 0 → ∃ r, (d.antenna a).outbox = (e.antenna a).outbox ++ [r] ∧ r.epoch = m.number ∧ r.status = st ∧ r.band = band ∧
          d.num (Od.solutionOffset a) = toI64 (to16 r.x) ∧
          ∀ u, z.utc.getD p none = some u → ofSystem p (onBand band sats) ≠ [] →
            r.x = u.toTai - systemTime m.cal a band (ofSystem p (onBand band sats))) ∧
        ((z.sats.filterMap (e.satOf a)).filter e.inSolution = [] → e.nat Od.solutionMinSv ≠ 0 →
          d.nat (Od.solutionStatus a) = 0 ∧ d.nat (Od.solutionBand a) = 0 ∧
          OnlyChanges e d [Od.solutionStatus a, Od.solutionBand a] [])
    else Idles (.gnssSolution t a z) s t) ∧
  (∀ (t a : Nat) (s : State), a < 2 → ((s.reached t).antenna a).outbox = [] → Idles (.solutionRecordArrival t a) s t) ∧
  (∀ (t a : Nat) (r : SolRec) (rest : List SolRec) (s : State), a < 2 →
    let e := s.reached t
    let mark := e.gnss.marks.find? (·.number == r.epoch)
    (e.antenna a).outbox = r :: rest →
    Completes (.solutionRecordArrival t a) s fun d =>
      (d.antenna a).outbox = rest ∧
      (mark = none →
        d.nat Od.solutionsLate = (e.nat Od.solutionsLate + 1) % 2 ^ 32 ∧
        d.bit Od.gnssSticky Bit.gnssSticky_SolutionLate = true ∧
        (∃ p, d.flt.queue = e.flt.queue ++ [p] ∧ p.src = 99 ∧ p.detail = a) ∧
        OnlyChanges e d [Od.solutionsLate, Od.gnssSticky] [.gnss, .flt]) ∧
      ∀ m, mark = some m → e.fromLog = false → e.nat (Od.refState (8 + a)) ≠ 0 →
        (d.rr (8 + a)).declared = some r.d ∧ (d.rr (8 + a)).sigma = r.sigma ∧ d.nat (Od.refDeclaredSource (8 + a)) = 2 ∧
        (r.withheld = true → (d.rr (8 + a)).meas = (e.rr (8 + a)).meas) ∧
        (r.withheld = false → e.running 0 = true → (e.convert 0 m.tick 0).2 = true →
          (d.rr (8 + a)).meas.head?.map (fun y => (y.tick, y.x)) = some (m.tick, r.x))) ∧
  (∀ (t a : Nat) (q : Req) (v : Int) (s : State), a < 2 → Accepted (s.reached t) q (Od.surveyStart a) v →
    Completes (.surveyStart t q a v) s fun d =>
      if v = 0 then OnlyChanges (s.reached t) d logObjects [.pair, .pmc]
      else d.nat (Od.surveyState a) = 1 ∧ d.nat (Od.surveyElapsed a) = 0 ∧ d.nat (Od.positionUnc a) = 100000 ∧
        (d.antenna a).surveyAt = (s.reached t).tick ∧
        OnlyChanges (s.reached t) d (Od.surveyState a :: Od.surveyElapsed a :: Od.positionUnc a :: logObjects)
          [.gnss, .pair, .pmc]) ∧
  (∀ (t a : Nat) (s : State), a < 2 →
    let e := s.reached t
    let r := e.antenna a
    if e.nat (Od.surveyState a) = 1 ∧ e.nat (Od.surveyDuration a) * ticksPerSec ≤ e.tick - r.surveyAt ∧ 0 < r.fixes then
      Completes (.surveyDone t a) s fun d =>
        d.nat (Od.surveyState a) = 2 ∧ d.num (Od.antennaPosX a) = toI64 (rdiv r.sum.1 r.fixes) ∧
        d.num (Od.antennaPosY a) = toI64 (rdiv r.sum.2.1 r.fixes) ∧ d.num (Od.antennaPosZ a) = toI64 (rdiv r.sum.2.2 r.fixes) ∧
        d.nat (Od.positionUnc a) = max 10 (min sat32 (r.posError ((e.tick - r.surveyAt) / ticksPerSec))) ∧
        (d.antenna a).surveyOp = none ∧ d.bit Od.gnssSticky Bit.gnssSticky_SurveyDone = true
    else Idles (.surveyDone t a) s t) ∧
  (∀ (t a which : Nat) (q : Req) (v : Int) (s : State), a < 2 → which < 4 →
    Accepted (s.reached t) q (Od.antennaPosX a + which) v →
    Completes (.antennaPositionWrite t q a which v) s fun d =>
      d.num (Od.antennaPosX a + which) = v ∧ d.nat (Od.surveyState a) = 2 ∧ (d.antenna a).surveyOp = none) ∧
  (∀ (t a : Nat) (s : State), a < 2 →
    let e := s.reached t
    if (∃ k, (e.antenna a).posSince = some k ∧ e.nat Od.resurveyDelay * ticksPerSec ≤ e.tick - k) ∧
        e.nat (Od.surveyState a) = 2 ∧ e.bit Od.surveyPermit a = true ∧ e.journalFree = true then
      Completes (.resurveyDelayElapsed t a) s fun d =>
        d.nat (Od.surveyState a) = 1 ∧ (d.antenna a).surveyOp = some (e.nat Od.journalNextOpId) ∧
        d.bit Od.gnssSticky Bit.gnssSticky_ResurveyStarted = true ∧
        ∃ j, d.acc.journal.getLast? = some j ∧ j.kind = 7 ∧ j.done = 2
    else Idles (.resurveyDelayElapsed t a) s t) ∧
  (∀ (t : Nat) (s : State),
    let e := s.reached t
    if e.gnssRuns = true ∧ (∀ k, e.gnss.storedAt = some k → 3600 * ticksPerSec ≤ e.tick - k) then
      Completes (.almanacStore t) s fun d => d.gnss.storedAt = some e.tick ∧ OnlyChanges e d [] [.gnss]
    else Idles (.almanacStore t) s t)

/-- SCHEDULE_OCCURRENCE completes; what follows is said of it with neither commit nor key switch due. With no entry due, or in KEEP,
only SchedEntriesUsed is shown again. With one entry due, not late: a CORE_EVENT entry puts its record into M3's queue where it has
room, and a PULSE entry of a pin that runs drives it from the instant of the occurrence for its Width, less TioOutDelay and on the
interpolators' grid, but for a shared pin of an engine that is not ACTIVE, which stays high-impedance; either way the entry counts the
run and goes on to its next occurrence, and SchedRuns counts. SCHED_ENTRY_WRITE, accepted, arms the entry afresh, or frees it where
its action is 0; where the entry it replaces has no run to make it changes no other entry. (That an instant lies on the nearest point
of the grid is the model's choice, log entry 86.) -/
def Obligations.ScheduleRunsEntries : Prop :=
  (∀ (t : Nat) (s : State),
    let d0 := s.reached t
    Completes (.scheduleOccurrence t) s fun d => NothingDue d0 →
      (d0.entries.filter d0.entryDueNow = [] ∨ d0.nat Od.powerState = 3 →
        d.nat Od.schedEntriesUsed = d0.entries.length ∧ OnlyChanges d0 d [Od.schedEntriesUsed] []) ∧
      ∀ e v, d0.nat Od.powerState ≠ 3 → d0.entries.filter d0.entryDueNow = [e] → v = d0.nat (Od.schedEntry e) →
        (d0.sched e).late = false →
        (entryAction v = 3 → d0.tugs.events.length < 256 →
          (∃ r, d.tugs.events = d0.tugs.events ++ [r] ∧ r.entry = e ∧
            r.tick = d0.cntOf (d0.tickAt (entryScale v) (entryAt v (d0.sched e).next)) ∧
            r.occurrence = ((d0.sched e).next + 1) % 2 ^ 32 ∧ r.param = entryParam v ∧ r.line = entryTarget v ∧
            r.flags = if d0.tugs.eventLoss = true then 2 else 0) ∧
          (d.sched e).next = (d0.sched e).next + 1 ∧ (d.sched e).runs = ((d0.sched e).runs + 1) % 2 ^ 32 ∧
          (d.sched e).skipped = (d0.sched e).skipped ∧ (d.sched e).lastRun = tsNum (entryAt v (d0.sched e).next) ∧
          d.nat Od.schedRuns = (d0.nat Od.schedRuns + 1) % 2 ^ 32) ∧
        ∀ p, entryAction v = 1 → p = entryTarget v → p < 32 → d0.nat (Od.tioState p) = 1 →
          let at' := d0.instantOf (entryScale v) (entryAt v (d0.sched e).next) - d0.outDelay p
          let till := d0.instantOf (entryScale v) (entryAt v (d0.sched e).next + fine16 (entryWidth v)) - d0.outDelay p
          d.out = d0.out ++ (if (d0.nat Od.tioShared).testBit p = true ∧ d0.nat Od.pairRole ≠ 1 then [] else
            [.pulse p (onGrid at') (onGrid till) (d0.highFor p true)]) ∧
          (d.sched e).next = (d0.sched e).next + 1 ∧ (d.sched e).runs = ((d0.sched e).runs + 1) % 2 ^ 32 ∧
          d.nat Od.schedRuns = (d0.nat Od.schedRuns + 1) % 2 ^ 32 ∧
          OnlyChanges d0 d [Od.schedRuns, Od.schedSticky, Od.schedEntriesUsed, Od.tioMerged p, Od.tioPulses p] [.tugs]) ∧
  (∀ (t e : Nat) (q : Req) (v : Int) (s : State), e < 4096 → Accepted (s.reached t) q (Od.schedEntry e) v →
    Completes (.schedEntryWrite t q e v) s fun d =>
      d.nat (Od.schedEntry e) = v.toNat ∧ d.sched e = (if entryAction v.toNat = 0 then {} else { state := 1 }) ∧
      ((s.reached t).entryDueNow e = false →
        (∀ f, f ≠ e → d.sched f = (s.reached t).sched f) ∧
        OnlyChanges (s.reached t) d (Od.schedEntry e :: Od.schedEntriesUsed :: logObjects) [.tugs, .pair, .pmc]))

/-- TIO_PERIODIC_PULSE of an output pin that runs, once the scale has reached its next instant, drives the pin from that instant
for TioWidth, less TioOutDelay and on the interpolators' grid, at the level TioPolarity gives; of a pin that is no output, is held, has
no period or whose instant has not come, it changes nothing. TODOUT_MESSAGE of an enabled output whose pin pulses every second
sends, once for each pulse, the message labelled with the coming pulse under the next sequence number; else it changes nothing. A
shared pin or output of an engine whose role is not ACTIVE stays high-impedance: nothing of it is seen outside. TioFunction, accepted,
reads as written; a pin that becomes OUTPUT takes the state of the mode, one that is no output is OFF. OsynEnable: a change to 1 with
the outputs running starts the synthesizer, aligned or free, and a change to 0 stops it. (The grid's rounding: log entry 86.) -/
def Obligations.PulsesAndMessages : Prop :=
  (∀ (t n : Nat) (s : State), n < 32 →
    let e := s.reached t
    let ts := e.nat (Od.tioTimeScale n)
    let k := e.nextPulse n
    if e.nat (Od.tioFunction n) = 2 ∧ e.nat (Od.tioPeriod n) ≠ 0 ∧ e.nat (Od.tioState n) = 1 ∧ e.running ts = true ∧
        k ≤ e.tsNow ts then
      Completes (.tioPeriodicPulse t n) s fun d =>
        d.out = e.out ++ (if (e.nat Od.tioShared).testBit n = true ∧ e.nat Od.pairRole ≠ 1 then [] else
          [.pulse n (onGrid (e.instantOf ts k - e.outDelay n))
            (onGrid (e.instantOf ts (k + fine16 (e.num (Od.tioWidth n))) - e.outDelay n)) (e.highFor n true)]) ∧
        (d.tio n).pos = k ∧ (∀ m, m ≠ n → d.tio m = e.tio m) ∧
        OnlyChanges e d [Od.tioMerged n, Od.tioPulses n, Od.schedSticky] [.tugs]
    else Idles (.tioPeriodicPulse t n) s t) ∧
  (∀ (t j : Nat) (s : State), j < 2 →
    let e := s.reached t
    let pulse := (e.tsNow 0 + ((e.nat (Od.todoutLead j) * 1000000 : Nat) : Int) * 2 ^ 32) / second * second
    if e.on (Od.todoutEnable j) = true ∧ e.secondPulses (e.nat (Od.todoutPulsePin j)) = true ∧ outputsRun e.md = true ∧
        e.nat Od.powerState ≠ 3 ∧ e.running 0 = true ∧ e.tsNow 0 < pulse ∧
        (∀ m ∈ e.tugs.todSent, m.output = j → m.pulse < pulse) then
      Completes (.todoutMessage t j) s fun d =>
        d.nat (Od.todoutMessages j) = (e.nat (Od.todoutMessages j) + 1) % 2 ^ 32 ∧
        d.nat (Od.todoutSeqNo j) = (e.nat (Od.todoutSeqNo j) + 1) % 256 ∧
        d.out = e.out ++ (if (e.nat Od.todoutShared).testBit j = true ∧ e.nat Od.pairRole ≠ 1 then [] else
          [.tod j (e.todMessageBytes (pulse / second).toNat ((e.nat (Od.todoutSeqNo j) + 1) % 256)
            (e.todProjection pulse))]) ∧
        OnlyChanges e d [Od.todoutMessages j, Od.todoutSeqNo j] [.tugs]
    else Idles (.todoutMessage t j) s t) ∧
  (∀ (t n : Nat) (q : Req) (v : Int) (s : State), n < 32 → Accepted (s.reached t) q (Od.tioFunction n) v →
    Completes (.tioFunctionWrite t q n v) s fun d =>
      d.num (Od.tioFunction n) = v ∧ (v ≠ 2 → d.nat (Od.tioState n) = 0) ∧
      (v = 2 → (s.reached t).nat (Od.tioFunction n) ≠ 2 → d.nat (Od.tioState n) = tioStateIn (s.reached t).md) ∧
      OnlyChanges (s.reached t) d (Od.tioFunction n :: Od.tioState n :: Od.tioTruncated n :: Od.schedSticky :: logObjects)
        [.tugs, .pair, .pmc]) ∧
  (∀ (t o : Nat) (q : Req) (v : Int) (s : State), o < 4 → Accepted (s.reached t) q (Od.osynEnable o) v →
    Completes (.osynEnableWrite t q o v) s fun d =>
      d.num (Od.osynEnable o) = v ∧
      (v ≠ (s.reached t).num (Od.osynEnable o) → v ≠ 0 → outputsRun (s.reached t).md = true →
        d.nat (Od.osynState o) = (if (s.reached t).nat (Od.osynAlign o) = 1 then 1 else 3) ∧ d.num (Od.osynPhaseError o) = 0) ∧
      (v ≠ (s.reached t).num (Od.osynEnable o) → v = 0 → d.nat (Od.osynState o) = 0) ∧
      OnlyChanges (s.reached t) d (Od.osynEnable o :: Od.osynState o :: Od.osynPhaseError o :: logObjects) [.pair, .pmc])

/-- LaneEnable, accepted, reads as written on every lane of the group: 1 for an OFF lane takes the group to CALIBRATING with the
entry of its rate applied, 0 to OFF with its link down; LaneRestart other than 0 to CALIBRATING too; a lane outside the group
keeps its state. LANE_CALIBRATION_COMPLETE for the lane that controls its group, CALIBRATING: FAULT with EqMissing where a lane has
no entry; else, from 3 ms after the entry on, FAULT with LoopCheckFail where a loop delay is off by more than its tolerance, else
DRAINED where LaneDrain is set and DOWN where it is not. LINK_UP takes DOWN to UP with RxSlip recorded, LINK_DOWN UP to DOWN with a
report; in DRAINED and LOOP they move the link alone, elsewhere nothing of the lane. LaneDrain and LaneLoop, accepted, take the
lane to DRAINED and LOOP and back. EQ_ENTRY_WRITE changes the entry and shows EqPending, and no latency. -/
def Obligations.LanesChangeState : Prop :=
  (∀ (t l : Nat) (q : Req) (v : Int) (s : State), l < 22 → Accepted (s.reached t) q (Od.laneEnable l) v →
    let e := s.reached t
    Completes (.laneEnableWrite t q l v) s fun d =>
      (∀ m ∈ e.laneGroup l, d.num (Od.laneEnable m) = v) ∧
      (v = 0 → e.nat (Od.laneState l) ≠ 0 → ∀ m ∈ e.laneGroup l, d.nat (Od.laneState m) = 0 ∧ d.nat (Od.laneLinkUp m) = 0) ∧
      (v ≠ 0 → e.nat (Od.laneState l) = 0 → 2 ≤ e.md → ∀ m ∈ e.laneGroup l,
        d.nat (Od.laneState m) = 1 ∧ d.nat (Od.laneLinkUp m) = 0 ∧ (d.lane m).applied = e.eqStored m) ∧
      ∀ m < 22, m ∉ e.laneGroup l → d.nat (Od.laneState m) = e.nat (Od.laneState m) ∧ d.lane m = e.lane m) ∧
  (∀ (t l : Nat) (q : Req) (v : Int) (s : State), l < 22 → Accepted (s.reached t) q (Od.laneRestart l) v →
    let e := s.reached t
    Completes (.laneRestart t q l v) s fun d =>
      if v = 0 then OnlyChanges e d (synceObjects ++ logObjects) [.sel, .pair, .pmc]
      else
        (∀ m ∈ e.laneGroup l, d.nat (Od.laneState m) = 1 ∧ d.nat (Od.laneLinkUp m) = 0 ∧ (d.lane m).applied = e.eqStored m) ∧
        ∀ m < 22, m ∉ e.laneGroup l → d.nat (Od.laneState m) = e.nat (Od.laneState m) ∧ d.lane m = e.lane m) ∧
  (∀ (t l : Nat) (delays : List Nat) (burnish : List (List Nat)) (s : State), l < 22 →
    let e := s.reached t
    let g := e.laneGroup l
    let c := .laneCalibrationComplete t l delays burnish
    let measured (m : Nat) : Int := (((g.zip delays).find? (·.1 == m)).map fun p => (p.2 : Int)).getD (e.num (Od.loopDelayMeasured m))
    if e.nat (Od.laneState l) ≠ 1 then Idles c s t
    else Completes c s fun d =>
      if e.laneHead l ≠ l then ∀ m < 22, d.nat (Od.laneState m) = e.nat (Od.laneState m)
      else if g.any (fun m => !eqPresent (e.lane m).applied) = true then
        ∀ m ∈ g, d.nat (Od.laneState m) = 6 ∧ d.bit (Od.laneSticky m) Bit.laneSticky_EqMissing = true ∧ d.isLive (126 + m) = true
      else if e.tick - (e.lane l).calAt < 3 * ticksPerMs then ∀ m ∈ g, d.nat (Od.laneState m) = e.nat (Od.laneState m)
      else
        (∀ m ∈ g, d.num (Od.loopDelayMeasured m) = measured m) ∧
        if ∃ m ∈ g, e.nat Od.loopCheckTolerance * 65536 < (measured m - e.num (Od.loopDelayFactory m)).natAbs * 1000000 then
          ∀ m ∈ g, d.nat (Od.laneState m) = 6 ∧ d.bit (Od.laneSticky m) Bit.laneSticky_LoopCheckFail = true ∧
            d.isLive (126 + m) = true
        else ∀ m ∈ g, d.nat (Od.laneState m) = (if e.on (Od.laneDrain l) = true then 4 else 2) ∧
          (d.lane m).checkAt = some e.tick) ∧
  (∀ (t l : Nat) (slips : List Nat) (x : Int) (s : State), l < 22 →
    let e := s.reached t
    Completes (.linkUp t l slips x) s fun d =>
      if e.nat (Od.laneState l) = 2 ∨ e.nat (Od.laneState l) = 4 ∨ e.nat (Od.laneState l) = 5 then
        ∀ m ∈ e.laneGroup l, d.nat (Od.laneLinkUp m) = 1 ∧
          d.nat (Od.rxSlip m) = min (slips.getD (m - l) 0) (if e.nat (Od.lanePcs m) = 0 then 19 else 65) ∧
          d.bit (Od.laneSticky m) Bit.laneSticky_LinkUp = true ∧
          d.nat (Od.laneState m) = if e.nat (Od.laneState l) = 2 then 3 else e.nat (Od.laneState m)
      else OnlyChanges e d synceObjects [.sel]) ∧
  (∀ (t l : Nat) (s : State), l < 22 →
    let e := s.reached t
    let st := e.nat (Od.laneState l)
    Completes (.linkDown t l) s fun d =>
      if e.nat (Od.lpiRxState l) = 0 ∧ (st = 3 ∨ st = 4 ∨ st = 5) then
        if st = 3 then
          (∀ m ∈ e.laneGroup l, d.nat (Od.laneState m) = 2 ∧ d.nat (Od.laneLinkUp m) = 0 ∧
            d.bit (Od.laneSticky m) Bit.laneSticky_LinkDown = true ∧
            d.nat (Od.linkDowns m) = (e.nat (Od.linkDowns m) + 1) % 2 ^ 32) ∧
          ∃ r, d.flt.queue = e.flt.queue ++ [r] ∧ r.src = 104 + l ∧ r.detail = 0
        else d.nat (Od.laneLinkUp l) = 0 ∧
          OnlyChanges e d ((e.laneGroup l).flatMap (fun m => [Od.laneLinkUp m, Od.laneSticky m]) ++ synceObjects) [.sel]
      else e.nat (Od.lpiRxState l) ≠ 1 → OnlyChanges e d synceObjects [.sel]) ∧
  (∀ (t l : Nat) (q : Req) (v : Int) (s : State), l < 22 → Accepted (s.reached t) q (Od.laneDrain l) v →
    let e := s.reached t
    let st := e.nat (Od.laneState l)
    Completes (.laneDrainWrite t q l v) s fun d =>
      ∀ m ∈ e.laneGroup l, d.num (Od.laneDrain m) = v ∧
        d.nat (Od.laneState m) = (if v ≠ 0 ∧ (st = 2 ∨ st = 3) then 4
          else if v = 0 ∧ st = 4 then (if e.on (Od.laneLinkUp l) = true then 3 else 2) else e.nat (Od.laneState m))) ∧
  (∀ (t l : Nat) (q : Req) (v : Int) (s : State), l < 22 → Accepted (s.reached t) q (Od.laneLoop l) v →
    let e := s.reached t
    let st := e.nat (Od.laneState l)
    Completes (.laneLoopWrite t q l v) s fun d =>
      d.num (Od.laneLoop l) = v ∧
      ∀ m ∈ e.laneGroup l,
        d.nat (Od.laneState m) = (if v ≠ 0 ∧ (st = 4 ∨ e.md = Mode.test ∧ (st = 2 ∨ st = 3)) then 5
          else if v = 0 ∧ st = 5 then (if e.md = Mode.test then 2 else 4) else e.nat (Od.laneState m))) ∧
  (∀ (t l r : Nat) (q : Req) (v : Int) (s : State), l < 22 → r < 256 → Accepted (s.reached t) q (Od.eqEntry l r) v →
    Completes (.eqEntryWrite t q l r v) s fun d =>
      d.nat (Od.eqEntry l r) = v.toNat ∧
      d.bit (Od.laneLive l) 5 = (d.eqStored l != ((s.reached t).lane l).applied) ∧
      OnlyChanges (s.reached t) d (Od.eqEntry l r :: Od.laneLive l :: Od.laneSticky l :: logObjects) [.pair, .pmc])

/-- Receive direction: RX_LPI_ENTRY takes an UP lane from ACTIVE to SLEEP and counts, RX_LPI_EXIT back, RX_LPI_SIGNAL_LOSS to QUIET
where receive QUIET is enabled, else the lane DOWN, RX_SIGNAL_DETECTED to WAKE, RX_WAKE_LOCK within 1 ms to ACTIVE with RxSlip
recorded, and RX_QUIET_TIMEOUT the lane DOWN. Transmit direction: TX_LPI_IDLE after LpiIdleTime to SLEEP or QUIET and counts,
TX_LPI_WAKE_TRIGGER outside power state QUIET to WAKE, TX_WAKE_COMPLETE after LpiWakeTime to ACTIVE, LPI_REFRESH notes the
refresh. In any other state each of them changes nothing of the lane. WAKE_PATTERN_DETECTED whose edges are those of WakeCode, on a
lane with an enabled detector in QUIET or KEEP, counts and sets WakeDetected, and with WakeSources wakes the engine from KEEP;
WakeSend, accepted, sends the pattern for 4,096 us, which WAKE_SEND_DONE ends. -/
def Obligations.LanesSleepAndWake : Prop :=
  (∀ (t l : Nat) (s : State), l < 22 →
    let e := s.reached t
    (if e.nat (Od.laneState l) = 3 ∧ e.nat (Od.lpiRxState l) = 0 then
      Completes (.rxLpiEntry t l) s fun d =>
        d.nat (Od.lpiRxState l) = 1 ∧ (d.lane l).rxAt = e.tick ∧
        d.nat (Od.lpiRxEntries l) = (e.nat (Od.lpiRxEntries l) + 1) % 2 ^ 32 ∧
        OnlyChanges e d [Od.lpiRxState l, Od.lpiRxEntries l, Od.eyeScanState, Od.eyeScanTime] [.lanes]
    else Idles (.rxLpiEntry t l) s t) ∧
    (if e.nat (Od.lpiRxState l) = 1 then
      Completes (.rxLpiExit t l) s (fun d =>
        d.nat (Od.lpiRxState l) = 0 ∧ OnlyChanges e d [Od.lpiRxState l] [.lanes]) ∧
      Completes (.rxLpiSignalLoss t l) s fun d =>
        ((e.nat (Od.lpiEnable l)).testBit 2 = true → d.nat (Od.lpiRxState l) = 2 ∧
          OnlyChanges e d (Od.lpiRxState l :: Od.eyeScanState :: Od.eyeScanTime :: synceObjects) [.lanes, .sel]) ∧
        ((e.nat (Od.lpiEnable l)).testBit 2 = false → e.nat (Od.laneState l) = 3 →
          d.nat (Od.laneState l) = 2 ∧ d.nat (Od.laneLinkUp l) = 0 ∧ d.nat (Od.lpiRxState l) = 0)
    else Idles (.rxLpiExit t l) s t ∧ Idles (.rxLpiSignalLoss t l) s t) ∧
    (if e.nat (Od.lpiRxState l) = 2 then
      Completes (.rxSignalDetected t l) s fun d =>
        d.nat (Od.lpiRxState l) = 3 ∧ (d.lane l).rxAt = e.tick ∧
        OnlyChanges e d [Od.lpiRxState l, Od.eyeScanState, Od.eyeScanTime] [.lanes]
    else Idles (.rxSignalDetected t l) s t) ∧
    (∀ slip, if e.nat (Od.lpiRxState l) = 3 ∧ e.tick - (e.lane l).rxAt ≤ ticksPerMs then
      Completes (.rxWakeLock t l slip) s fun d =>
        d.nat (Od.lpiRxState l) = 0 ∧ d.nat (Od.rxSlip l) = min slip (if e.nat (Od.lanePcs l) = 0 then 19 else 65) ∧
        OnlyChanges e d (Od.lpiRxState l :: Od.rxSlip l :: Od.laneSticky l :: Od.laneTxLatency l :: Od.laneRxLatency l ::
          synceObjects) [.lanes, .sel]
    else Idles (.rxWakeLock t l slip) s t) ∧
    Completes (.rxQuietTimeout t l) s fun d =>
      if (e.nat (Od.lpiRxState l) = 2 ∧ e.nat Od.rxQuietMax * ticksPerMs ≤ e.tick - (e.lane l).rxAt) ∨
          (e.nat (Od.lpiRxState l) = 3 ∧ ticksPerMs ≤ e.tick - (e.lane l).rxAt) then
        d.bit (Od.laneSticky l) Bit.laneSticky_RxQuietTimeout = true ∧
        (e.nat (Od.laneState l) = 3 → d.nat (Od.laneState l) = 2 ∧ d.nat (Od.lpiRxState l) = 0 ∧
          d.nat (Od.linkDowns l) = (e.nat (Od.linkDowns l) + 1) % 2 ^ 32)
      else OnlyChanges e d synceObjects [.sel]) ∧
  (∀ (t l : Nat) (s : State), l < 22 →
    let e := s.reached t
    (if e.nat (Od.laneState l) = 3 ∧ e.nat (Od.lpiTxState l) = 0 ∧ (e.nat (Od.lpiEnable l)).testBit 0 = true ∧
        e.frameSendSoon l = false ∧ e.nat (Od.lpiIdleTime l) * ticksPerUs ≤ e.tick - (e.lane l).sentAt then
      Completes (.txLpiIdle t l) s fun d =>
        d.nat (Od.lpiTxState l) = (if (e.nat (Od.lpiEnable l)).testBit 1 = true then 2 else 1) ∧
        d.nat (Od.lpiTxEntries l) = (e.nat (Od.lpiTxEntries l) + 1) % 2 ^ 32 ∧
        OnlyChanges e d [Od.lpiTxState l, Od.lpiTxEntries l] [.lanes]
    else Idles (.txLpiIdle t l) s t) ∧
    (if (e.nat (Od.lpiTxState l) = 1 ∨ e.nat (Od.lpiTxState l) = 2) ∧ e.nat Od.powerState ≠ 2 then
      Completes (.txLpiWakeTrigger t l) s fun d =>
        d.nat (Od.lpiTxState l) = 3 ∧ (d.lane l).txAt = e.tick ∧ OnlyChanges e d [Od.lpiTxState l] [.lanes]
    else Idles (.txLpiWakeTrigger t l) s t) ∧
    (if e.nat (Od.lpiTxState l) = 3 ∧ e.lpiWake l ≤ e.tick - (e.lane l).txAt then
      Completes (.txWakeComplete t l) s fun d =>
        d.nat (Od.lpiTxState l) = 0 ∧ OnlyChanges e d [Od.lpiTxState l] [.lanes]
    else Idles (.txWakeComplete t l) s t) ∧
    (if e.nat (Od.lpiTxState l) = 2 then
      Completes (.lpiRefresh t l) s fun d => (d.lane l).refreshAt = e.tick ∧ OnlyChanges e d [] [.lanes]
    else Idles (.lpiRefresh t l) s t)) ∧
  (∀ (t l : Nat) (edges : List Nat) (s : State), l < 22 →
    let e := s.reached t
    if (∃ b, wakeDetector l = some b ∧ e.bit Od.wakeDetectEnable b = true) ∧ (e.nat Od.powerState = 2 ∨ e.nat Od.powerState = 3) ∧
        e.wakeMatches edges = true then
      Completes (.wakePatternDetected t l edges) s fun d =>
        (e.bit Od.wakeSources 0 = false →
          d.nat Od.wakesDetected = (e.nat Od.wakesDetected + 1) % 2 ^ 32 ∧
          d.bit (Od.laneSticky l) Bit.laneSticky_WakeDetected = true ∧
          OnlyChanges e d [Od.wakesDetected, Od.laneSticky l] []) ∧
        (e.bit Od.wakeSources 0 = true → e.power.change = .none → e.nat Od.powerState = 3 →
          d.nat Od.lastWakeCause = 2 ∧ d.power.change = .waking (e.nat Od.wakeTarget) e.tick)
    else Idles (.wakePatternDetected t l edges) s t) ∧
  (∀ (t : Nat) (q : Req) (v : Int) (s : State), Accepted (s.reached t) q Od.wakeSend v →
    Completes (.wakeSend t q v) s fun d =>
      (d.lane v.toNat).waking = some ((s.reached t).tick + 4096 * ticksPerUs) ∧
      OnlyChanges (s.reached t) d logObjects [.lanes, .pair, .pmc]) ∧
  (∀ (t l : Nat) (s : State), l < 22 →
    if ∃ k, ((s.reached t).lane l).waking = some k ∧ k ≤ (s.reached t).tick then
      Completes (.wakeSendDone t l) s fun d => (d.lane l).waking = none ∧ OnlyChanges (s.reached t) d [] [.lanes]
    else Idles (.wakeSendDone t l) s t)

/-- Accepted writes, the counters first brought up to now: PatTxMode reads as written, and PatRxMode too, with the checker out of lock
at 0 and locked on the lane's own generator of the same pattern in the near-end serial loop; PatInjectOne with a generator running
counts in PatInjected, and in PatErrors where the loop brings it to a locked checker; PatClear clears the four counters. PAT_LOCK_LOSS
above one error in ten of 1,024 bits counts the errors and the loss, and the checker locks again. EyeScanStart runs on a lane that
is UP, DRAINED or in LOOP and awake, and is ABORTED on any other; EYE_SCAN_DONE of a running scan, once the lane has carried the
bits of its 1,024 cells, keeps its map, with its width and its height, and is DONE. -/
def Obligations.PatternsAndEyeScan : Prop :=
  (∀ (t i : Nat) (q : Req) (v : Int) (s : State), i < 6 → Accepted (s.reached t) q (Od.patTxMode i) v →
    Completes (.patModeWrite t q i true v) s fun d =>
      d.num (Od.patTxMode i) = v ∧
      ((s.reached t).nat (Od.laneLoop (16 + i)) ≠ 1 → d.num (Od.patLocked i) = (s.reached t).num (Od.patLocked i)) ∧
      OnlyChanges (s.reached t) d ([Od.patTxMode i, Od.patLocked i, Od.patBits i, Od.patErrors i, Od.patInjected i] ++ logObjects)
        [.lanes, .pair, .pmc]) ∧
  (∀ (t i : Nat) (q : Req) (v : Int) (s : State), i < 6 → Accepted (s.reached t) q (Od.patRxMode i) v →
    Completes (.patModeWrite t q i false v) s fun d =>
      d.num (Od.patRxMode i) = v ∧ (v = 0 → d.nat (Od.patLocked i) = 0) ∧
      (v ≠ 0 → (s.reached t).nat (Od.laneLoop (16 + i)) = 1 → (s.reached t).nat (Od.patTxMode i) = v.toNat → v.toNat ≠ 0 →
        d.nat (Od.patLocked i) = 1) ∧
      OnlyChanges (s.reached t) d ([Od.patRxMode i, Od.patLocked i, Od.patBits i, Od.patErrors i, Od.patInjected i] ++ logObjects)
        [.lanes, .pair, .pmc]) ∧
  (∀ (t i : Nat) (q : Req) (v : Int) (s : State), i < 6 → Accepted (s.reached t) q (Od.patInjectOne i) v →
    let e := s.reached t
    let (b, errs, inj) := e.patNow i
    let hit := v ≠ 0 ∧ e.nat (Od.patTxMode i) ≠ 0
    Completes (.patInjectOne t q i v) s fun d =>
      d.nat (Od.patBits i) = b ∧ d.nat (Od.patInjected i) = (if hit then (inj + 1) % 2 ^ 64 else inj) ∧
      d.nat (Od.patErrors i) =
        (if hit ∧ e.nat (Od.laneLoop (16 + i)) = 1 ∧ e.on (Od.patLocked i) = true then (errs + 1) % 2 ^ 64 else errs) ∧
      OnlyChanges e d ([Od.patBits i, Od.patErrors i, Od.patInjected i] ++ logObjects) [.lanes, .pair, .pmc]) ∧
  (∀ (t i : Nat) (q : Req) (v : Int) (s : State), i < 6 → Accepted (s.reached t) q (Od.patClear i) v →
    Completes (.patClear t q i v) s fun d =>
      (v ≠ 0 → d.nat (Od.patBits i) = 0 ∧ d.nat (Od.patErrors i) = 0 ∧ d.nat (Od.patInjected i) = 0 ∧
        d.nat (Od.patLockLosses i) = 0) ∧
      OnlyChanges (s.reached t) d ([Od.patBits i, Od.patErrors i, Od.patInjected i, Od.patLockLosses i] ++ logObjects)
        [.lanes, .pair, .pmc]) ∧
  (∀ (t i errs : Nat) (s : State), i < 6 →
    let e := s.reached t
    if e.nat (Od.patRxMode i) ≠ 0 ∧ e.on (Od.patLocked i) = true ∧ 1024 < 10 * errs then
      Completes (.patLockLoss t i errs) s fun d =>
        d.nat (Od.patBits i) = (e.patNow i).1 ∧ d.nat (Od.patErrors i) = ((e.patNow i).2.1 + errs) % 2 ^ 64 ∧
        d.nat (Od.patLockLosses i) = (e.nat (Od.patLockLosses i) + 1) % 2 ^ 32 ∧ d.num (Od.patLocked i) = e.num (Od.patLocked i) ∧
        OnlyChanges e d [Od.patBits i, Od.patErrors i, Od.patInjected i, Od.patLockLosses i] [.lanes]
    else Idles (.patLockLoss t i errs) s t) ∧
  (∀ (t : Nat) (q : Req) (v : Int) (s : State), Accepted (s.reached t) q Od.eyeScanStart v →
    let e := s.reached t
    let l := e.nat Od.eyeScanLane
    let runs := 3 ≤ e.nat (Od.laneState l) ∧ e.nat (Od.laneState l) ≤ 5 ∧ e.nat (Od.lpiRxState l) = 0
    Completes (.eyeScanStart t q v) s fun d =>
      if v = 0 then OnlyChanges e d logObjects [.pair, .pmc]
      else d.nat Od.eyeScanState = (if runs then 1 else 3) ∧ (d.lane l).eyeAt = (if runs then some e.tick else none) ∧
        OnlyChanges e d (Od.eyeScanState :: Od.eyeScanTime :: logObjects) [.lanes, .pair, .pmc]) ∧
  (∀ (t : Nat) (map : List Byte) (s : State),
    let e := s.reached t
    let cell (r c : Nat) : Bool := (map[64 * r + c]?).getD 0 == 0
    if e.eyeRun.any (fun p => decide (1024 * e.nat Od.eyeDwellBits ≤ e.bitsSince p.1 p.2)) = true then
      Completes (.eyeScanDone t map) s fun d =>
        d.nat Od.eyeScanState = 2 ∧ d.nat Od.eyeMap = beNat ((map ++ List.replicate 1024 0).take 1024) ∧
        d.nat Od.eyeWidth = longestRun ((List.range 64).map fun c => cell 7 c && cell 8 c) * 1000 / 64 ∧
        d.nat Od.eyeHeight = longestRun ((List.range 16).map fun r => cell r 32) * e.nat Od.eyeVStep ∧
        d.num Od.eyeScanTime = e.now0 ∧
        OnlyChanges e d [Od.eyeScanState, Od.eyeMap, Od.eyeWidth, Od.eyeHeight, Od.eyeScanTime] [.lanes]
    else Idles (.eyeScanDone t map) s t)

/-- RX_FRAME on a port that neither passes frames nor is drained changes nothing but what the consumers have taken. Else a frame not
reassembled, with a bad FCS, of a length not allowed, not in Table 11-2 or with another tag is counted as such and nothing else;
one with room counts in RxFrames and RxOctets and is passed on under its class, with its stamp where the lane has one. A
PAUSE_FRAME_RECEIVED pauses each class it names, with PAUSE every class, but those ignored. TX_FRAME_COMMIT of a core's frame, or
where no message of the port is ready, sends it where it may start and changes nothing where it may not; else the message goes out
of the queue where it may start. LAUNCH_TIME_FRAME sends the port's next launch-time frame at its T where it came in time and the
transmitter is free, else counts it in LaunchMissed. TSQ_READ takes the oldest entry, and of an empty queue reads zeros with
Flags [7]. TX_SLOT_WRITE takes a frame that is not above MaxFrame. (The order of the pair: log entry 90.) -/
def Obligations.FramesReceivedAndSent : Prop :=
  (∀ (t p : Nat) (f : RxF) (s : State), p < 18 →
    let e := (s.reached t).rxTaken p f.taken
    let drained := e.on (Od.portEnable p) = true ∧ e.nat (Od.laneState (laneOfPort p)) = 4 ∧ e.nat (Od.portMode p) ≠ 5
    Completes (.rxFrame t p f) s fun d =>
      if e.portUp p = false ∧ ¬drained then OnlyChanges e d [] [] ∧ d.out = e.out
      else if f.assembled = false then
        d.nat (Od.rxAssemblyErrors p) = (e.nat (Od.rxAssemblyErrors p) + 1) % 2 ^ 32 ∧
        d.bit (Od.portSticky p) Bit.portSticky_AssemblyError = true ∧
        OnlyChanges e d [Od.rxAssemblyErrors p, Od.portSticky p] []
      else if f.fcsOk = false then
        d.nat (Od.rxFcsErrors p) = (e.nat (Od.rxFcsErrors p) + 1) % 2 ^ 32 ∧
        d.bit (Od.portSticky p) Bit.portSticky_FcsError = true ∧
        OnlyChanges e d [Od.rxFcsErrors p, Od.portSticky p] []
      else if f.len < 64 ∨ e.nat (Od.maxFrame p) < f.len then
        d.nat (Od.rxLengthErrors p) = (e.nat (Od.rxLengthErrors p) + 1) % 2 ^ 32 ∧ OnlyChanges e d [Od.rxLengthErrors p] []
      else if e.rxAccepted p f = false ∨ e.vlanOk p f = false ∨
          (e.rxKind f = .other ∧ e.on (Od.coreRxEnable p) = false) then
        d.nat (Od.rxFiltered p) = (e.nat (Od.rxFiltered p) + 1) % 2 ^ 32 ∧ OnlyChanges e d [Od.rxFiltered p] []
      else if drained then
        d.nat (Od.rxFrames p) = (e.nat (Od.rxFrames p) + 1) % 2 ^ 64 ∧
        d.nat (Od.rxOctets p) = (e.nat (Od.rxOctets p) + f.len) % 2 ^ 64 ∧ OnlyChanges e d [Od.rxFrames p, Od.rxOctets p] []
      else match e.rxPlace p (e.rxClass p f) f.len with
        | none => d.bit (Od.portSticky p) Bit.portSticky_RxOverflow = true ∧
          (p < 16 → d.nat (Od.rxDropClass p (e.rxClass p f)) = (e.nat (Od.rxDropClass p (e.rxClass p f)) + 1) % 2 ^ 32 ∧
            ∃ r, d.flt.queue = e.flt.queue ++ [r] ∧ r.src = 164 + p ∧ r.detail = e.rxClass p f) ∧
          OnlyChanges e d [Od.portSticky p, Od.rxDropClass p (e.rxClass p f)] [.flt]
        | some pool =>
          d.nat (Od.rxFrames p) = (e.nat (Od.rxFrames p) + 1) % 2 ^ 64 ∧
          d.nat (Od.rxOctets p) = (e.nat (Od.rxOctets p) + f.len) % 2 ^ 64 ∧
          (d.port p).rx = (e.port p).rx ++ [⟨e.rxClass p f, f.len, pool⟩] ∧
          match f.stamp with
          | some x =>
            Msg.frame p 3 [e.rxClass p f, f.len, 1, (e.rxStamp p x).1, (e.rxStamp p x).2] ∈ d.out ∧
            OnlyChanges e d ([Od.rxFrames p, Od.rxOctets p, Od.pauseTxFrames p, Od.portLive p] ++ logObjects)
              [.ports, .svc, .pair, .pmc]
          | none =>
            d.nat (Od.rxStampInvalid p) = (e.nat (Od.rxStampInvalid p) + 1) % 2 ^ 32 ∧
            d.bit (Od.portSticky p) Bit.portSticky_StampInvalid = true ∧
            Msg.frame p 3 [e.rxClass p f, f.len, 0] ∈ d.out ∧
            OnlyChanges e d ([Od.rxFrames p, Od.rxOctets p, Od.pauseTxFrames p, Od.portLive p, Od.rxStampInvalid p,
              Od.portSticky p, Od.laneStampLost (laneOfPort p), Od.laneSticky (laneOfPort p)] ++ logObjects)
              [.ports, .svc, .pair, .pmc, .flt]) ∧
  (∀ (t p enable : Nat) (times : List Nat) (s : State), p < 18 →
    let e := s.reached t
    let mode := e.nat (Od.pauseMode p)
    let names (c : Nat) := mode = 1 ∨ (2 ≤ mode ∧ enable.testBit c = true)
    let time (c : Nat) : Nat := if mode = 1 then times.headD 0 else (times[c]?).getD 0
    if e.portUp p = false ∨ 16 ≤ p then Idles (.pauseFrameReceived t p enable times) s t
    else Completes (.pauseFrameReceived t p enable times) s fun d =>
      d.nat (Od.pauseRxFrames p) = (e.nat (Od.pauseRxFrames p) + 1) % 2 ^ 32 ∧
      (∀ c < 8, (names c ∧ e.bit (Od.pauseIgnoreMask p) c = false ∧ (e.pauseReg p c).ignore ≤ e.tick →
        (time c ≠ 0 → (d.pauseReg p c).ends = e.tick + e.quanta p (time c) ∧
          (d.pauseReg p c).from' = some ((e.pauseReg p c).from'.getD e.tick)) ∧
        (time c = 0 → (d.pauseReg p c).from' = none)) ∧
        (¬names c ∨ e.bit (Od.pauseIgnoreMask p) c = true ∨ e.tick < (e.pauseReg p c).ignore →
          d.pauseReg p c = e.pauseReg p c)) ∧
      OnlyChanges e d [Od.pauseRxFrames p, Od.portLive p] [.ports]) ∧
  (∀ (t p : Nat) (f : TxF) (s : State), p < 18 →
    let e := s.reached t
    let x := e.pointAt p f
    match (if f.core = true then none else (e.nextQueued p).1) with
    | none =>
      if e.mayStart p f = true ∧ (f.core = true → e.inOrder p f = true) then
        Completes (.txFrameCommit t p f) s fun d =>
          if e.md = Mode.follower ∧ p < 16 then
            d.nat (Od.txWithheld p) = (e.nat (Od.txWithheld p) + 1) % 2 ^ 64 ∧ d.num (Od.txFrames p) = e.num (Od.txFrames p) ∧
            d.out = e.out
          else
            d.nat (Od.txFrames p) = (e.nat (Od.txFrames p) + 1) % 2 ^ 64 ∧
            d.nat (Od.txOctets p) = (e.nat (Od.txOctets p) + f.len) % 2 ^ 64 ∧ (d.port p).commit = (f.ready, f.ordinal) ∧
            d.svc = e.svc ∧
            (∃ log, d.out = e.out ++ log ++ [.frame p 4 [f.cls, e.nat (Od.vlanId p), f.len, x / 65536, x % 65536]]) ∧
            (f.request = none ∨ f.core = false →
              (d.port p).tsq = (e.port p).tsq ∧
              OnlyChanges e d [Od.txFrames p, Od.txOctets p, Od.txFragments p] [.ports, .lanes]) ∧
            ∀ seq tag, f.request = some (seq, tag) → f.core = true →
              ((e.port p).tsq.filter fun y => !y.isTomb).length < 1024 →
              (d.port p).tsq = (e.port p).tsq ++ [.stamp (e.cntOf (x / 65536)) (x % 65536) seq tag] ∧
              d.nat (Od.tsqStored p) = (e.nat (Od.tsqStored p) + 1) % 2 ^ 64
      else Idles (.txFrameCommit t p f) s t
    | some m =>
      let g : TxF := match m.body with
        | .slot _ y => { f with core := false, ready := m.ready, ordinal := m.ordinal, cls := y.cls, len := y.frame.length }
        | _ => { f with core := false, ready := m.ready, ordinal := m.ordinal }
      let starts := match m.body with
        | .slot _ y => e.txFree p y.cls x && e.guardsClear p g x
        | _ => e.mayStart p g && e.inOrder p g
      if starts = true then
        Completes (.txFrameCommit t p f) s fun d =>
          (∃ new, d.svc.queue = (e.nextQueued p).2 ++ new) ∧
          (m.pipe < 4 → d.nat (Od.pipeTxPackets m.pipe) = (e.nat (Od.pipeTxPackets m.pipe) + 1) % 2 ^ 64) ∧
          if e.md = Mode.follower ∧ m.port < 16 then
            d.nat (Od.txWithheld m.port) = (e.nat (Od.txWithheld m.port) + 1) % 2 ^ 64 ∧ d.out = e.out
          else
            d.nat (Od.txFrames m.port) = (e.nat (Od.txFrames m.port) + 1) % 2 ^ 64 ∧
            d.out = e.out ++ [.frame m.port m.kind ([g.cls, e.nat (Od.vlanId m.port), g.len, x / 65536, x % 65536] ++
              e.bodyFields m.body (x / 65536) (x % 65536) ++ m.keyId.toList ++ m.launch.toList)]
      else Idles (.txFrameCommit t p f) s t) ∧
  (∀ (t p arrived : Nat) (f : TxF) (s : State), p < 16 →
    let e := s.reached t
    match (e.nextLaunch p).1 with
    | none => Idles (.launchTimeFrame t p arrived f) s t
    | some m =>
      let at' := m.launch.getD 0
      if e.tick < at' then Idles (.launchTimeFrame t p arrived f) s t
      else Completes (.launchTimeFrame t p arrived f) s fun d =>
        if e.md = Mode.follower then ∃ new, d.svc.queue = (e.nextLaunch p).2 ++ new
        else if e.afterExchange f = true then d.svc.queue = (e.nextLaunch p).2 ∧ OnlyChanges e d [] [.svc]
        else if arrived + 2 * ticksPerUs ≤ at' ∧ e.txFree p f.cls (at' * 65536) = true then
          d.nat (Od.txFrames m.port) = (e.nat (Od.txFrames m.port) + 1) % 2 ^ 64 ∧
          d.out = e.out ++ [.frame m.port m.kind ([f.cls, e.nat (Od.vlanId m.port), f.len, at', 0] ++
            e.bodyFields m.body at' 0 ++ m.keyId.toList ++ m.launch.toList)]
        else
          d.nat (Od.launchMissed p) = (e.nat (Od.launchMissed p) + 1) % 2 ^ 32 ∧
          d.bit (Od.portSticky p) Bit.portSticky_LaunchMissed = true ∧ d.num (Od.txFrames p) = e.num (Od.txFrames p) ∧
          (m.again = true → d.svc.queue = (e.nextLaunch p).2 ∧ (m.pipe < 4 →
            d.nat (Od.launchDrops m.pipe) = (e.nat (Od.launchDrops m.pipe) + 1) % 2 ^ 32)) ∧
          (m.again = false → ∃ new, d.svc.queue = (e.nextLaunch p).2 ++ new ∧ ∀ y ∈ new, y.again = true ∧ y.body = m.body)) ∧
  (∀ (t p : Nat) (s : State), p < 18 →
    let e := s.reached t
    match (e.port p).tsq with
    | [] => Completes (.tsqRead t p) s fun d =>
      d.out = e.out ++ [.spi (leBytes 15 0 ++ leBytes 1 128 ++ leBytes 16 0)] ∧ OnlyChanges e d [] []
    | x :: rest => Completes (.tsqRead t p) s fun d =>
      d.out = e.out ++ [.spi (x.bytes p)] ∧ (d.port p).tsq = rest ∧
      d.nat (Od.tsqDepth p) = (rest.filter fun y => !y.isTomb).length ∧ (∀ r, r ≠ p → d.port r = e.port r) ∧
      OnlyChanges e d ([Od.tsqDepth p, Od.tsqTombstoneOpen p, Od.portLive p] ++ logObjects) [.ports, .pmc]) ∧
  (∀ (t p n cls : Nat) (ins : Option Insert) (frame : List Byte) (s : State), p < 16 → n < 64 →
    let e := s.reached t
    if e.nat (Od.maxFrame p) < frame.length then Idles (.txSlotWrite t p n cls ins frame) s t
    else Completes (.txSlotWrite t p n cls ins frame) s fun d =>
      (∀ k, e.tick + 2 * ticksPerUs ≤ k → d.slotFrame p n k = { cls, insert := ins, frame }) ∧
      (∀ k, e.tick ≤ k → k < e.tick + 2 * ticksPerUs → d.slotFrame p n k = e.slotFrame p n k) ∧
      d.bit (Od.slotsLoaded p) n = !frame.isEmpty ∧ OnlyChanges e d [Od.slotsLoaded p] [.ports])

/-- PreemptEnable other than 0, accepted, starts verification, or preemption at once without it, and 0 ends it. PREEMPT_VERIFY,
10 ms after a failed attempt, makes it ACTIVE on success and FAILED at the third failure. GATE_ENTRY shows the gates of the
moment. ConfigChange other than 0, accepted, takes the admin configuration as pending with its change time, and
GATE_CONFIG_CHANGE_TIME at that time makes it operative. PAUSE_TIMER_EXPIRY ends a class's pause; PAUSE_WATCHDOG_BREAK after
PauseLimit ends it, ignores requests for PauseBreakTime, counts and reports; PAUSE_BREAK_WINDOW_END shows that requests are
honoured again. XOFF_REPEAT, once the frames taken have left the buffer, sends the engine's XOFF again after half its pause time,
unless the class's use has fallen below PauseXon, which ends it; OWN_PAUSE_BREAK after PauseLimit ends and withholds it. -/
def Obligations.PreemptionGatesAndPause : Prop :=
  (∀ (t p : Nat) (q : Req) (v : Int) (s : State), p < 16 → Accepted (s.reached t) q (Od.preemptEnable p) v →
    let e := s.reached t
    Completes (.preemptEnableWrite t q p v) s fun d =>
      d.num (Od.preemptEnable p) = v ∧
      d.nat (Od.preemptState p) = (if v = 0 then 0 else if e.on (Od.preemptVerify p) then 1 else 2) ∧
      OnlyChanges e d ([Od.preemptEnable p, Od.preemptState p, Od.portLive p] ++ logObjects) [.ports, .pair, .pmc]) ∧
  (∀ (t p : Nat) (ok : Bool) (s : State), p < 16 →
    let e := s.reached t
    if e.nat (Od.preemptState p) = 1 ∧ ((e.port p).tries = 0 ∨ 10 * ticksPerMs ≤ e.tick - (e.port p).tryAt) then
      Completes (.preemptVerify t p ok) s fun d =>
        d.nat (Od.preemptState p) = (if ok then 2 else if (e.port p).tries < 2 then 1 else 3) ∧
        (ok = false → (d.port p).tries = (e.port p).tries + 1 ∧ (d.port p).tryAt = e.tick ∧
          (2 ≤ (e.port p).tries → d.bit (Od.portSticky p) Bit.portSticky_PreemptVerifyFailed = true)) ∧
        OnlyChanges e d [Od.preemptState p, Od.portLive p, Od.portSticky p] [.ports]
    else Idles (.preemptVerify t p ok) s t) ∧
  (∀ (t p : Nat) (s : State), p < 16 → Completes (.gateEntry t p) s fun d =>
    d.nat (Od.gateStatesNow p) = (s.reached t).gatesNow p ∧ OnlyChanges (s.reached t) d [Od.gateStatesNow p] []) ∧
  (∀ (t p : Nat) (q : Req) (v : Int) (s : State), p < 16 → Accepted (s.reached t) q (Od.configChange p) v →
    let e := s.reached t
    Completes (.configChange t q p v) s fun d =>
      if v = 0 then OnlyChanges e d logObjects [.pair, .pmc]
      else
        d.nat (Od.configPending p) = 1 ∧ d.num (Od.configChangeTime p) = tsNum (e.gateChangeAt p) ∧
        (d.port p).next = some (e.adminGates p) ∧ (d.port p).oper = (e.port p).oper ∧
        OnlyChanges e d ([Od.configPending p, Od.configChangeTime p] ++ logObjects) [.ports, .pair, .pmc]) ∧
  (∀ (t p : Nat) (s : State), p < 16 →
    let e := s.reached t
    let at' := e.nat (Od.configChangeTime p)
    match (e.port p).next with
    | none => Idles (.gateConfigChangeTime t p) s t
    | some g =>
      if tsTime at' ≤ e.tsNow (e.nat (Od.gateTimeScale p)) then
        Completes (.gateConfigChangeTime t p) s fun d =>
          (d.port p).oper = some { g with base := tsTime at' } ∧ (d.port p).next = none ∧ d.nat (Od.configPending p) = 0 ∧
          d.nat (Od.operBaseTime p) = at' ∧ d.nat (Od.operCycleTime p) = g.cycle ∧
          d.nat (Od.operListLength p) = g.list.length ∧
          OnlyChanges e d [Od.configPending p, Od.operBaseTime p, Od.operCycleTime p, Od.operListLength p, Od.gateStatesNow p]
            [.ports]
      else Idles (.gateConfigChangeTime t p) s t) ∧
  (∀ (t p c : Nat) (s : State), p < 16 → c < 8 →
    let e := s.reached t
    (if (e.pauseReg p c).from'.isSome = true ∧ (e.pauseReg p c).ends ≤ e.tick then
      Completes (.pauseTimerExpiry t p c) s fun d =>
        (d.pauseReg p c).from' = none ∧ (∀ r, r ≠ c → d.pauseReg p r = e.pauseReg p r) ∧ OnlyChanges e d [Od.portLive p] [.ports]
    else Idles (.pauseTimerExpiry t p c) s t) ∧
    (if (e.pauseReg p c).from'.any (fun k => decide (e.nat (Od.pauseLimit p) * ticksPerMs ≤ e.tick - k)) = true then
      Completes (.pauseWatchdogBreak t p c) s fun d =>
        (d.pauseReg p c).from' = none ∧ (d.pauseReg p c).ignore = e.tick + e.nat (Od.pauseBreakTime p) * ticksPerMs ∧
        d.nat (Od.pauseBreaks p) = (e.nat (Od.pauseBreaks p) + 1) % 2 ^ 32 ∧
        d.bit (Od.portSticky p) Bit.portSticky_PauseBreak = true ∧
        (∃ r, d.flt.queue = e.flt.queue ++ [r] ∧ r.src = 148 + p ∧ r.detail = 0) ∧
        OnlyChanges e d [Od.pauseBreaks p, Od.pauseBreaksClass p c, Od.portSticky p, Od.portLive p] [.ports, .flt]
    else Idles (.pauseWatchdogBreak t p c) s t) ∧
    (Completes (.pauseBreakWindowEnd t p c) s fun d =>
      d.bit (Od.portLive p) 3 = ((List.range 8).any fun r => decide (e.tick < (e.pauseReg p r).ignore)) ∧
      OnlyChanges e d [Od.portLive p] [])) ∧
  (∀ (t p c : Nat) (taken : List Nat) (s : State), p < 16 → c < 8 →
    let e := (s.reached t).rxTaken p taken
    Completes (.xoffRepeat t p c taken) s fun d =>
      (d.port p).rx = without taken ((s.reached t).port p).rx ∧
      (taken ≠ [] → d.xoffUse p c < e.nat (Od.pauseXon p) → (d.pauseReg p c).xoff = none) ∧
      if (e.pauseReg p c).xoff.isSome = true ∧ e.quanta p 0xFFFF / 2 ≤ e.tick - (e.pauseReg p c).sentAt then
        d.out = e.out ++ [.frame p 0x8808 [c, 0xFFFF]] ∧ (d.pauseReg p c).xoff = (e.pauseReg p c).xoff ∧
        (d.pauseReg p c).sentAt = e.tick ∧ d.nat (Od.pauseTxFrames p) = (e.nat (Od.pauseTxFrames p) + 1) % 2 ^ 32 ∧
        OnlyChanges e d [Od.pauseTxFrames p] [.ports]
      else d.out = e.out ∧ OnlyChanges e d [] []) ∧
  (∀ (t p c : Nat) (s : State), p < 16 → c < 8 →
    let e := s.reached t
    if (e.pauseReg p c).xoff.any (fun k => decide (e.nat (Od.pauseLimit p) * ticksPerMs ≤ e.tick - k)) = true then
      Completes (.ownPauseBreak t p c) s fun d =>
        d.out = e.out ++ [.frame p 0x8808 [c, 0]] ∧ (d.pauseReg p c).xoff = none ∧
        (d.pauseReg p c).withhold = e.tick + e.nat (Od.pauseBreakTime p) * ticksPerMs ∧
        d.nat (Od.ownPauseBreaks p) = (e.nat (Od.ownPauseBreaks p) + 1) % 2 ^ 32 ∧
        d.bit (Od.portSticky p) Bit.portSticky_OwnPauseBreak = true ∧
        (∃ r, d.flt.queue = e.flt.queue ++ [r] ∧ r.src = 148 + p ∧ r.detail = 1) ∧
        OnlyChanges e d [Od.pauseTxFrames p, Od.ownPauseBreaks p, Od.portSticky p, Od.portLive p] [.ports, .flt]
    else Idles (.ownPauseBreak t p c) s t)

/-- PipeDrain other than 0, accepted, for an ACTIVE pipeline with another one ACTIVE moves every bucket of it away and leaves it
DRAINING, and PIPE_DRAINED with nothing left in it makes it OFF; 0 brings its own buckets back and makes it ACTIVE, as
PIPELINE_RETURNED_ACTIVE does after a reset. PTP_MULTICAST_SYNC, PTP_MULTICAST_ANNOUNCE and PDELAY_REQ_SEND of an enabled instance
that is served, once per interval, compose their message under the instance's next sequence number, and else change nothing.
UNICAST_GRANT_TRANSMISSION of a live grant whose instant has come does so for its client, and else changes nothing. A foreign
Announce on a served port and domain sets ForeignAnnounce; GRANT_EXPIRY ends a grant that has run out; InstEnable, accepted,
starts an instance afresh, and 0 ends the grants of its clients. -/
def Obligations.PipelinesAndInstances : Prop :=
  (∀ (t i : Nat) (q : Req) (v : Int) (s : State), i < 4 → Accepted (s.reached t) q (Od.pipeDrain i) v →
    let e := s.reached t
    Completes (.pipeDrainWrite t q i v) s fun d =>
      d.num (Od.pipeDrain i) = v ∧
      (v ≠ 0 → e.nat (Od.pipeState i) = 0 → e.activeBut i ≠ [] →
        d.nat (Od.pipeState i) = 1 ∧ (∀ b < 256, d.pipeOf b ≠ i) ∧ ∀ b < 256, e.pipeOf b ≠ i → d.pipeOf b = e.pipeOf b) ∧
      (v = 0 → d.nat (Od.pipeState i) = 0 ∧ ∀ b < 256, b % 4 = i → d.pipeOf b = i) ∧
      OnlyChanges e d ([Od.pipeDrain i, Od.pipeState i] ++ logObjects) [.svc, .pair, .pmc]) ∧
  (∀ (t i : Nat) (s : State), i < 4 →
    let e := s.reached t
    if e.nat (Od.pipeState i) = 1 ∧ e.bucketsWaiting i = 0 ∧ e.svc.queue.all (·.pipe != i) = true then
      Completes (.pipeDrained t i) s fun d => d.nat (Od.pipeState i) = 2 ∧ OnlyChanges e d [Od.pipeState i] []
    else Idles (.pipeDrained t i) s t) ∧
  (∀ (t i : Nat) (s : State), i < 4 →
    Completes (.pipelineReturnedActive t i) s fun d =>
      (i ≠ 3 ∨ (s.reached t).update.pipe ≠ some i → d.nat (Od.pipeState i) = 0 ∧ ∀ b < 256, b % 4 = i → d.pipeOf b = i) ∧
      ((s.reached t).update.pipe ≠ some i → OnlyChanges (s.reached t) d [Od.pipeState i] [.svc])) ∧
  (∀ (t i : Nat) (s : State), i < 32 →
    let e := s.reached t
    let r := e.instReg i
    let now (log : Int) := e.intervalOn (e.nat (Od.instTimeScale i)) log
    let runs := e.on (Od.instEnable i) = true ∧ e.serves = true
    (if runs ∧ e.on (Od.instMulticast i) = true ∧ slotDue r.sync (now (e.num (Od.logSyncInterval i))) = true then
      Completes (.ptpMulticastSync t i) s fun d =>
        Composes e d i (e.pipeOfInst i) 0x20 (if e.on (Od.instTwoStep i) then .syncTwo i 0 r.seqSync else .sync i 0 r.seqSync) ∧
        (d.instReg i).seqSync = (r.seqSync + 1) % 65536 ∧ (d.instReg i).sync = some (now (e.num (Od.logSyncInterval i)))
    else Idles (.ptpMulticastSync t i) s t) ∧
    (if runs ∧ e.on (Od.instMulticast i) = true ∧ slotDue r.ann (now (e.num (Od.logAnnounceInterval i))) = true then
      Completes (.ptpMulticastAnnounce t i) s fun d =>
        Composes e d i (e.pipeOfInst i) 0x2B (.announce i 0 r.seqAnn) ∧
        (d.instReg i).seqAnn = (r.seqAnn + 1) % 65536 ∧ (d.instReg i).ann = some (now (e.num (Od.logAnnounceInterval i)))
    else Idles (.ptpMulticastAnnounce t i) s t) ∧
    (if runs ∧ e.peerDelay i = true ∧ slotDue r.pdelay (now (e.num (Od.logPdelayReqInterval i))) = true then
      Completes (.pdelayReqSend t i) s fun d =>
        Composes e d i (e.pipeOfInst i) 0x22 (.pdelayReq i r.seqPdelay) ∧
        (d.instReg i).seqPdelay = (r.seqPdelay + 1) % 65536 ∧
        (d.instReg i).pdelay = some (now (e.num (Od.logPdelayReqInterval i)))
    else Idles (.pdelayReqSend t i) s t)) ∧
  (∀ (t n typ : Nat) (s : State),
    let e := s.reached t
    match e.client n with
    | none => Idles (.unicastGrantTransmission t n typ) s t ∧ Idles (.grantExpiry t n typ) s t
    | some c =>
      let log := c.logs.getD typ 0
      let now := e.tsNow (e.nat (Od.instTimeScale c.inst))
      (if c.kind = 1 ∧ typ < 2 ∧ e.granted c typ = true ∧ phaseOf n log + c.nexts.getD typ 0 * periodOf log ≤ now then
        Completes (.unicastGrantTransmission t n typ) s fun d =>
          (∃ c', d.client n = some c' ∧ c'.mask = c.mask ∧
            c'.nexts = c.nexts.set typ (max (c.nexts.getD typ 0 + 1) (firstAfter now n log)) ∧
            (e.serves = true → (typ = 0 → c'.seqAnnounce = (c.seqAnnounce + 1) % 65536) ∧
              (typ = 1 → c'.seqSync = (c.seqSync + 1) % 65536))) ∧
          (e.serves = true →
            (typ = 0 → Composes e d c.inst (e.pipeOfInst c.inst) 0x2B (.announce c.inst (n + 1) c.seqAnnounce)) ∧
            (typ = 1 → Composes e d c.inst (e.pipeOfInst c.inst) 0x20
              (if e.on (Od.instTwoStep c.inst) then .syncTwo c.inst (n + 1) c.seqSync else .sync c.inst (n + 1) c.seqSync)))
      else Idles (.unicastGrantTransmission t n typ) s t) ∧
      (if c.kind = 1 ∧ c.mask.testBit typ = true ∧ e.grantOver c typ = true then
        Completes (.grantExpiry t n typ) s fun d =>
          (∃ c', d.client n = some c' ∧ c'.mask = clrBit c.mask typ) ∧ (∀ m, m ≠ n → d.client m = e.client m) ∧
          OnlyChanges e d [Od.instGrantedClients c.inst, Od.instSyncRate c.inst] [.svc]
      else Idles (.grantExpiry t n typ) s t)) ∧
  (∀ (t port domain : Nat) (s : State), port < 16 →
    let e := s.reached t
    let served := (List.range 32).any fun i => e.on (Od.instEnable i) && e.nat (Od.instPort i) == port &&
      e.nat (Od.instDomain i) == domain
    if e.fromLog = false ∧ e.portUp port = true ∧ served = true then
      Completes (.foreignAnnounce t port domain) s fun d =>
        d.bit Od.serviceSticky Bit.serviceSticky_ForeignAnnounce = true ∧ OnlyChanges e d [Od.serviceSticky] []
    else Idles (.foreignAnnounce t port domain) s t) ∧
  (∀ (t i : Nat) (q : Req) (v : Int) (s : State), i < 32 → Accepted (s.reached t) q (Od.instEnable i) v →
    Completes (.instEnableWrite t q i v) s fun d =>
      d.num (Od.instEnable i) = v ∧
      (v ≠ 0 → (s.reached t).on (Od.instEnable i) = false → d.instReg i = {}) ∧
      (v = 0 → ∀ n c, (s.reached t).client n = some c → c.kind = 1 → c.inst = i → ∃ c', d.client n = some c' ∧ c'.mask = 0))

/-- On a standby, and on a port that passes no frames, DELAY_REQ, PDELAY_REQ, PDELAY_RESP and the Signaling messages change
nothing; where nothing is served they count in ServiceOffDrops alone. Taken, for an instance without authentication: DELAY_REQ to
a multicast instance within InstMcDelayRespMax of the second, and of a client with a live grant and a full bucket, is answered with
its receive stamp; PDELAY_REQ is answered; PDELAY_RESP to the latest Pdelay_Req gives InstLinkDelay. A request that R390 accepts
is granted for at most UcDurationMax, and refused with a duration of 0 where the instance serves no unicast; a CANCEL ends the
grant and is acknowledged. -/
def Obligations.RequestsToInstances : Prop :=
  (∀ (t : Nat) (f : SvcF) (p : PtpF) (a : Nat) (x : Int) (rs : List UniReq) (s : State), f.port < 16 →
    (s.reached t).fromLog = true ∨ (s.reached t).portUp f.port = false →
    Idles (.delayReq t f p) s t ∧ Idles (.pdelayReq t f p) s t ∧ Idles (.pdelayResp t f p x) s t ∧
    Idles (.requestUnicastTransmission t f p rs) s t ∧ Idles (.cancelUnicastTransmission t f p a) s t) ∧
  (∀ (t : Nat) (f : SvcF) (p : PtpF) (a : Nat) (x : Int) (rs : List UniReq) (s : State), f.port < 16 →
    (s.reached t).fromLog = false → (s.reached t).portUp f.port = true → (s.reached t).serves = false →
    let drops := fun d : Dev => d.nat Od.serviceOffDrops = ((s.reached t).nat Od.serviceOffDrops + 1) % 2 ^ 32 ∧
      d.out = (s.reached t).out ∧ OnlyChanges (s.reached t) d [Od.serviceOffDrops] []
    Completes (.delayReq t f p) s drops ∧ Completes (.pdelayReq t f p) s drops ∧ Completes (.pdelayResp t f p x) s drops ∧
    Completes (.requestUnicastTransmission t f p rs) s drops ∧ Completes (.cancelUnicastTransmission t f p a) s drops) ∧
  (∀ (t i k : Nat) (f : SvcF) (p : PtpF) (s : State), f.port < 16 → ServiceTakes (s.reached t) f →
    ForInstance (s.reached t) f p i false → p.unicast = false → (s.reached t).bucketWaits f.bucket = [] →
    (s.reached t).on (Od.instMulticast i) = true →
    k = (if ((s.reached t).instReg i).second = ((s.reached t).rxTime 0 f / second).toNat then ((s.reached t).instReg i).answers
      else 0) →
    k < (s.reached t).nat (Od.instMcDelayRespMax i) →
    Completes (.delayReq t f p) s fun d =>
      Composes (s.reached t) d i ((s.reached t).pipeOf f.bucket) 0x29
        (.fixed ([i, 0, p.seq] ++ ptpStamp ((s.reached t).rxTime ((s.reached t).nat (Od.instTimeScale i)) f))) ∧
      (d.instReg i).answers = k + 1) ∧
  (∀ (t i n : Nat) (c : Client) (f : SvcF) (p : PtpF) (s : State), f.port < 16 → ServiceTakes (s.reached t) f →
    ForInstance (s.reached t) f p i false → p.unicast = true → RecordAtHand (s.reached t) 1 i f n c →
    (s.reached t).granted c 2 = true → 1000000 ≤ c.tokens →
    Completes (.delayReq t f p) s fun d =>
      Composes (s.reached t) d i ((s.reached t).pipeOf f.bucket) 0x29
        (.fixed ([i, n + 1, p.seq] ++ ptpStamp ((s.reached t).rxTime ((s.reached t).nat (Od.instTimeScale i)) f))) ∧
      ∃ c', d.client n = some c' ∧ c'.last = msOf ((s.reached t).rxTime 0 f) ∧ c'.mask = c.mask) ∧
  (∀ (t i : Nat) (f : SvcF) (p : PtpF) (s : State), f.port < 16 → ServiceTakes (s.reached t) f → ForInstance (s.reached t) f p i true →
    Completes (.pdelayReq t f p) s fun d =>
      Composes (s.reached t) d i ((s.reached t).pipeOf f.bucket) 0x23
        (if (s.reached t).on (Od.instTwoStep i) then .pdelayRespTwo i p.seq f.tick f.fine
          else .pdelayResp i p.seq f.tick f.fine)) ∧
  (∀ (t i a b : Nat) (x : Int) (f : SvcF) (p : PtpF) (s : State), f.port < 16 → ServiceTakes (s.reached t) f →
    ForInstance (s.reached t) f p i true → ((s.reached t).instReg i).pdelayAt = some (a, b) →
    (p.seq + 1) % 65536 = ((s.reached t).instReg i).seqPdelay →
    Completes (.pdelayResp t f p x) s fun d =>
      d.num (Od.instLinkDelay i) = toI64 (rdiv ((s.reached t).rxTime ((s.reached t).nat (Od.instTimeScale i)) f -
        ((s.reached t).convert ((s.reached t).nat (Od.instTimeScale i)) a b).1 - x) 131072) ∧ d.out = (s.reached t).out) ∧
  (∀ (t i n : Nat) (c : Client) (f : SvcF) (p : PtpF) (r : UniReq) (s : State), f.port < 16 → ServiceTakes (s.reached t) f →
    (∃ b, ForInstance (s.reached t) f p i b) → RecordAtHand (s.reached t) 1 i f n c → 1000000 ≤ c.aux → r.typ < 3 →
    (s.reached t).grantable i n r [r] = true →
    Completes (.requestUnicastTransmission t f p [r]) s fun d =>
      Composes (s.reached t) d i ((s.reached t).pipeOf f.bucket) 0x2C
        (.fixed [0x0004, i, n + 1, r.typ, twos 8 r.log, min r.duration ((s.reached t).nat (Od.ucDurationMax i))]) ∧
      ∃ c', d.client n = some c' ∧ c'.mask = setBit c.mask r.typ ∧ c'.logs = c.logs.set r.typ r.log ∧
        c'.expiry = c.expiry.set r.typ ((((s.reached t).rxTime 0 f / second).toNat +
          min r.duration ((s.reached t).nat (Od.ucDurationMax i))) % 65536)) ∧
  (∀ (t i : Nat) (f : SvcF) (p : PtpF) (r : UniReq) (s : State), f.port < 16 → ServiceTakes (s.reached t) f →
    (∃ b, ForInstance (s.reached t) f p i b) → (s.reached t).bucketWaits f.bucket = [] → (s.reached t).findClient 1 i f = none →
    r.typ < 3 → (s.reached t).nat Od.vlogNext ≤ 64 → (s.reached t).on (Od.instUnicast i) = false →
    Completes (.requestUnicastTransmission t f p [r]) s fun d =>
      d.nat (Od.instGrantsDenied i) = ((s.reached t).nat (Od.instGrantsDenied i) + 1) % 2 ^ 32 ∧
      d.bit Od.serviceSticky Bit.serviceSticky_GrantDenied = true ∧
      Composes (s.reached t) d i ((s.reached t).pipeOf f.bucket) 0x2C (.fixed [0x0004, i, 0, r.typ,
        twos 8 (if r.log < (s.reached t).ucMin i r.typ then (s.reached t).ucMin i r.typ else r.log), 0])) ∧
  (∀ (t i n typ : Nat) (c : Client) (f : SvcF) (p : PtpF) (s : State), f.port < 16 → ServiceTakes (s.reached t) f →
    (∃ b, ForInstance (s.reached t) f p i b) → RecordAtHand (s.reached t) 1 i f n c → 1000000 ≤ c.aux →
    (s.reached t).granted c typ = true →
    Completes (.cancelUnicastTransmission t f p typ) s fun d =>
      Composes (s.reached t) d i ((s.reached t).pipeOf f.bucket) 0x2C (.fixed [0x0006, i, n + 1, typ]) ∧
      ∃ c', d.client n = some c' ∧ c'.mask = clrBit c.mask typ)

/-- A message that a tracker does not hear changes nothing, nor does a Sync, Follow_Up or Delay_Resp that is not from the master
followed. Taken, without authentication: PTP_ANNOUNCE_RECEIVED of the best master heard brings its identity, its clockClass and,
without a TLV, the declaration of its clockAccuracy, and one of another master is only noted among those heard; PTP_SYNC_RECEIVED
of a one-step Sync, and FOLLOW_UP_RECEIVED of the two-step Sync that waits for it, bring t2 - t1 less the corrections and a
measurement; DELAY_RESP_RECEIVED to the Delay_Req on the way brings the mean path delay; TRACKER_GRANT_RECEIVED keeps the grant's
end, none for a refusal. TRK_DELAY_REQ once per interval composes the Delay_Req, TRK_GRANT_RENEW asks for the grants that are
missing. SPP_KEY_SWITCH at SppNextStart makes the next key the current one. -/
def Obligations.TrackersFollowTheirMaster : Prop :=
  (∀ (t r seq typ : Nat) (f : TrkF) (a : AnnF) (two : Bool) (x y : Int) (tlv : Option TlvF) (s : State), r < 4 →
    let e := s.reached t
    (e.fromLog = true ∨ e.trkOn r = false ∨ e.trkHears r f = false ∨ f.ok = false →
      Idles (.ptpAnnounceReceived t r f a) s t ∧ Idles (.ptpSyncReceived t r f seq two x y tlv) s t ∧
      Idles (.followUpReceived t r f seq x y tlv) s t ∧ Idles (.delayRespReceived t r f seq x y) s t ∧
      Idles (.trackerGrantReceived t r f typ seq) s t) ∧
    ((e.trk r).master ≠ some f.ident →
      Idles (.ptpSyncReceived t r f seq two x y tlv) s t ∧ Idles (.followUpReceived t r f seq x y tlv) s t ∧
      Idles (.delayRespReceived t r f seq x y) s t)) ∧
  (∀ (t r : Nat) (f : TrkF) (a : AnnF) (s : State), r < 4 → TrackerTakes (s.reached t) r f →
    let e := s.reached t
    Completes (.ptpAnnounceReceived t r f a) s fun d =>
      (d.trk r).heard = ((e.trkHear r f a).trk r).heard ∧
      ((e.trkHear r f a).trkBest r ≠ some f.ident →
        OnlyChanges e d [Od.convTooOld 0, Od.tsSticky 0] [.svc] ∧ (d.trk r).master = (e.trk r).master) ∧
      ((e.trkHear r f a).trkBest r = some f.ident → a.tlv = none → a.utcValid = false → e.selected ≠ some (10 + r) →
        d.nat (Od.ptpClockClass (10 + r)) = a.cls ∧ (d.trk r).master = some f.ident ∧
        (d.rr (10 + r)).declared = accuracyBound a.accuracy ∧ (d.rr (10 + r)).announceAt = f.tick ∧
        (d.rr (10 + r)).traceable = a.traceable ∧
        d.nat (Od.refDeclaredSource (10 + r)) = (if (accuracyBound a.accuracy).isSome then 4 else 0))) ∧
  (∀ (t r seq : Nat) (f : TrkF) (x y : Int) (s : State), r < 4 → TrackerTakes (s.reached t) r f →
    ((s.reached t).trk r).master = some f.ident →
    let e := s.reached t
    Completes (.ptpSyncReceived t r f seq true x y none) s fun d =>
      (d.trk r).wait = some (seq, f.tick, f.fine, y) ∧ (d.rr (10 + r)).signalAt = max (e.rr (10 + r)).signalAt f.tick ∧
      OnlyChanges e d [Od.convTooOld 0, Od.tsSticky 0, Od.refLive (10 + r), Od.refSticky (10 + r)] [.svc, .sel]) ∧
  (∀ (t r seq : Nat) (f : TrkF) (x y : Int) (s : State), r < 4 → TrackerTakes (s.reached t) r f →
    ((s.reached t).trk r).master = some f.ident → ((s.reached t).trk r).changed = false →
    (s.reached t).nat (Od.refState (10 + r)) ≠ 0 → (s.reached t).running 0 = true → ((s.reached t).convert 0 f.tick 0).2 = true →
    Completes (.ptpSyncReceived t r f seq false x y none) s fun d =>
      (d.trk r).diff = some (((s.reached t).convert 0 f.tick f.fine).1 - x - y) ∧
      (d.rr (10 + r)).meas.head?.map (·.tick) = some f.tick) ∧
  (∀ (t r seq k fi : Nat) (f : TrkF) (x y c : Int) (s : State), r < 4 → TrackerTakes (s.reached t) r f →
    ((s.reached t).trk r).master = some f.ident → ((s.reached t).trk r).wait = some (seq, k, fi, c) →
    ((s.reached t).trk r).changed = false → (s.reached t).nat (Od.refState (10 + r)) ≠ 0 → (s.reached t).running 0 = true →
    ((s.reached t).convert 0 k 0).2 = true →
    Completes (.followUpReceived t r f seq x y none) s fun d =>
      (d.trk r).diff = some (((s.reached t).convert 0 k fi).1 - x - (c + y)) ∧ (d.trk r).wait = none ∧
      (d.rr (10 + r)).meas.head?.map (·.tick) = some k) ∧
  (∀ (t r seq : Nat) (f : TrkF) (x y t3 z : Int) (s : State), r < 4 → TrackerTakes (s.reached t) r f →
    ((s.reached t).trk r).master = some f.ident →
    ((s.reached t).trk r).sent = some (seq, t3) → ((s.reached t).trk r).diff = some z →
    Completes (.delayRespReceived t r f seq x y) s fun d =>
      (d.trk r).delay = some (rdiv (z + (x - y - t3)) 2) ∧ (d.trk r).sent = none ∧
      OnlyChanges (s.reached t) d [Od.convTooOld 0, Od.tsSticky 0] [.svc]) ∧
  (∀ (t r typ dur : Nat) (f : TrkF) (s : State), r < 4 → TrackerTakes (s.reached t) r f →
    Completes (.trackerGrantReceived t r f typ dur) s fun d =>
      d.trkGrant r (min 2 typ) = (if dur = 0 then none else some ((s.reached t).tick + dur * ticksPerSec)) ∧
      OnlyChanges (s.reached t) d [Od.convTooOld 0, Od.tsSticky 0] [.svc]) ∧
  (∀ (t r : Nat) (s : State), r < 4 →
    let e := s.reached t
    let now := e.intervalOn 0 (e.num (Od.trkLogDelayReq r))
    let granted := e.trkUni r = false ∨ (e.trkGrant r 2).any (fun k => decide (e.tick < k)) = true
    if e.trkOn r = true ∧ granted ∧ e.running 0 = true ∧ (e.trk r).slot < now then
      Completes (.trkDelayReq t r) s fun d =>
        (d.trk r).slot = now ∧
        (e.nat (Od.trkAuthSpp r) = 0xFF →
          Queues e d 4 (e.nat (Od.ptpPort (10 + r))) 0x21 (.trkDelay r (e.trk r).seq) false ∧
          (d.trk r).seq = ((e.trk r).seq + 1) % 65536 ∧ OnlyChanges e d [] [.svc, .ports])
    else Idles (.trkDelayReq t r) s t) ∧
  (∀ (t r : Nat) (s : State), r < 4 →
    let e := s.reached t
    let due (typ : Nat) : Bool := (e.trkGrant r typ).all fun k => decide (k ≤ e.tick + 60 * ticksPerSec)
    let asks : List (List Nat) := ([(0, (0 : Int)), (1, e.num (Od.trkLogSync r)), (2, e.num (Od.trkLogDelayReq r))].filter
      fun p => due p.1).map fun p => [p.1, twos 8 p.2, 300]
    if e.trkOn r = true ∧ e.trkUni r = true ∧ asks ≠ [] then
      Completes (.trkGrantRenew t r) s fun d =>
        e.nat (Od.trkAuthSpp r) = 0xFF →
          Queues e d 4 (e.nat (Od.ptpPort (10 + r))) 0x2C (.fixed ([0x0004, 10 + r] ++ asks.flatten)) false ∧
          OnlyChanges e d [] [.svc, .ports]
    else Idles (.trkGrantRenew t r) s t) ∧
  (∀ (t n : Nat) (s : State), n < 16 →
    let e := s.reached t
    if e.nat (Od.sppNextKeySlot n) ≠ 0xFFFF ∧ e.running 0 = true ∧ tsTime (e.nat (Od.sppNextStart n)) ≤ e.tsNow 0 then
      Completes (.sppKeySwitch t n) s fun d =>
        d.nat (Od.sppKeySlot n) = e.nat (Od.sppNextKeySlot n) ∧
        d.num (Od.sppKeyId n) = e.num (Od.sppNextKeyId n) ∧ d.nat (Od.sppNextKeySlot n) = 0xFFFF ∧
        Tab.get (fun _ => none) d.svc.spp n = some ⟨e.nat (Od.sppKeySlot n), e.nat (Od.sppKeyId n),
          e.tick + e.nat Od.authKeyOverlap * ticksPerSec⟩ ∧
        OnlyChanges e d [Od.sppKeySlot n, Od.sppKeyId n, Od.sppNextKeySlot n] [.svc]
    else Idles (.sppKeySwitch t n) s t)

/-- NTP_REQUEST on a port without NTP, or on a standby, changes nothing. Taken: a request that R398 does not answer counts in
NtpMalformed; the answer to one of a client with a full bucket is composed and counts in NtpResponses. NTS_REQUEST with a cookie
that opens under a live period and an authenticator that verifies is answered as a launch-time frame, with as many new cookies as
it asks for, where its pipeline's crypto queue has room; a cookie that does not open brings an NTS NAK. NTS_KE_CONNECTION succeeds
with both keys and hands out eight cookies, and is turned away at NtsKeQueueMax. COOKIE_PERIOD_CHANGE shows the period's number.
CACHE_MISS_FILL serves what waited, a record whose check fails being freed; ADMISSION_REVIEW takes the oldest notice and marks the
records within their prefix's quota as reviewed and the later ones as refused; CLIENT_SCAN frees each record R409 frees and, with
none, changes nothing. -/
def Obligations.NtpAndClients : Prop :=
  (∀ (t : Nat) (f : SvcF) (n : NtpF) (x : NtsF) (s : State), f.port < 16 →
    (s.reached t).fromLog = true ∨ (s.reached t).ntpOn f.port = false →
    Idles (.ntpRequest t f n) s t ∧ Idles (.ntsRequest t f n x) s t) ∧
  (∀ (t : Nat) (f : SvcF) (n : NtpF) (s : State), f.port < 16 → (s.reached t).ntpOn f.port = true → ServiceTakes (s.reached t) f →
    ntpValid f n = false → (s.reached t).nat Od.vlogNext ≤ 64 →
    Completes (.ntpRequest t f n) s fun d =>
      d.nat Od.ntpRequests = ((s.reached t).nat Od.ntpRequests + 1) % 2 ^ 64 ∧
      d.nat Od.ntpMalformed = ((s.reached t).nat Od.ntpMalformed + 1) % 2 ^ 32 ∧
      d.bit Od.serviceSticky Bit.serviceSticky_Malformed = true ∧ d.svc.queue = (s.reached t).svc.queue) ∧
  (∀ (t k : Nat) (c : Client) (f : SvcF) (n : NtpF) (s : State), f.port < 16 → (s.reached t).ntpOn f.port = true →
    ServiceTakes (s.reached t) f → ntpValid f n = true → RecordAtHand (s.reached t) 2 0 f k c → 1000000 ≤ c.tokens →
    1 ≤ (s.reached t).nat Od.ntpBurst →
    Completes (.ntpRequest t f n) s fun d =>
      d.nat Od.ntpRequests = ((s.reached t).nat Od.ntpRequests + 1) % 2 ^ 64 ∧
      d.nat Od.ntpResponses = ((s.reached t).nat Od.ntpResponses + 1) % 2 ^ 64 ∧
      Queues (s.reached t) d ((s.reached t).pipeOf f.bucket) f.port 0x30 (.ntp f n []) false) ∧
  (∀ (t k : Nat) (c : Client) (f : SvcF) (n : NtpF) (x : NtsF) (s : State), f.port < 16 → (s.reached t).ntpOn f.port = true →
    ServiceTakes (s.reached t) f → ntpValid f n = true → (s.reached t).on Od.ntsEnable = true → x.fieldsOk = true →
    x.placeholders ≤ 7 →
    RecordAtHand (s.reached t) 3 0 f k c → KeyServes (s.reached t) ((s.reached t).nat Od.cookieMasterSlot) 2 [3] →
    ((Tab.get (fun _ => []) (s.reached t).svc.crypto ((s.reached t).pipeOf f.bucket)).filter ((s.reached t).cryNow < ·)).length < 4096 →
    (x.opens = true → (x.keyId = (s.reached t).cookiePeriod ∨ x.keyId + 1 = (s.reached t).cookiePeriod) →
      x.authOk = true → 1000000 ≤ c.tokens → 1 ≤ (s.reached t).nat Od.ntpBurst →
      Completes (.ntsRequest t f n x) s fun d =>
        d.nat Od.ntsExchanges = ((s.reached t).nat Od.ntsExchanges + 1) % 2 ^ 64 ∧
        d.nat Od.ntpResponses = ((s.reached t).nat Od.ntpResponses + 1) % 2 ^ 64 ∧
        d.keys.draws = (s.reached t).keys.draws + (1 + x.placeholders) ∧
        Queues (s.reached t) d ((s.reached t).pipeOf f.bucket) f.port 0x32
          (.ntp f n [1 + x.placeholders, (s.reached t).cookiePeriod]) true) ∧
    (x.opens = false → (s.reached t).nat Od.vlogNext ≤ 64 →
      Completes (.ntsRequest t f n x) s fun d =>
        d.nat Od.ntsNakSent = ((s.reached t).nat Od.ntsNakSent + 1) % 2 ^ 32 ∧
        d.bit Od.serviceSticky Bit.serviceSticky_NtsNakSent = true ∧
        Queues (s.reached t) d ((s.reached t).pipeOf f.bucket) f.port 0x33 (.fixed [n.version, n.txTime]) false)) ∧
  (∀ (t k : Nat) (f : SvcF) (s : State), f.port < 16 → (s.reached t).fromLog = false → (s.reached t).on Od.ntsKeEnable = true →
    (s.reached t).portUp f.port = true → (s.reached t).nat Od.serviceState = 1 →
    (k < (s.reached t).nat Od.ntsKeQueueMax → KeyServes (s.reached t) ((s.reached t).nat Od.ntsKeCertSlot) 3 [4] →
      KeyServes (s.reached t) ((s.reached t).nat Od.cookieMasterSlot) 2 [3] →
      Completes (.ntsKeConnection t f k true) s fun d =>
        d.nat Od.ntsKeHandshakes = ((s.reached t).nat Od.ntsKeHandshakes + 1) % 2 ^ 32 ∧
        d.keys.draws = (s.reached t).keys.draws + 8 ∧
        d.out = (s.reached t).out ++ [.frame f.port 0x35 [8, (s.reached t).cookiePeriod]] ∧
        OnlyChanges (s.reached t) d [Od.ntsKeHandshakes, Od.slotsUsed] [.keys]) ∧
    ((s.reached t).nat Od.ntsKeQueueMax ≤ k → (s.reached t).nat Od.vlogNext ≤ 64 →
      Completes (.ntsKeConnection t f k true) s fun d =>
        d.nat Od.ntsKeBusy = ((s.reached t).nat Od.ntsKeBusy + 1) % 2 ^ 32 ∧
        d.out = (s.reached t).out ++ [.frame f.port 0x34 []] ∧ d.keys = (s.reached t).keys)) ∧
  (∀ (t : Nat) (s : State), Completes (.cookiePeriodChange t) s fun d =>
    d.nat Od.cookieKeyIdNow = (s.reached t).cookiePeriod % 2 ^ 32 ∧ OnlyChanges (s.reached t) d [Od.cookieKeyIdNow] []) ∧
  (∀ (t b : Nat) (ok : Bool) (s : State), (s.reached t).bucketWaits b = [] → Idles (.cacheMissFill t b ok) s t) ∧
  (∀ (t b n : Nat) (c : Client) (f : SvcF) (p : PtpF) (s : State), (s.reached t).bucketWaits b = [.delay f p] →
    p.unicast = true → (s.reached t).reqClient (.delay f p) = some n → (s.reached t).client n = some c → c.inst < 32 →
    (s.reached t).pipeOf f.bucket < 4 → (s.reached t).nat Od.vlogNext ≤ 64 →
    (Completes (.cacheMissFill t b true) s fun d => d.bucketWaits b = [] ∧ d.cached n = true) ∧
    Completes (.cacheMissFill t b false) s fun d =>
      d.bucketWaits b = [] ∧ d.client n = none ∧
      d.nat Od.recordCheckFails = ((s.reached t).nat Od.recordCheckFails + 1) % 2 ^ 32 ∧
      d.bit Od.serviceSticky Bit.serviceSticky_RecordCheckFail = true) ∧
  (∀ (t : Nat) (s : State),
    let e := s.reached t
    match e.svc.notices with
    | [] => Idles (.admissionReview t) s t
    | n :: rest =>
      let alike (c : Client) := e.svc.clients.filterMap fun p => match p.2 with
        | some x => if x.v6 = c.v6 ∧ samePrefix x.addr c.addr (if c.v6 then 56 else 120) then some (x.age, p.1) else none
        | none => none
      let quota (c : Client) := e.nat (if c.v6 then Od.prefixQuotaV6 else Od.prefixQuotaV4)
      Completes (.admissionReview t) s fun d =>
        d.svc.notices = rest ∧
        ∀ c, e.client n = some c →
          ((alike c).length ≤ quota c →
            (∃ c', d.client n = some c' ∧ c'.reviewed = true ∧ c'.refused = c.refused) ∧ ∀ m, m ≠ n → d.client m = e.client m) ∧
          (quota c < (alike c).length → (e.svc.clients.map (·.1)).Nodup → ∀ x ∈ alike c, ∃ c', d.client x.2 = some c' ∧
            (((alike c).filter fun y => y.1 < x.1).length < quota c → c'.reviewed = true) ∧
            (quota c ≤ ((alike c).filter fun y => y.1 < x.1).length → c'.refused = true ∧ (c'.kind = 1 → c'.mask = 0)))) ∧
  (∀ (t : Nat) (s : State), (∀ n c, (n, some c) ∈ (s.reached t).svc.clients → (s.reached t).scanFrees c = false) →
    Idles (.clientScan t) s t) ∧
  (∀ (t n : Nat) (c : Client) (s : State), (s.reached t).client n = some c → (s.reached t).scanFrees c = true →
    Completes (.clientScan t) s fun d => d.client n = none)

/-- KEY_IMPORT, accepted, fills its slot with the key of the value, its type and usage, and counts the filling; KEY_GENERATE fills
it with a key drawn from the DRBG and is busy for 2 ms once the operations before it are done; KEY_DESTROY empties it and keeps
the count. KEY_ROTATE opens a KEY_ROTATION record and adds the rotation, with a new key of the old one's type and usage in the new
slot where it generates one; KEY_ROTATION_SWITCH with SwitchAt reached leaves every object that named the old slot with the new
one, and KEY_RETIRE, KeyRetireDelay later, empties the old slot. With no rotation due the last two change nothing. No other slot
changes. -/
def Obligations.KeysAreManaged : Prop :=
  (∀ (t n : Nat) (q : Req) (v : Int) (s : State), Accepted (s.reached t) q Od.keyImport v → n = octets 56 v.toNat 0 2 →
    Completes (.keyImport t q v) s fun d =>
      (∃ x, d.slot n = x ∧ x.typ = octets 56 v.toNat 2 1 ∧ x.usage = octets 56 v.toNat 3 1 ∧ x.imported = true ∧ x.uses = 0 ∧
        x.key = (if x.typ = 4 then octets 56 v.toNat 8 48 else octets 56 v.toNat 8 32) ∧
        x.fills = (((s.reached t).slot n).fills + 1) % 2 ^ 32 ∧ x.created = (s.reached t).now0 ∧
        x.cls = if (s.reached t).nat Od.lifeCycleState = 0 then 1 else 2) ∧
      (∀ m, m ≠ n → d.slot m = (s.reached t).slot m) ∧ d.nat Od.keyOpStatus = 0 ∧
      OnlyChanges (s.reached t) d ([Od.slotsUsed, Od.keyOpStatus] ++ logObjects) [.keys, .pair, .pmc]) ∧
  (∀ (t n : Nat) (q : Req) (v : Int) (s : State), Accepted (s.reached t) q Od.keyGenerate v → n = octets 8 v.toNat 0 2 →
    let e := s.reached t
    Completes (.keyGenerate t q v) s fun d =>
      (∃ x, d.slot n = x ∧ x.typ = octets 8 v.toNat 2 1 ∧ x.usage = octets 8 v.toNat 3 1 ∧ x.imported = false ∧ x.uses = 0 ∧
        x.key = (e.drawKey x.typ).1 ∧ x.fills = ((e.slot n).fills + 1) % 2 ^ 32) ∧
      d.keys.draws = e.keys.draws + 1 ∧ d.keyOpStatusNow = 1 ∧
      d.keys.jobs = e.openJobs ++ [(.fill n, e.openJobs.foldl (fun k j => max k j.2) e.tick + 2 * ticksPerMs)] ∧
      (∀ m, m ≠ n → d.slot m = e.slot m) ∧
      OnlyChanges e d ([Od.slotsUsed, Od.keyOpStatus] ++ logObjects) [.keys, .pair, .pmc]) ∧
  (∀ (t : Nat) (q : Req) (v : Int) (s : State), Accepted (s.reached t) q Od.keyDestroy v →
    Completes (.keyDestroy t q v) s fun d =>
      d.slot v.toNat = { fills := ((s.reached t).slot v.toNat).fills } ∧ (∀ m, m ≠ v.toNat → d.slot m = (s.reached t).slot m) ∧
      d.nat Od.keyOpStatus = 0 ∧
      OnlyChanges (s.reached t) d ([Od.slotsUsed, Od.keyOpStatus] ++ logObjects) [.keys, .pair, .pmc]) ∧
  (∀ (t old new src : Nat) (at' : Int) (q : Req) (v : Int) (s : State), Accepted (s.reached t) q Od.keyRotate v →
    rotateFields v.toNat = (old, new, src, at') →
    let e := s.reached t
    Completes (.keyRotate t q v) s fun d =>
      d.keys.rotations = e.keys.rotations ++ [{ old, new, switchAt := at', opId := e.nat Od.journalNextOpId }] ∧
      (∃ r ∈ d.acc.journal, r.id = e.nat Od.journalNextOpId ∧ r.kind = 3 ∧ r.outcome = 0 ∧ r.done = 1) ∧
      (src = 0 → (d.slot new).typ = (e.slot old).typ ∧ (d.slot new).usage = (e.slot old).usage ∧ (d.slot new).imported = false ∧
        d.keyOpStatusNow = 1) ∧
      (src ≠ 0 → d.slot new = e.slot new) ∧ ∀ m, m ≠ new → d.slot m = e.slot m) ∧
  (∀ (t : Nat) (r : Rotation) (s : State), s.dev.keys.rotations = [r] → r.retireAt = none → s.dev.running 0 = true →
    r.switchAt ≤ s.dev.tsNow 0 → s.dev.nat Od.stageState ≠ 2 → s.dev.pair.incs = [] → s.dev.tamperTicks = [] →
    Completes (.keyRotationSwitch t) s fun d =>
      (∀ k ∈ slotObjects, d.num k = if s.dev.nat k = r.old then (r.new : Int) else s.dev.num k) ∧
      d.keys.rotations = [{ r with retireAt := some (r.switchAt + s.dev.num Od.keyRetireDelay * second) }] ∧
      d.keys.slots = s.dev.keys.slots ∧
      OnlyChanges s.dev d (slotObjects ++ [Od.journalCount, Od.journalLastOpId, Od.journalOldestOpId]) [.keys, .acc]) ∧
  (∀ (t : Nat) (k : Int) (r : Rotation) (s : State), (s.reached t).keys.rotations = [r] → r.retireAt = some k →
    (s.reached t).running 0 = true → k ≤ (s.reached t).tsNow 0 →
    Completes (.keyRetire t) s fun d =>
      d.slot r.old = { fills := ((s.reached t).slot r.old).fills } ∧ (∀ m, m ≠ r.old → d.slot m = (s.reached t).slot m) ∧
      d.keys.rotations = [] ∧ (∀ x ∈ d.acc.journal, x.id = r.opId → x.outcome = 2) ∧
      OnlyChanges (s.reached t) d [Od.slotsUsed, Od.journalCount, Od.journalLastOpId, Od.journalOldestOpId] [.keys, .acc]) ∧
  (∀ (t : Nat) (s : State),
    let e := s.reached t
    ((∀ r ∈ e.keys.rotations, r.retireAt ≠ none ∨ e.running 0 = false ∨ e.tsNow 0 < r.switchAt) →
      Idles (.keyRotationSwitch t) s t) ∧
    ((∀ r ∈ e.keys.rotations, ∀ k, r.retireAt = some k → e.running 0 = false ∨ e.tsNow 0 < k) → Idles (.keyRetire t) s t))

/-- ATTEST_REQUEST, accepted, places the statement, signed with the identity key, for its requester; KEY_QUERY describes a slot to
its requester. TAMPER_EVENT of a pin keeps its level, and from when it has been active; active for TamperDebounce it is a tamper of
its source, on that tick. Of another source it sets or clears the live bit, and where the source is enabled its beginning seals the
key store, is counted, shown and reported; with ZeroiseOnTamper it empties every filled CUSTOMER slot and ends every session; in
OFF it changes nothing. TAMPER_UNSEAL of 1, accepted, opens the key store. LIFE_CYCLE_REQUEST, accepted, of no row of Table 13-4
or with another chip's serial number changes nothing but LifeCycleResult; of a row it brings the new state and the reset, and
SCRAPPED leaves no key. CUSTOMER_SIGNER_HASH_WRITE and SECURITY_FLOOR_WRITE, accepted, put their value, and a floor never falls. -/
def Obligations.KeysAreGuarded : Prop :=
  (∀ (t : Nat) (q : Req) (v : Int) (s : State), Accepted (s.reached t) q Od.attestRequest v →
    let e := s.reached t
    Completes (.attestRequest t q v) s fun d =>
      d.mine q Od.attestStatement = (beNat (e.statement v.toNat) * 256 ^ 96 +
        Config.ecdsa384 (e.keyOf 0) (e.statement v.toNat) e.keys.draws % 256 ^ 96 : Nat) ∧
      d.keys.jobs = e.openJobs ++ [(.attest q, e.openJobs.foldl (fun k j => max k j.2) e.tick + 5 * ticksPerMs)] ∧
      d.keyOpStatusNow = 1 ∧ d.keys.slots = e.keys.slots ∧
      OnlyChanges e d (Od.keyOpStatus :: logObjects) [.keys, .acc, .pair, .pmc]) ∧
  (∀ (t : Nat) (q : Req) (v : Int) (s : State), Accepted (s.reached t) q Od.keyQuerySlot v →
    let e := s.reached t
    let x := e.slot v.toNat
    Completes (.keyQuery t q v) s fun d =>
      (∀ p ∈ [(Od.keyQuerySlot, v.toNat), (Od.keyType, x.typ), (Od.keyOrigin, if x.imported then 1 else 0), (Od.keyUsage, x.usage),
        (Od.keyClass, x.cls), (Od.keyGeneration, x.fills), (Od.keyCreated, x.created), (Od.keyUses, x.uses),
        (Od.keyFingerprint, e.fingerprint v.toNat)], d.mine q p.1 = (p.2 : Nat)) ∧
      (∀ q' k, reqCode q' ≠ reqCode q → k < 16777216 → d.mine q' k = e.mine q' k) ∧
      OnlyChanges e d logObjects [.acc, .pair, .pmc]) ∧
  (∀ (t src detail : Nat) (level : Bool) (s : State), src < 4 →
    let e := s.reached t
    Completes (.tamperEvent t src detail level) s fun d =>
      (d.tamperPin src).level = level ∧ (∀ i, i ≠ src → d.tamperPin i = e.tamperPin i) ∧
      (level ≠ e.bit Od.tamperPolarity src →
        (d.tamperPin src).since = some ((e.tamperPin src).since.getD e.tick) ∧ OnlyChanges e d [] [.keys]) ∧
      (level = e.bit Od.tamperPolarity src → (d.tamperPin src).since = none ∧
        (e.nat Od.powerState ≠ 4 → d.bit Od.tamperLive src = false) ∧ OnlyChanges e d [Od.tamperLive] [.keys])) ∧
  (∀ (t i k : Nat) (s : State), s.dev.tamperTicks = [(i, k)] → k ≤ max s.dev.tick t → s.dev.pair.incs = [] →
    s.dev.keys.rotations = [] → s.dev.nat Od.stageState ≠ 2 → s.dev.bit Od.tamperEnable i = true →
    1 ≤ s.dev.nat Od.tamperLogNext → s.dev.nat Od.tamperLogNext ≤ 16 →
    (s.reached t).bit Od.tamperLive i = true ∧ (s.reached t).nat Od.keyStoreState = 1 ∧
    (s.reached t).bit Od.tamperSticky i = true ∧
    (s.reached t).nat Od.tamperCount = (s.dev.nat Od.tamperCount + 1) % 2 ^ 32) ∧
  (∀ (t src detail : Nat) (begins : Bool) (s : State), 4 ≤ src → src < 8 → (s.reached t).nat Od.powerState = 4 →
    Idles (.tamperEvent t src detail begins) s t) ∧
  (∀ (t src detail : Nat) (begins : Bool) (s : State), 4 ≤ src → src < 8 → (s.reached t).nat Od.powerState ≠ 4 →
    (begins = false ∨ (s.reached t).bit Od.tamperEnable src = false) →
    Completes (.tamperEvent t src detail begins) s fun d =>
      d.bit Od.tamperLive src = begins ∧ OnlyChanges (s.reached t) d [Od.tamperLive] []) ∧
  (∀ (t src detail : Nat) (s : State), 4 ≤ src → src < 8 → (s.reached t).nat Od.powerState ≠ 4 →
    (s.reached t).bit Od.tamperEnable src = true →
    1 ≤ (s.reached t).nat Od.tamperLogNext → (s.reached t).nat Od.tamperLogNext ≤ 16 →
    let e := s.reached t
    Completes (.tamperEvent t src detail true) s fun d =>
      d.bit Od.tamperLive src = true ∧ d.nat Od.keyStoreState = 1 ∧ d.keys.sinceUnseal = true ∧
      d.nat Od.tamperCount = (e.nat Od.tamperCount + 1) % 2 ^ 32 ∧ d.bit Od.tamperSticky src = true ∧
      d.nat Od.tamperLogNext = e.nat Od.tamperLogNext % 16 + 1 ∧
      (∃ r ∈ d.flt.queue, r.src = 192 ∧ r.detail = src ∧ r.tick = e.tick) ∧
      (e.bit Od.zeroiseOnTamper src = true → e.journalFree = true →
        (∀ n, n ≠ 0 → (e.slot n).cls = 2 → (d.slot n).typ = 0) ∧ d.acc.sessions = [] ∧
        d.bit Od.tamperSticky Bit.tamperSticky_Zeroised = true)) ∧
  (∀ (t : Nat) (q : Req) (v : Int) (s : State), Accepted (s.reached t) q Od.tamperUnseal v →
    let e := s.reached t
    q = .spi ∧ Completes (.tamperUnseal t q v) s fun d =>
      if v.toNat = 0 then OnlyChanges e d logObjects [.pair, .pmc]
      else d.nat Od.keyStoreState = 0 ∧ d.keys.sinceUnseal = false ∧ d.keys.slots = e.keys.slots ∧
        OnlyChanges e d ([Od.keyStoreState, Od.serviceState, Od.serviceSticky] ++ logObjects) [.keys, .svc, .pair, .pmc]) ∧
  (∀ (t : Nat) (q : Req) (v : Int) (s : State), Accepted (s.reached t) q Od.lifeCycleRequest v → (s.reached t).keys.lifeOp = none →
    let e := s.reached t
    let target := octets 8 v.toNat 0 1
    Completes (.lifeCycleRequest t q v) s fun d =>
      if e.lifeRow target = false then
        d.nat Od.lifeCycleResult = 2 ∧ OnlyChanges e d (Od.lifeCycleResult :: logObjects) [.pair, .pmc]
      else if octets 8 v.toNat 4 4 ≠ e.nat Od.serialNumber then
        d.nat Od.lifeCycleResult = 3 ∧ OnlyChanges e d (Od.lifeCycleResult :: logObjects) [.pair, .pmc]
      else if target = 2 ∧ e.isSealed = true then
        d.nat Od.lifeCycleResult = 4 ∧ OnlyChanges e d (Od.lifeCycleResult :: logObjects) [.pair, .pmc]
      else
        d.nat Od.lifeCycleState = target ∧ d.md = Mode.powerup ∧
        d.keys.lifeOp = some (e.nat Od.journalNextOpId, target) ∧
        d.nat Od.resetCount = (e.nat Od.resetCount + 1) % 2 ^ 32 ∧
        (target = 4 → ∀ n, (e.slot n).cls ≤ 2 → (d.slot n).typ = 0)) ∧
  (∀ (t i : Nat) (q : Req) (v : Int) (s : State), i < 4 → Accepted (s.reached t) q (Od.customerSignerHash i) v →
    Completes (.customerSignerHashWrite t q i v) s fun d =>
      d.num (Od.customerSignerHash i) = v ∧
      OnlyChanges (s.reached t) d (Od.customerSignerHash i :: logObjects) [.pair, .pmc]) ∧
  (∀ (t kind : Nat) (q : Req) (v : Int) (s : State), kind < 6 → Accepted (s.reached t) q (Od.securityFloor kind) v →
    (s.reached t).num (Od.securityFloor kind) ≤ v ∧ Completes (.securityFloorWrite t q kind v) s fun d =>
      d.num (Od.securityFloor kind) = v ∧
      OnlyChanges (s.reached t) d (Od.securityFloor kind :: logObjects) [.pair, .pmc])

/-- Without PairEnable no frame of the link and none of its timers changes anything. With it: NAK_FRAME sends the frames of its
range that are still kept again, with Retransmitted set; ACK_FRAME frees those up to its LinkSeq; ACK_SEND acknowledges what came
without a gap. A LOG_FRAME with a bad CRC, or beyond the LinkSeq expected, executes nothing, is counted and asked for again; in
order it is taken, executes nothing on an engine that is neither FOLLOWER nor RESYNC, and on a FOLLOWER executes its record at its
tick, here an INC, the terms of the bound or an object write. PEER_ALIVE_CHANGE keeps the level and its tick. LINK_SILENT after
LinkLossTime marks the link silent, and on a FOLLOWER whose partner is alive it is divergence 4. -/
def Obligations.LinkKeepsOrder : Prop :=
  (∀ (t a b c e : Nat) (v : Bool) (m n : Int) (x y z : Int) (l : List (Nat × LogRec)) (is : List CopyItem)
      (k : List (Nat × Nat × Nat)) (s : State),
    (s.reached t).on Od.pairEnable = false →
    Idles (.helloFrame t a b c m n e) s t ∧ Idles (.heartbeatFrame t a b v c k x y z) s t ∧ Idles (.logFrame t a v l) s t ∧
    Idles (.epochEndFrame t a v b c e) s t ∧ Idles (.digestFrame t a b) s t ∧ Idles (.nakFrame t a b) s t ∧
    Idles (.ackFrame t a) s t ∧ Idles (.copyFrame t a v is v) s t ∧ Idles (.cutoverFrame t a b) s t ∧
    Idles (.leavingFrame t a b) s t ∧ Idles (.takenFrame t a) s t ∧ Idles (.exchangeFrame t a) s t ∧
    Idles (.exchangeAckFrame t a v) s t ∧ Idles (.heartbeatSend t) s t ∧ Idles (.ackSend t) s t ∧
    Idles (.digestDeadline t) s t ∧ Idles (.linkSilent t) s t ∧ Idles (.partnerLossConfirmed t) s t ∧
    Idles (.pairJoinWaitExpiry t) s t ∧ Idles (.pcdBurnish t) s t) ∧
  (∀ (t first last : Nat) (s : State), (s.reached t).on Od.pairEnable = true →
    let e := s.reached t
    Completes (.nakFrame t first last) s fun d =>
      d.out = e.out ++ (e.pair.unacked.filter fun x => first ≤ x.seq && x.seq ≤ last).map (fun x =>
        Msg.buckle x.type x.fields (buckleOctets x.type 1 x.seq (epochOf (e.tsNow 0)) x.payload)) ∧
      d.pair = { e.pair with frameAt := some e.tick, silent := false } ∧ OnlyChanges e d [] [.pair]) ∧
  (∀ (t seq : Nat) (s : State), (s.reached t).on Od.pairEnable = true →
    Completes (.ackFrame t seq) s fun d =>
      d.pair.unacked = (s.reached t).pair.unacked.filter (fun x => seq < x.seq) ∧
      d.nat Od.retransmitBufferUse = keptUse d.pair.unacked ∧ OnlyChanges (s.reached t) d logObjects [.pair, .pmc]) ∧
  (∀ (t : Nat) (s : State), (s.reached t).on Od.pairEnable = true →
    let e := s.reached t
    if e.pair.frameAt.isSome = true then
      Completes (.ackSend t) s fun d =>
        d.out = e.out ++ [e.linkFrame 0x21 [(e.pair.seqIn + 4294967295) % 4294967296]] ∧ OnlyChanges e d [] []
    else Idles (.ackSend t) s t) ∧
  (∀ (t seq : Nat) (recs : List (Nat × LogRec)) (s : State), (s.reached t).on Od.pairEnable = true →
    let e := s.reached t
    (Completes (.logFrame t seq false recs) s fun d =>
      d.nat Od.linkCrcErrors = (e.nat Od.linkCrcErrors + 1) % 2 ^ 32 ∧
      d.out = e.out ++ [e.linkFrame 0x20 [e.pair.seqIn, e.pair.seqIn]] ∧ OnlyChanges e d [Od.linkCrcErrors] []) ∧
    (e.pair.seqIn < seq → Completes (.logFrame t seq true recs) s fun d =>
      d.nat Od.retransmits = (e.nat Od.retransmits + 1) % 2 ^ 32 ∧ d.pair.seqIn = e.pair.seqIn ∧
      d.out = e.out ++ [e.linkFrame 0x20 [e.pair.seqIn, seq - 1]] ∧ OnlyChanges e d [Od.retransmits] [.pair]) ∧
    (seq < e.pair.seqIn → Completes (.logFrame t seq true recs) s fun d =>
      d.pair.seqIn = e.pair.seqIn ∧ d.out = e.out ∧ OnlyChanges e d [] [.pair]) ∧
    (e.pair.seqIn = seq → e.md ≠ Mode.follower → e.md ≠ Mode.resync → Completes (.logFrame t seq true recs) s fun d =>
      d.pair.seqIn = (seq + 1) % 4294967296 ∧ d.out = e.out ∧ OnlyChanges e d [] [.pair])) ∧
  (∀ (t seq a n inc at' uy ua ut lo k : Nat) (pred temp : Int) (sys : List (Nat × Nat)) (v : Int) (s : State),
    (s.reached t).on Od.pairEnable = true → (s.reached t).pair.seqIn = seq → (s.reached t).md = Mode.follower →
    let e := s.reached t
    let e' : Dev := { e with pair := { e.pair with
      frameAt := some e.tick, silent := false, seqIn := (seq + 1) % 4294967296, received := e.pair.received + 1, entry := some a } }
    (Completes (.logFrame t seq true [(a, .inc n inc at')]) s fun d =>
      d.pair.seqIn = (seq + 1) % 4294967296 ∧
      if at' ≤ e.tick then Tab.find? d.pair.logged n = some inc else d.pair.incs = e.pair.incs ++ [(at', n, inc)]) ∧
    (Completes (.logFrame t seq true [(a, .terms pred uy ua ut lo temp sys)]) s fun d =>
      d.pair.seqIn = (seq + 1) % 4294967296 ∧ d.pair.terms = some { pred, uy, ua, ut, lo, temp, sys } ∧
      OnlyChanges e d [] [.pair]) ∧
    (PlainObject k v → askValues (asksOf [(k, v)]) = [(k, v)] →
      firstFail (e'.askStatus (e'.wrOf .log (e'.levelOf .log) [(k, v)])) 0 (asksOf [(k, v)]) = none →
      Completes (.logFrame t seq true [(a, .write [(k, v)])]) s fun d =>
        d.pair.seqIn = (seq + 1) % 4294967296 ∧ d.num k = v ∧ OnlyChanges e d [k] [.pair])) ∧
  (∀ (t : Nat) (level : Bool) (s : State),
    if (s.reached t).pair.peer = level then Idles (.peerAliveChange t level) s t
    else Completes (.peerAliveChange t level) s fun d =>
      d.pair = { (s.reached t).pair with peer := level, peerAt := (s.reached t).tick } ∧ OnlyChanges (s.reached t) d [] [.pair]) ∧
  (∀ (t : Nat) (s : State), (s.reached t).on Od.pairEnable = true →
    let e := s.reached t
    if e.pair.silent = false ∧ e.pair.frameAt.any (fun k => decide (e.nat Od.linkLossTime * ticksPerUs ≤ e.tick - k)) = true then
      Completes (.linkSilent t) s fun d =>
        d.pair.silent = true ∧
        (e.peerAlive = false ∨ (e.md ≠ Mode.follower ∧ e.nat Od.pairState ≠ 2) → OnlyChanges e d [] [.pair]) ∧
        (e.peerAlive = true → e.md = Mode.follower → d.nat Od.lastDivergenceCause = 4 ∧ d.nat Od.digestRun = 0)
    else Idles (.linkSilent t) s t)

/-- HELLO_FRAME keeps what the partner says; a mismatch of versions is shown, an ACTIVE engine that must yield to another resets,
one that need not shows DualActive, and an engine ready in WARMUP joins an ACTIVE partner as STANDBY in RESYNC. Once PairJoinWait
has passed without a HELLO, PAIR_JOIN_WAIT_EXPIRY makes it ACTIVE in ACQUIRE. HEARTBEAT_FRAME keeps the partner's health, mode
and measure; on an ACTIVE engine a FOLLOWER makes the pair PAIRED, and a FOLLOWER takes the active's mode and horizon and drops
the held frames that are committed. HEARTBEAT_SEND while ALIVE toggles sends the heartbeat, TAKEN for 10 s after a failover, and
ends a planned exchange past its At. PAIR_ENABLE_WRITE, accepted, of 0 leaves no role; PCD_BURNISH runs every 900 s. -/
def Obligations.HellosAndHeartbeats : Prop :=
  (∀ (t serial priority claim since' : Nat) (app micro : Int) (s : State), (s.reached t).on Od.pairEnable = true →
    (s.reached t).md ≠ Mode.warmup → (s.reached t).nat Od.pairRole ≠ 1 →
    let e := s.reached t
    let suits := app = e.num Od.applicationVersionM3 ∧ micro = e.update.micro
    Completes (.helloFrame t serial priority claim app micro since') s fun d =>
      d.nat Od.partnerSerial = serial ∧
      (suits → d.pair = { e.pair with
          frameAt := some e.tick, silent := false, hello := some ⟨serial, priority, claim, true, since'⟩ } ∧
        OnlyChanges e d [Od.partnerSerial] [.pair]) ∧
      (¬suits → e.md ≠ Mode.follower → d.nat Od.pairState = 6 ∧ d.bit Od.pairSticky Bit.pairSticky_ImageMismatch = true ∧
        OnlyChanges e d [Od.partnerSerial, Od.pairState, Od.pairSticky] [.pair])) ∧
  (∀ (t serial priority since' : Nat) (s : State), (s.reached t).on Od.pairEnable = true → (s.reached t).md = Mode.warmup →
    (s.reached t).mode.ready = true → (s.reached t).nat Od.pairRole ≠ 1 → (s.reached t).cycleTaken = false →
    (s.reached t).mode.queue = [] → (s.reached t).journalFree = true →
    Completes (.helloFrame t serial priority 1 ((s.reached t).num Od.applicationVersionM3) (s.reached t).update.micro since') s
      fun d => d.md = Mode.resync ∧ d.nat Od.pairRole = 2 ∧ d.nat Od.pairState = 4 ∧ d.pair.running = true ∧
        d.nat Od.resyncStep = 0) ∧
  (∀ (t serial priority claim since' : Nat) (s : State), (s.reached t).on Od.pairEnable = true → (s.reached t).nat Od.pairRole = 1 →
    (s.reached t).nat Od.pairState ≠ 6 → (s.reached t).md ≠ Mode.warmup → claim < 2 →
    let e := s.reached t
    Completes (.helloFrame t serial priority claim (e.num Od.applicationVersionM3) e.update.micro since') s fun d =>
      if claim = 0 then d.nat Od.pairState = 3 ∧ OnlyChanges e d [Od.partnerSerial, Od.pairState] [.pair]
      else if e.yields serial since' = true then
        d.md = Mode.powerup ∧ d.nat Od.pairRole = 0 ∧ d.nat Od.resetCount = (e.nat Od.resetCount + 1) % 2 ^ 32
      else
        d.bit Od.pairSticky Bit.pairSticky_DualActive = true ∧ OnlyChanges e d [Od.partnerSerial, Od.pairSticky] [.pair]) ∧
  (∀ (t : Nat) (s : State), (s.reached t).on Od.pairEnable = true →
    let e := s.reached t
    if e.md = Mode.warmup ∧ e.mode.ready = true ∧ e.pair.hello = none ∧
        e.pair.waiting.any (fun k => decide (e.nat Od.pairJoinWait * ticksPerSec ≤ e.tick - k)) = true then
      Completes (.pairJoinWaitExpiry t) s fun d =>
        d.md = Mode.acquire ∧ d.nat Od.lastModeCause = 4 ∧ d.nat Od.pairRole = 1 ∧ d.nat Od.pairState = 3 ∧ d.pair.waiting = none
    else Idles (.pairJoinWaitExpiry t) s t) ∧
  (∀ (t mode role horizon : Nat) (healthy : Bool) (commits : List (Nat × Nat × Nat)) (m own lead : Int) (s : State),
    (s.reached t).on Od.pairEnable = true → (s.reached t).nat Od.pairRole = 1 → (s.reached t).nat Od.pairState ≠ 6 →
    let e := s.reached t
    Completes (.heartbeatFrame t mode role healthy horizon commits m own lead) s fun d =>
      d.on Od.partnerHealthy = healthy ∧ d.pair.peerMode = mode ∧ d.pair.peerMeasure = m ∧ d.pair.measure = own ∧
      d.nat Od.pairState = (if mode = Mode.follower then 2 else if mode = Mode.resync ∧ e.pair.diverged = false then 4 else 3) ∧
      OnlyChanges e d [Od.partnerHealthy, Od.pairState, Od.pairSticky] [.pair]) ∧
  (∀ (t mode horizon : Nat) (healthy : Bool) (commits : List (Nat × Nat × Nat)) (m own lead : Int) (s : State),
    (s.reached t).on Od.pairEnable = true → (s.reached t).nat Od.pairRole = 2 → (s.reached t).md = Mode.follower →
    let e := s.reached t
    Completes (.heartbeatFrame t mode 1 healthy horizon commits m own lead) s fun d =>
      d.on Od.partnerHealthy = healthy ∧ d.nat Od.shadowMode = mode ∧ d.pair.horizon = max e.pair.horizon horizon ∧
      (∀ h, h ∈ d.pair.held ↔ h ∈ e.pair.held ∧ beyondCommit d.pair.commit h = true) ∧ d.nat Od.holdDepth = d.pair.held.length ∧
      (e.nat Od.shadowMode ≠ Mode.holdover → mode ≠ Mode.holdover → mode ≠ Mode.freerun →
        OnlyChanges e d [Od.partnerHealthy, Od.shadowMode, Od.holdDepth] [.pair, .keep])) ∧
  (∀ (t : Nat) (s : State), (s.reached t).on Od.pairEnable = true →
    let e := s.reached t
    let commits := ((List.range 16).map fun p => [(e.port p).commit.1, (e.port p).commit.2]).flatten
    if e.nat Od.aliveState = 1 then
      Completes (.heartbeatSend t) s fun d =>
        d.out = e.out ++ [e.linkFrame 0x02 ([e.md, e.nat Od.pairRole, if e.healthy then 1 else 0, e.cnt] ++ commits ++
          [twos 64 e.pair.measure])] ++
          (if e.tick < e.pair.takenUntil then [e.linkFrame 0x41 [e.nat Od.lastFailoverTime]] else []) ∧
        (e.pair.exchange = none → OnlyChanges e d [] []) ∧
        (∀ at', e.pair.exchange = some (at', true) → at' ≤ e.tsNow 0 → e.nat Od.roleExchangeResult = 1 →
          d.nat Od.roleExchangeResult = 2 ∧ d.bit Od.pairSticky Bit.pairSticky_ExchangeDone = true ∧
          OnlyChanges e d [Od.roleExchangeResult, Od.pairSticky] [])
    else Idles (.heartbeatSend t) s t) ∧
  (∀ (t : Nat) (q : Req) (v : Int) (s : State), Accepted (s.reached t) q Od.pairEnable v →
    Completes (.pairEnableWrite t q v) s fun d =>
      d.num Od.pairEnable = v ∧
      (v = 0 → d.nat Od.pairRole = 0 ∧ d.nat Od.pairState = 0 ∧ d.pair.hello = none) ∧
      (v ≠ 0 → OnlyChanges (s.reached t) d (Od.pairEnable :: logObjects) [.pair, .pmc])) ∧
  (∀ (t : Nat) (s : State), (s.reached t).on Od.pairEnable = true →
    if 900 * ticksPerSec ≤ (s.reached t).tick - (s.reached t).pair.pcdAt then
      Completes (.pcdBurnish t) s fun d =>
        d.pair = { (s.reached t).pair with pcdAt := (s.reached t).tick } ∧ d.nat Od.pcdSysTerm = sysTermOf 0 0 ∧
        OnlyChanges (s.reached t) d [Od.pcdSysTerm] [.pair]
    else Idles (.pcdBurnish t) s t)

/-- DIGEST_FRAME and EPOCH_END_FRAME of an epoch whose own digest is known: equal digests are counted in DigestRun and shown,
unequal ones on a FOLLOWER are divergence 1. EPOCH_BOUNDARY shows the epoch, takes the lanes that are UP into use, and on the
ACTIVE engine of a PAIRED pair forms the digest of the epoch past from the last one and what each writer wrote, and sends it.
DIGEST_DEADLINE without the log of its epoch is divergence 2. In a resynchronisation, COPY_FRAME puts its items in place, but for
what is the engine's own, and ends step 2 with the last; CUTOVER_FRAME seeds the digest and ends step 3; RESYNC_STEP_TIMEOUT past
the step's limit fails the run, and RESYNC_RETRY 10 s later starts the next one. (Which 128 bits of SHA-256 a digest is: log entry
90.) -/
def Obligations.DigestsAndResync : Prop :=
  (∀ (t epoch own digest seq count : Nat) (s : State), (s.reached t).on Od.pairEnable = true →
    Tab.find? (s.reached t).pair.digests epoch = some own → (s.reached t).md ≠ Mode.resync → (s.reached t).pair.seqIn = seq →
    let e := s.reached t
    (own = digest →
      (Completes (.digestFrame t epoch digest) s fun d =>
        d.nat Od.digestRun = (e.nat Od.digestRun + 1) % 2 ^ 64 ∧ d.nat Od.digestEpoch = epoch ∧ d.nat Od.digestLast = own ∧
        d.pair.matched = true ∧ Tab.find? d.pair.digests epoch = none) ∧
      Completes (.epochEndFrame t seq true epoch count digest) s fun d =>
        d.nat Od.digestRun = (e.nat Od.digestRun + 1) % 2 ^ 64 ∧ d.nat Od.digestEpoch = epoch ∧ d.pair.matched = true ∧
        d.pair.complete = (if e.pair.received = count then max e.pair.complete epoch else e.pair.complete) ∧
        d.pair.received = 0 ∧ d.pair.seqIn = (seq + 1) % 4294967296) ∧
    (own ≠ digest → e.md = Mode.follower → e.nat Od.pairState ≠ 5 →
      (Completes (.digestFrame t epoch digest) s fun d =>
        d.nat Od.lastDivergenceCause = 1 ∧ d.nat Od.lastDivergenceEpoch = epoch ∧ d.nat Od.digestRun = 0 ∧
        d.nat Od.divergenceCount = (e.nat Od.divergenceCount + 1) % 2 ^ 32) ∧
      Completes (.epochEndFrame t seq true epoch count digest) s fun d =>
        d.nat Od.lastDivergenceCause = 1 ∧ d.nat Od.lastDivergenceEpoch = epoch)) ∧
  (∀ (t : Nat) (ws : List (Nat × Nat × Nat)) (cut : Option Nat) (s : State), (s.reached t).running 0 = false →
    Idles (.epochBoundary t ws cut) s t) ∧
  (∀ (t : Nat) (ws : List (Nat × Nat × Nat)) (cut : Option Nat) (s : State), (s.reached t).running 0 = true →
    (s.reached t).pair.handlers = [] →
    let e := s.reached t
    let n := epochOf (e.tsNow 0)
    Completes (.epochBoundary t ws cut) s fun d =>
      d.nat Od.epochNow = n ∧
      (e.on Od.pairEnable = false → OnlyChanges e d [Od.epochNow] []) ∧
      (e.on Od.pairEnable = true → d.nat Od.lanesInUse = e.pairLanesUp ∧
        d.nat Od.linkState = (if e.pairLanesUp = 0 then 0 else if e.pairLanesUp = 15 then 1 else 2)) ∧
      (e.on Od.pairEnable = true → e.digests = false →
        OnlyChanges e d [Od.epochNow, Od.lanesInUse, Od.linkState, Od.pairSticky, Od.faultLive] [.pair, .flt]) ∧
      (e.on Od.pairEnable = true → e.nat Od.pairRole = 1 → e.nat Od.pairState = 2 → Tab.find? e.pair.theirs (n - 1) = none →
        (∃ w, Msg.buckle 0x11 [n - 1, e.pair.logged', digestOf (n - 1) e.pair.last ws] w ∈ d.out) ∧
        d.pair.last = digestOf (n - 1) e.pair.last ws ∧ d.pair.logged' = 0 ∧
        d.pair.seqOut = (e.pair.seqOut + 1) % 4294967296) ∧
      (e.on Od.pairEnable = true → e.nat Od.pairRole = 1 → e.nat Od.pairState = 4 → Tab.find? e.pair.theirs (n - 1) = none →
        ∀ seed, cut = some seed → d.pair.last = seed ∧ d.pair.seed = some (n - 1, seed) ∧
          ∃ w, Msg.buckle 0x31 [n - 1, seed] w ∈ d.out)) ∧
  (∀ (t : Nat) (beyond : Int) (s : State), (s.reached t).on Od.pairEnable = true → (s.reached t).running 0 = true →
    (s.reached t).md = Mode.follower →
    beyond = (s.reached t).tsNow 0 - ((s.reached t).nat Od.digestDeadline * 1000 * 2 ^ 32 : Nat) → epochStart 1 ≤ beyond →
    ((s.reached t).pair.complete < epochOf beyond - 1 → (s.reached t).peerAlive = true →
      Completes (.digestDeadline t) s fun d =>
        d.nat Od.lastDivergenceCause = 2 ∧ d.nat Od.lastDivergenceEpoch = epochOf beyond - 1 ∧ d.nat Od.digestRun = 0) ∧
    (epochOf beyond - 1 ≤ (s.reached t).pair.complete → (s.reached t).pair.handlers = [] → Idles (.digestDeadline t) s t)) ∧
  (∀ (t seq k : Nat) (v : Int) (done : Bool) (s : State), (s.reached t).on Od.pairEnable = true → (s.reached t).pair.seqIn = seq →
    (s.reached t).md = Mode.resync → (s.reached t).pair.running = true → (s.reached t).nat Od.resyncStep = 1 →
    Completes (.copyFrame t seq true [.obj k v] done) s fun d =>
      (Od.isLocal k = false → k ∉ [Od.resyncStep, Od.journalCount, Od.journalLastOpId, Od.journalOldestOpId] → d.num k = v) ∧
      (k ≠ Od.resyncStep → d.nat Od.resyncStep = (if done = true then 2 else 1)) ∧ d.pair.seqIn = (seq + 1) % 4294967296 ∧
      OnlyChanges (s.reached t) d [if Od.isLocal k then Od.resyncStep else k, Od.resyncStep, Od.journalCount, Od.journalLastOpId,
        Od.journalOldestOpId] [.pair, .acc]) ∧
  (∀ (t epoch seed : Nat) (s : State), (s.reached t).on Od.pairEnable = true → (s.reached t).md = Mode.resync →
    (s.reached t).pair.running = true → (s.reached t).nat Od.resyncStep = 2 →
    Completes (.cutoverFrame t epoch seed) s fun d =>
      d.nat Od.resyncStep = 3 ∧ d.pair.seed = some (epoch, seed) ∧ d.pair.last = seed ∧ d.pair.complete = epoch ∧
      d.pair.stepAt = (s.reached t).tick ∧
      OnlyChanges (s.reached t) d [Od.resyncStep, Od.journalCount, Od.journalLastOpId, Od.journalOldestOpId] [.pair, .acc]) ∧
  (∀ (t : Nat) (s : State),
    let e := s.reached t
    if e.md = Mode.resync ∧ e.pair.running = true ∧ e.resyncLimit < e.tick - e.pair.stepAt then
      Completes (.resyncStepTimeout t) s fun d =>
        d.pair = { e.pair with running := false, failedAt := some e.tick } ∧
        (∀ x ∈ d.acc.journal, x.id = e.nat Od.resyncOpId → x.outcome = 3) ∧
        OnlyChanges e d [Od.journalCount, Od.journalLastOpId, Od.journalOldestOpId] [.pair, .acc]
    else Idles (.resyncStepTimeout t) s t) ∧
  (∀ (t : Nat) (s : State),
    let e := s.reached t
    if e.md = Mode.resync ∧ e.pair.running = false ∧ e.journalFree = true ∧
        e.pair.failedAt.any (fun k => decide (10 * ticksPerSec ≤ e.tick - k)) = true then
      Completes (.resyncRetry t) s fun d =>
        d.pair.running = true ∧ d.pair.failedAt = none ∧ d.nat Od.resyncStep = 0 ∧ d.nat Od.pairState = 4 ∧
        d.nat Od.resyncOpId = e.nat Od.journalNextOpId
    else Idles (.resyncRetry t) s t)

/-- On a STANDBY, LEAVING_FRAME of cause 0 keeps its At, and EXCHANGE_FRAME is answered with whether it can take over.
TAKEN_FRAME resets an ACTIVE engine. ROLE_EXCHANGE_WRITE, accepted, asks the partner; EXCHANGE_ACK_FRAME of that At announces
the leaving or ends the exchange REFUSED. PARTNER_LOSS_CONFIRMED without confirmation changes nothing; a healthy FOLLOWER that
may take over becomes ACTIVE in the mode it shadows, another declines; an engine in RESYNC ends its run and, with SoloStart, goes
on as the ACTIVE; an ACTIVE engine goes on alone. M3_EVENT_DELIVERY starts the handler of the oldest event, in a pair once no
handler of an earlier epoch runs; M3_HANDLER_RETURN keeps its actions for the epoch boundary, carries them out at once on an engine
of no pair, and late on a standby past its boundary counts them in AppLag. -/
def Obligations.RolesChangeHands : Prop :=
  (∀ (t time cause : Nat) (s : State), (s.reached t).on Od.pairEnable = true →
    let e := s.reached t
    (Completes (.leavingFrame t time cause) s fun d =>
      d.pair.leaving = (if e.nat Od.pairRole = 2 ∧ cause = 0 then some (tsTime time) else e.pair.leaving) ∧
      OnlyChanges e d [] [.pair]) ∧
    (Completes (.takenFrame t time) s fun d =>
      if e.nat Od.pairRole = 1 ∧ 0 ≤ tsTime time then
        d.md = Mode.powerup ∧ d.nat Od.pairRole = 0 ∧ d.scales = [] ∧ d.nat Od.resetCount = (e.nat Od.resetCount + 1) % 2 ^ 32
      else OnlyChanges e d [] [.pair]) ∧
    Completes (.exchangeFrame t time) s fun d =>
      d.out = e.out ++ (if e.nat Od.pairRole = 2 then
        [e.linkFrame 0x43 [time, if e.healthy && e.on Od.failoverPermit then 1 else 0]] else []) ∧
      OnlyChanges e d [] [.pair]) ∧
  (∀ (t : Nat) (q : Req) (v : Int) (s : State), Accepted (s.reached t) q Od.roleExchangeAt v →
    (s.reached t).nat Od.pairRole = 1 ∧ (s.reached t).nat Od.pairState = 2 ∧ Completes (.roleExchangeWrite t q v) s fun d =>
      d.nat Od.roleExchangeResult = 1 ∧ d.pair.exchange = some (tsTime v.toNat, false) ∧
      (s.reached t).linkFrame 0x42 [v.toNat] ∈ d.out ∧
      OnlyChanges (s.reached t) d (Od.roleExchangeResult :: logObjects) [.pair, .pmc]) ∧
  (∀ (t time : Nat) (accept : Bool) (s : State), (s.reached t).on Od.pairEnable = true →
    let e := s.reached t
    Completes (.exchangeAckFrame t time accept) s fun d =>
      if e.pair.exchange ≠ some (tsTime time, false) then d.pair.exchange = e.pair.exchange ∧ OnlyChanges e d [] [.pair]
      else if accept = true then
        d.pair.exchange = some (tsTime time, true) ∧ d.out = e.out ++ [e.linkFrame 0x40 [time, 0]] ∧ OnlyChanges e d [] [.pair]
      else
        d.pair.exchange = none ∧ d.nat Od.roleExchangeResult = 3 ∧ d.out = e.out ∧
        OnlyChanges e d [Od.roleExchangeResult] [.pair]) ∧
  (∀ (t : Nat) (s : State), (s.reached t).on Od.pairEnable = true → (s.reached t).lossConfirmed = false →
    Idles (.partnerLossConfirmed t) s t) ∧
  (∀ (t : Nat) (s : State), (s.reached t).on Od.pairEnable = true → (s.reached t).lossConfirmed = true →
    let e := s.reached t
    (e.md = Mode.follower → e.nat Od.pairState ≠ 5 → e.healthy = true → e.on Od.failoverPermit = true →
      e.nat Od.shadowMode ∈ serviceModes → e.cycleTaken = false → e.mode.queue = [] →
      Completes (.partnerLossConfirmed t) s fun d =>
        d.md = e.nat Od.shadowMode ∧ d.nat Od.pairRole = 1 ∧ d.nat Od.pairState = 3 ∧
        d.nat Od.failoverCount = (e.nat Od.failoverCount + 1) % 2 ^ 32 ∧ d.bit Od.pairSticky Bit.pairSticky_Failover = true) ∧
    (e.md = Mode.follower → e.nat Od.pairState ≠ 5 → (e.healthy = false ∨ e.on Od.failoverPermit = false) →
      Completes (.partnerLossConfirmed t) s fun d =>
        d.nat Od.pairState = 5 ∧ d.bit Od.pairSticky Bit.pairSticky_FailoverDeclined = true ∧ d.md = Mode.follower ∧
        OnlyChanges e d [Od.pairState, Od.pairSticky, Od.faultLive] [.flt]) ∧
    (e.md = Mode.resync → e.cycleTaken = false → e.mode.queue = [] →
      Completes (.partnerLossConfirmed t) s fun d =>
        d.pair.running = false ∧ d.nat Od.lastModeCause = 12 ∧
        (e.on Od.soloStart = true → d.md = Mode.acquire ∧ d.nat Od.pairRole = 1) ∧
        (e.on Od.soloStart = false → d.md = Mode.resync ∧ d.pair.failedAt = some e.tick)) ∧
    (e.md ≠ Mode.follower → e.md ≠ Mode.resync → e.nat Od.pairRole = 1 →
      Completes (.partnerLossConfirmed t) s fun d =>
        d.nat Od.pairState = 3 ∧ d.pair.hello = none ∧ OnlyChanges e d [Od.pairState] [.pair])) ∧
  (∀ (t : Nat) (s : State),
    let e := s.reached t
    match e.tugs.events with
    | [] => Idles (.m3EventDelivery t) s t
    | r :: rest =>
      let waits := e.on Od.pairEnable = true ∧ ∃ h ∈ e.pair.handlers, h.returned = false ∧ h.epoch < e.eventEpoch r
      (e.nat (Od.coreState 3) ≠ 1 ∨ e.stays 9 = true ∨ waits → Idles (.m3EventDelivery t) s t) ∧
      (e.nat (Od.coreState 3) = 1 → e.stays 9 = false → ¬waits →
        Completes (.m3EventDelivery t) s fun d =>
          d.tugs.events = rest ∧ d.pair.handlers = e.pair.handlers ++ [{ epoch := e.eventEpoch r, entry := r.tick }])) ∧
  (∀ (t : Nat) (acts : List (Nat × Int)) (h : Handler) (s : State), (s.reached t).pair.handlers = [h] → h.returned = false →
    let e := s.reached t
    let e' : Dev := { e with pair := { e.pair with handlers := [] } }
    (e.on Od.pairEnable = true → e.nat Od.pairRole ≠ 2 ∨ epochOf (e.tsNow 0) < h.epoch + 2 →
      Completes (.m3HandlerReturn t acts) s fun d =>
        d.pair.handlers = [{ h with returned := true, acts }] ∧ OnlyChanges e d [] [.pair]) ∧
    (e.on Od.pairEnable = true → e.nat Od.pairRole = 2 → h.epoch + 2 ≤ epochOf (e.tsNow 0) → acts = [] →
      Completes (.m3HandlerReturn t acts) s fun d =>
        d.pair.handlers = [] ∧ d.nat Od.appLag = (e.nat Od.appLag + 1) % 2 ^ 32 ∧ OnlyChanges e d [Od.appLag] [.pair, .flt]) ∧
    (e.on Od.pairEnable = false → acts = [] →
      Completes (.m3HandlerReturn t acts) s fun d => d.pair.handlers = [] ∧ OnlyChanges e d [] [.pair]) ∧
    (∀ k v r, e.on Od.pairEnable = false → acts = [(k, v)] → PlainObject k v → Dict.row? k = some r → r.typ.fits v = true →
      ({ key := k, typ := r.typ.wire, bytes := r.typ.enc v } : Ask).status e.acc.appLevel = .ok →
      e'.chapterCheck (e'.wrOf .app e.acc.appLevel [(k, v)]) true k v = .ok → e.reaches .app k = true →
      Completes (.m3HandlerReturn t acts) s fun d =>
        d.pair.handlers = [] ∧ d.num k = v ∧ OnlyChanges e d [k] [.pair])) ∧
  (∀ (t : Nat) (acts : List (Nat × Int)) (s : State), (s.reached t).pair.handlers = [] → Idles (.m3HandlerReturn t acts) s t)

/-- FAULT_ACK, accepted: of a source number it clears Unacked of that source, and of no other; of 0xFFFF it clears Unacked of all
sources. No source changes its state or its Level, and FaultSticky stays, as do all other objects but FaultUnacked and every part
of the engine but the collector. -/
def Obligations.FaultAcknowledged : Prop :=
  ∀ (t : Nat) (q : Req) (v : Int) (s : State), Accepted (s.reached t) q Od.faultAck v →
    let e := s.reached t
    Completes (.faultAck t q v) s fun d =>
      (v.toNat ≠ 0xFFFF → (d.frec v.toNat).unacked = false ∧ d.bit Od.faultUnacked (sourceBit v.toNat) = false ∧
        ∀ n, n ≠ v.toNat → d.frec n = e.frec n) ∧
      (v.toNat = 0xFFFF → ∀ n, (d.frec n).unacked = false) ∧
      (∀ n, (d.frec n).active = (e.frec n).active ∧ (d.frec n).level = (e.frec n).level) ∧
      d.num Od.faultSticky = e.num Od.faultSticky ∧ OnlyChanges e d [Od.faultUnacked] [.flt]

/-- FAULT_REPORT of a source, with no other report on its way, no reaction armed and no settle window open: of a disabled source it
is counted and nothing else; of an enabled one it makes the source ACTIVE at a level of at least its severity, counts, keeps the
detail, is shown and logged. Where a report of the source already waits and its 1.6 µs have passed, it is that report which is
released; source 217 carries the die temperature, live above the grade's maximum, and TjMaxSeen follows it (log entry 27).
REACT_SETTLE_END closes the entry's windows that have ended, completes their records and has each live source of their sets report
once more. SOURCE_QUIET_PERIOD returns an ACTIVE source, no longer live and quiet for QuietPeriod, to CLEAR; the last of those that
brought about SAFE ends it. FAULT_RECORD_CLEAR, accepted, zeroes the record of its source, or of every CLEAR source; FAULT_QUERY
shows the record to its requester; SOURCE_CONFIG_WRITE without Enable makes its source CLEAR. -/
def Obligations.FaultsAreCollected : Prop :=
  (∀ (t src detail : Nat) (s : State), isSource src = true →
    let e := s.reached t
    let temp := untwos 32 (detail % 2 ^ 32)
    Completes (.faultReport t src detail) s fun d =>
      (src ≠ 217 → e.flt.queue = [] → 1000 ≤ e.tick → e.flt.windows = [] → e.arms = 0 → e.nat Od.faultLogNext < 256 →
        (d.frec src).count = ((e.frec src).count + 1) % 4294967296 ∧ (d.frec src).lastDetail = detail % 4294967296 ∧
        d.flt.queue = [] ∧ (∀ n, n ≠ src → d.frec n = e.frec n) ∧
        if e.sourceOn src = false then (d.frec src).active = (e.frec src).active ∧ OnlyChanges e d [] [.flt]
        else
          (d.frec src).active = true ∧ e.severity src ≤ (d.frec src).level ∧ (e.frec src).level ≤ (d.frec src).level ∧
          d.bit Od.faultActive (sourceBit src) = true ∧
          ((e.frec src).active = false → (d.frec src).unacked = true ∧ d.bit Od.faultSticky (sourceBit src) = true) ∧
          OnlyChanges e d [Od.faultActive, Od.faultSticky, Od.faultUnacked, Od.girthLevel, Od.sourcesActive, Od.aliveState,
            Od.collectorSticky, Od.faultLogNext, Od.faultLogEntry (e.nat Od.faultLogNext),
            Od.faultLogEntry ((e.nat Od.faultLogNext + 255) % 256)] [.flt]) ∧
      (src ≠ 217 → ∀ r, e.flt.queue = [r] → r.src = src → r.tick + 1000 ≤ e.tick → e.flt.windows = [] → r.arms = 0 →
        e.nat Od.faultLogNext < 256 →
        (d.frec src).count = ((e.frec src).count + 1) % 4294967296 ∧ (d.frec src).lastDetail = r.detail ∧
        d.flt.queue = [] ∧ (∀ n, n ≠ src → d.frec n = e.frec n) ∧
        (e.sourceOn src = true → (d.frec src).active = true ∧ d.bit Od.faultActive (sourceBit src) = true)) ∧
      (src = 217 → e.flt.queue = [] → e.arms = 0 → temp ≤ e.tjMax →
        d.num Od.tjMaxSeen = max (e.num Od.tjMaxSeen) temp ∧ d.isLive 217 = false ∧
        OnlyChanges e d [Od.tjMaxSeen, Od.faultLive] [.flt]) ∧
      (src = 217 → e.flt.queue = [] → e.arms = 0 → e.tjMax < temp →
        d.num Od.tjMaxSeen = max (e.num Od.tjMaxSeen) temp ∧ d.isLive 217 = true)) ∧
  (∀ (t r : Nat) (s : State), r < 32 →
    let e := s.reached t
    let beyond (w : Settle) : Bool := w.entry == r && decide (w.stop ≤ e.tick) && !w.ended
    if e.flt.windows.any beyond = false then Idles (.reactSettleEnd t r) s t
    else Completes (.reactSettleEnd t r) s fun d =>
      d.flt.windows = e.flt.windows.map (fun w => if beyond w = true then { w with ended := true } else w) ∧
      (∀ w ∈ e.flt.windows, beyond w = true →
        (w.opId ∉ e.flt.resetOps → ∀ x ∈ d.acc.journal, x.id = w.opId → x.outcome = 2 ∧ x.done = 3) ∧
        (∀ n, n < 256 → w.set.testBit (sourceBit n) = true → e.isLive n = true →
          ∃ x ∈ d.flt.queue, x.src = n ∧ x.tick = w.stop ∧ x.settled = true)) ∧
      (e.nat Od.faultLive = 0 → d.flt.queue = e.flt.queue) ∧ (∀ n, d.frec n = e.frec n) ∧
      OnlyChanges e d [Od.journalCount, Od.journalLastOpId, Od.journalOldestOpId] [.flt, .acc]) ∧
  (∀ (t src : Nat) (s : State), src < 256 →
    let e := s.reached t
    if (e.frec src).active = true ∧ e.isLive src = false ∧
        e.nat Od.quietPeriod * ticksPerSec ≤ e.tick - (e.frec src).quiet then
      Completes (.sourceQuietPeriod t src) s fun d =>
        (src ∉ e.flt.safeBy → e.nat Od.faultLogNext < 256 →
          (d.frec src).active = false ∧ (d.frec src).level = 0 ∧
          (d.frec src).recoveries = ((e.frec src).recoveries + 1) % 4294967296 ∧
          (d.frec src).lastRecovery = e.now0 ∧ (d.frec src).count = (e.frec src).count ∧
          d.bit Od.faultActive (sourceBit src) = false ∧ d.bit Od.collectorSticky Bit.collectorSticky_Recovered = true ∧
          (∀ n, n ≠ src → d.frec n = e.frec n) ∧
          OnlyChanges e d [Od.faultActive, Od.collectorSticky, Od.girthLevel, Od.sourcesActive, Od.aliveState, Od.faultLogNext,
            Od.faultLogEntry (e.nat Od.faultLogNext)] [.flt]) ∧
        (e.flt.safeBy = [src] → e.nat Od.faultLogNext < 256 → e.md = Mode.safe → e.on Od.pairEnable = false →
          e.bit Od.modeArm Bit.modeArm_SafeHold = false → (∀ p ∈ e.flt.recs, p.1 ≠ src → p.2.level < 4) →
          e.cycleTaken = false → e.mode.queue = [] → d.md = e.safeExit ∧ d.nat Od.lastModeCause = 11)
    else Idles (.sourceQuietPeriod t src) s t) ∧
  (∀ (t : Nat) (q : Req) (v : Int) (s : State), Accepted (s.reached t) q Od.faultRecordClear v →
    let e := s.reached t
    Completes (.faultRecordClear t q v) s fun d =>
      (v.toNat ≠ 0xFFFF → (e.frec v.toNat).active = false ∧ d.frec v.toNat = {} ∧
        d.bit Od.faultUnacked (sourceBit v.toNat) = false ∧ ∀ n, n ≠ v.toNat → d.frec n = e.frec n) ∧
      (v.toNat = 0xFFFF → ∀ n, (e.frec n).active = false → d.frec n = {}) ∧
      OnlyChanges e d [Od.faultUnacked] [.flt]) ∧
  (∀ (t : Nat) (q : Req) (v : Int) (s : State), Accepted (s.reached t) q Od.faultQuerySource v →
    let e := s.reached t
    let r := e.frec v.toNat
    Completes (.faultQuery t q v) s fun d =>
      (∀ p ∈ [(Od.faultQuerySource, v.toNat), (Od.fqState, if r.active then 1 else 0), (Od.fqLevel, r.level),
        (Od.fqClass, sourceClass v.toNat), (Od.fqCount, r.count), (Od.fqConseqCount, r.conseq), (Od.fqFirstTime, r.first),
        (Od.fqLastTime, r.last), (Od.fqFirstDetail, r.firstDetail), (Od.fqLastDetail, r.lastDetail),
        (Od.fqRecoveries, r.recoveries), (Od.fqLastRecovery, r.lastRecovery)], d.mine q p.1 = (p.2 : Nat)) ∧
      d.frec v.toNat = { r with unread := false } ∧ (∀ n, n ≠ v.toNat → d.frec n = e.frec n) ∧
      OnlyChanges e d [] [.acc, .flt]) ∧
  (∀ (t src : Nat) (q : Req) (v : Int) (s : State), src < 256 → Accepted (s.reached t) q (Od.sourceConfig src) v →
    let e := s.reached t
    Completes (.sourceConfigWrite t q src v) s fun d =>
      d.num (Od.sourceConfig src) = v ∧
      (v.toNat.testBit Bit.sourceConfig_Enable = true → OnlyChanges e d [Od.sourceConfig src] []) ∧
      (v.toNat.testBit Bit.sourceConfig_Enable = false → (d.frec src).active = false ∧
        ((e.frec src).active = true → (d.frec src).level = 0 ∧ d.bit Od.faultActive (sourceBit src) = false) ∧
        (d.frec src).count = (e.frec src).count ∧ (∀ n, n ≠ src → d.frec n = e.frec n) ∧
        OnlyChanges e d [Od.sourceConfig src, Od.faultActive, Od.girthLevel, Od.sourcesActive, Od.aliveState, Od.collectorSticky]
          [.flt]))

/-- ALIVE_TOGGLE changes the level every 500 µs while AliveState is TOGGLING and else nothing. COLLECTOR_WATCHDOG is counted and,
with no reaction armed, reported as source 219. CORE_WATCHDOG_EXPIRY of a running core reports it and starts the next period;
SRV_STALL after 64 ms without an update raises source 3. CORE_RUNNING makes the core RUNNING and starts its watchdog. PMC_WRAP
zeroes an enabled counter and sets its overflow bit; PMC_CONFIG_WRITE, accepted, puts its value and zeroes the counter and its
overflow bit; PMC_CLEAR does so for each bit written 1 and leaves the other counters. -/
def Obligations.WatchdogsAndCounters : Prop :=
  (∀ (t : Nat) (s : State),
    let e := s.reached t
    if e.nat Od.aliveState = 1 ∧ 312500 ≤ e.tick - e.flt.aliveFrom then
      Completes (.aliveToggle t) s fun d =>
        d.flt = { e.flt with alive := !e.flt.alive, aliveFrom := e.tick } ∧ OnlyChanges e d [] [.flt]
    else Idles (.aliveToggle t) s t) ∧
  (∀ (t : Nat) (s : State),
    let e := s.reached t
    Completes (.collectorWatchdog t) s fun d =>
      e.arms = 0 → e.flt.windows = [] → e.nat Od.faultLogNext < 256 →
      d.nat Od.collectorRestarts = (e.nat Od.collectorRestarts + 1) % 2 ^ 32 ∧
      d.bit Od.collectorSticky Bit.collectorSticky_CollectorRestarted = true ∧ d.flt.stopped = false ∧
      (d.frec 219).count = ((e.frec 219).count + 1) % 4294967296 ∧ (∀ n, n ≠ 219 → d.frec n = e.frec n) ∧
      OnlyChanges e d [Od.collectorRestarts, Od.collectorSticky, Od.aliveState, Od.faultActive, Od.faultSticky,
        Od.faultUnacked, Od.girthLevel, Od.sourcesActive, Od.faultLogNext, Od.faultLogEntry (e.nat Od.faultLogNext),
        Od.faultLogEntry ((e.nat Od.faultLogNext + 255) % 256)] [.flt]) ∧
  (∀ (t c : Nat) (s : State), c < 4 →
    let e := s.reached t
    let period := e.nat (Od.coreWatchdogTime c)
    if period ≠ 0 ∧ e.nat (Od.coreState c) = 1 ∧
        (Tab.find? e.flt.wdog c).any (fun k => decide (period * ticksPerMs ≤ e.tick - k)) = true then
      Completes (.coreWatchdogExpiry t c) s fun d =>
        Tab.find? d.flt.wdog c = some e.tick ∧
        d.flt.queue = e.flt.queue ++ [{ src := 208 + c, detail := c, tick := e.tick, arms := e.arms }] ∧ OnlyChanges e d [] [.flt]
    else Idles (.coreWatchdogExpiry t c) s t) ∧
  (∀ (t : Nat) (s : State),
    let e := s.reached t
    let ms := (e.tick - e.flt.lastUpdate) / ticksPerMs
    if e.running 0 = true ∧ 64 ≤ ms ∧ e.isLive 3 = false then
      Completes (.srvStall t) s fun d =>
        d.isLive 3 = true ∧
        d.flt.queue = e.flt.queue ++ [{ src := 3, detail := ms % 4294967296, tick := e.tick, arms := e.arms }] ∧
        OnlyChanges e d [Od.faultLive] [.flt]
    else Idles (.srvStall t) s t) ∧
  (∀ (t c : Nat) (s : State), c < 4 →
    let e := s.reached t
    Completes (.coreRunning t c) s fun d =>
      d.nat (Od.coreState c) = 1 ∧ Tab.find? d.flt.wdog c = some e.tick ∧
      (e.updateRec = none ∨ e.update.core ≠ some c → OnlyChanges e d [Od.coreState c] [.flt])) ∧
  (∀ (t k : Nat) (s : State), k < 64 →
    let e := s.reached t
    if e.on (Od.pmcEnable k) = true then
      Completes (.pmcWrap t k) s fun d =>
        d.nat (Od.pmcValue k) = 0 ∧ d.bit (pmcWord k) (k % 32) = true ∧ OnlyChanges e d [Od.pmcValue k, pmcWord k] []
    else Idles (.pmcWrap t k) s t) ∧
  (∀ (t k which o : Nat) (q : Req) (v : Int) (s : State), k < 64 →
    o = (if which = 0 then Od.pmcEvent k else if which = 1 then Od.pmcMode k else Od.pmcThreshold k) →
    Accepted (s.reached t) q o v →
    let e := s.reached t
    Completes (.pmcConfigWrite t q k which v) s fun d =>
      d.num o = v ∧ d.nat (Od.pmcValue k) = 0 ∧ d.bit (pmcWord k) (k % 32) = false ∧
      Tab.get (fun _ => 0) d.pmc.at' k = e.tick ∧ OnlyChanges e d [o, Od.pmcValue k, pmcWord k] [.pmc]) ∧
  (∀ (t base : Nat) (hi : Bool) (q : Req) (v : Int) (s : State), base = (if hi then 32 else 0) →
    Accepted (s.reached t) q (if hi then Od.pmcClearHi else Od.pmcClearLo) v →
    let e := s.reached t
    Completes (.pmcClear t q hi v) s fun d =>
      (∀ i, i < 32 → if v.toNat.testBit i = true then d.nat (Od.pmcValue (base + i)) = 0 ∧
        d.bit (if hi then Od.pmcOverflowHi else Od.pmcOverflowLo) i = false
      else d.num (Od.pmcValue (base + i)) = e.num (Od.pmcValue (base + i))) ∧
      OnlyChanges e d ((List.range 32).map (fun i => Od.pmcValue (base + i)) ++
        [if hi then Od.pmcOverflowHi else Od.pmcOverflowLo]) [.pmc])

/-- POWER_REQUEST_RUN, _TRIM, _QUIET, _KEEP and _OFF, accepted. While a change is on its way the request waits as PowerQueued; of
the present state it is done; in KEEP it starts the wake or the way to OFF; in a mode that does not allow it, where a block
refuses, or where the blocks need longer than PowerDelayMax, it is refused and nothing of the state changes; where they need
less it waits; else the entry starts. POWER_DELAY_ELAPSED asks those that delayed again and does the same. QUIET_ENTRY_COMPLETE
with the lanes quiet, KEEP_ENTRY_COMPLETE and POWER_GATING_DONE give PowerState its value; in OFF every time scale is stopped.
With no such entry on its way they change nothing. -/
def Obligations.PowerChanges : Prop :=
  (∀ (t r : Nat) (q : Req) (l : List (Nat × Nat)) (s : State), r < 5 → Accepted (s.reached t) q Od.powerRequest r →
    let e := s.reached t
    let delay := maxDelay (e.ownDelays ++ l)
    let until' := e.tick + e.nat Od.powerDelayMax * ticksPerMs
    let P : Dev → Prop := fun d =>
      (e.power.change ≠ .none →
        d.nat Od.powerQueued = r ∧ d.nat Od.powerRequestResult = 1 ∧
        (e.nat Od.powerQueued ≠ 0xFF → d.nat Od.powerSuperseded = (e.nat Od.powerSuperseded + 1) % 2 ^ 32 ∧
          d.bit Od.powerSticky Bit.powerSticky_Superseded = true) ∧
        OnlyChanges e d [Od.powerQueued, Od.powerRequestResult, Od.powerSuperseded, Od.powerSticky] []) ∧
      (e.power.change = .none → e.nat Od.powerQueued = 0xFF →
        (e.nat Od.powerState = r → d.nat Od.powerRequestResult = 0 ∧ OnlyChanges e d [Od.powerRequestResult] []) ∧
        (e.nat Od.powerState = 3 → r < 3 →
          d.power = { e.power with change := .waking r e.tick } ∧ d.nat Od.lastWakeCause = 1 ∧ d.nat Od.powerRequestResult = 2 ∧
          OnlyChanges e d [Od.lastWakeCause, Od.powerRequestResult] [.power]) ∧
        (e.nat Od.powerState = 3 → r = 4 →
          d.power = { e.power with change := .entering 4 } ∧ d.nat Od.powerRequestResult = 2 ∧
          OnlyChanges e d [Od.powerRequestResult] [.power]) ∧
        (e.nat Od.powerState < 3 → e.nat Od.powerState ≠ r →
          (e.powerAllowed r = false → d.nat Od.powerRequestResult = 3 ∧
            d.bit Od.powerSticky Bit.powerSticky_RequestRefused = true ∧
            OnlyChanges e d [Od.powerRequestResult, Od.powerSticky] []) ∧
          (e.powerAllowed r = true → ∀ b, e.powerRefuser r = some b →
            d.nat Od.powerRequestResult = 4 ∧ d.nat Od.powerLastRefuser = b ∧
            OnlyChanges e d [Od.powerRequestResult, Od.powerLastRefuser, Od.powerSticky] []) ∧
          (e.powerAllowed r = true → e.powerRefuser r = none →
            (delay.2 = 0 →
              d.power.change = .entering r ∧ d.nat Od.powerRequestResult = 2 ∧ d.nat Od.powerState = e.nat Od.powerState ∧
              (r < 2 → OnlyChanges e d [Od.powerRequestResult] [.power]) ∧ (r = 4 → d.acc.sessions = []) ∧
              (r = 3 → e.md = Mode.locked → e.cycleTaken = false → e.mode.queue = [] →
                d.md = Mode.holdover ∧ d.nat Od.lastModeCause = 7)) ∧
            (0 < delay.2 → delay.2 ≤ e.nat Od.powerDelayMax →
              d.power = { e.power with
                change := .waiting r (e.tick + delay.2 * ticksPerMs) until' ((e.ownDelays ++ l).map (·.1)) } ∧
              d.nat Od.powerRequestResult = 2 ∧ OnlyChanges e d [Od.powerRequestResult] [.power]) ∧
            (e.nat Od.powerDelayMax < delay.2 →
              d.nat Od.powerRequestResult = 5 ∧ d.nat Od.powerLastRefuser = delay.1 ∧
              OnlyChanges e d [Od.powerRequestResult, Od.powerLastRefuser, Od.powerSticky] []))))
    (r = 0 → l = [] → Completes (.powerRequestRun t q) s P) ∧ (r = 1 → l = [] → Completes (.powerRequestTrim t q) s P) ∧
    (r = 2 → Completes (.powerRequestQuiet t q l) s P) ∧ (r = 3 → Completes (.powerRequestKeep t q l) s P) ∧
    (r = 4 → Completes (.powerRequestOff t q l) s P)) ∧
  (∀ (t : Nat) (answers : List (Nat × Nat)) (s : State),
    let e := s.reached t
    match e.power.change with
    | .waiting r k until' blocks =>
      let asked := answers.filter fun a => blocks.contains a.1
      let delay := maxDelay asked
      if k ≤ e.tick then
        Completes (.powerDelayElapsed t answers) s fun d => e.nat Od.powerQueued = 0xFF →
          (delay.2 = 0 → e.powerAllowed r = true →
            d.power.change = .entering r ∧ d.nat Od.powerState = e.nat Od.powerState ∧ (r < 2 → OnlyChanges e d [] [.power])) ∧
          (delay.2 = 0 → e.powerAllowed r = false → d.power = { e.power with change := .none } ∧ d.nat Od.powerRequestResult = 3 ∧
            OnlyChanges e d [Od.powerRequestResult, Od.powerSticky] [.power]) ∧
          (0 < delay.2 → e.tick + delay.2 * ticksPerMs ≤ until' →
            d.power = { e.power with change := .waiting r (e.tick + delay.2 * ticksPerMs) until' (asked.map (·.1)) } ∧
            OnlyChanges e d [] [.power]) ∧
          (0 < delay.2 → until' < e.tick + delay.2 * ticksPerMs →
            d.power = { e.power with change := .none } ∧ d.nat Od.powerRequestResult = 5 ∧ d.nat Od.powerLastRefuser = delay.1 ∧
            OnlyChanges e d [Od.powerRequestResult, Od.powerLastRefuser, Od.powerSticky] [.power])
      else Idles (.powerDelayElapsed t answers) s t
    | _ => Idles (.powerDelayElapsed t answers) s t) ∧
  (∀ (t : Nat) (s : State),
    let e := s.reached t
    if e.power.change = .entering 2 ∧ e.lanesQuiet = true then
      Completes (.quietEntryComplete t) s fun d => e.nat Od.powerQueued = 0xFF →
        d.nat Od.powerState = 2 ∧ d.nat Od.powerSince = e.now0 ∧ d.nat Od.powerRequestResult = 0 ∧
        d.power = { e.power with change := .none } ∧ d.bit Od.powerSticky Bit.powerSticky_StateChanged = true ∧
        OnlyChanges e d [Od.powerState, Od.powerSince, Od.powerSticky, Od.powerRequestResult, Od.serviceState,
          Od.serviceSticky] [.power]
    else Idles (.quietEntryComplete t) s t) ∧
  (∀ (t : Nat) (s : State),
    let e := s.reached t
    if e.power.change = .entering 3 then
      Completes (.keepEntryComplete t) s fun d => e.nat Od.powerQueued = 0xFF →
        d.nat Od.powerState = 3 ∧ d.power.change = .none ∧ d.nat Od.keepCount = (e.nat Od.keepCount + 1) % 2 ^ 32 ∧
        d.nat Od.powerRequestResult = 0 ∧ (∀ c < 4, e.nat (Od.coreState c) = 1 → d.nat (Od.coreState c) = 2)
    else Idles (.keepEntryComplete t) s t) ∧
  (∀ (t : Nat) (s : State),
    let e := s.reached t
    match e.power.change with
    | .entering r =>
      if r = 2 ∨ r = 3 then Idles (.powerGatingDone t) s t
      else Completes (.powerGatingDone t) s fun d => e.nat Od.powerQueued = 0xFF →
        d.nat Od.powerState = r ∧ d.power.change = .none ∧ d.nat Od.powerRequestResult = 0 ∧
        (r = 4 → d.cntZero = none ∧ ∀ n < 8, d.running n = false)
    | _ => Idles (.powerGatingDone t) s t)

/-- WAKE_TIMER in KEEP once TS_0 has reached WakeAt, with its source enabled, starts the wake to WakeTarget; else it changes nothing.
WAKE_COMPLETE of a wake gives PowerState its target, shows in RetentionLost exactly the retained banks whose check failed, and
restarts the cores whose banks were lost, the others going on; WAKE_FAILED after WakeSupplyWait leaves KEEP as it is and shows
the failure. DRAM_SCRUB and SRAM_SCRUB run once per interval and count and report what they find; ECC_ERROR is counted and reported
by kind. -/
def Obligations.WakesAndMemoryErrors : Prop :=
  (∀ (t : Nat) (s : State),
    let e := s.reached t
    if e.nat Od.powerState = 3 ∧ e.nat Od.wakeAt ≠ 0 ∧ e.bit Od.wakeSources 1 = true ∧ e.running 0 = true ∧
        tsTime (e.nat Od.wakeAt) ≤ e.tsNow 0 ∧ e.power.change = .none then
      Completes (.wakeTimer t) s fun d =>
        d.power = { e.power with change := .waking (e.nat Od.wakeTarget) e.tick } ∧ d.nat Od.lastWakeCause = 3 ∧
        OnlyChanges e d [Od.lastWakeCause] [.power]
    else Idles (.wakeTimer t) s t) ∧
  (∀ (t failed : Nat) (image : List Ent) (s : State),
    let e := s.reached t
    match e.power.change with
    | .waking target _ =>
      Completes (.wakeComplete t failed image) s fun d => image = [] → NothingDue e → e.nat Od.powerQueued = 0xFF →
        d.nat Od.powerState = target ∧ d.power.change = .none ∧ d.nat Od.powerRequestResult = 0 ∧
        (∀ i, i < 32 → d.bit Od.retentionLost i = ((e.nat Od.retainMask).testBit i && failed.testBit i)) ∧
        ∀ c < 4, d.nat (Od.coreState c) =
          if (e.nat Od.retainMask).testBit (2 * c) && (e.nat Od.retainMask).testBit (2 * c + 1) && !failed.testBit (2 * c) &&
            !failed.testBit (2 * c + 1) then 1 else 3
    | _ => NothingDue e → Idles (.wakeComplete t failed image) s t) ∧
  (∀ (t : Nat) (s : State),
    let e := s.reached t
    match e.power.change with
    | .waking _ k =>
      if e.nat Od.wakeSupplyWait * ticksPerMs ≤ e.tick - k then
        Completes (.wakeFailed t) s fun d =>
          d.nat Od.powerRequestResult = 6 ∧ d.bit Od.powerSticky Bit.powerSticky_WakeFailed = true ∧
          d.power = { e.power with change := .none } ∧ OnlyChanges e d [Od.powerRequestResult, Od.powerSticky] [.power]
      else Idles (.wakeFailed t) s t
    | _ => Idles (.wakeFailed t) s t) ∧
  (∀ (t : Nat) (found : List (Bool × Nat)) (s : State),
    let e := s.reached t
    let fixed := found.countP (·.1)
    let lost := found.countP (!·.1)
    if e.nat Od.dramScrubInterval * 3600 * ticksPerSec ≤ e.tick - e.power.dramScrubAt then
      Completes (.dramScrub t found) s fun d =>
        (fixed ≠ 0 → d.nat Od.dramEccCorrected = (e.nat Od.dramEccCorrected + fixed) % 2 ^ 32) ∧
        (lost ≠ 0 → d.nat Od.dramEccUncorrected = (e.nat Od.dramEccUncorrected + lost) % 2 ^ 32) ∧
        (∀ x ∈ found, ∃ r ∈ d.flt.queue, r.src = (if x.1 then 212 else 213) ∧ r.detail = x.2 % 4294967296 ∧ r.tick = e.tick) ∧
        d.power = { e.power with dramScrubAt := e.tick } ∧
        OnlyChanges e d [Od.dramEccCorrected, Od.dramEccUncorrected] [.power, .flt]
    else Idles (.dramScrub t found) s t) ∧
  (∀ (t : Nat) (found : List (Bool × Nat)) (s : State),
    let e := s.reached t
    let fixed := found.countP (·.1)
    let lost := found.countP (!·.1)
    if 3600 * ticksPerSec ≤ e.tick - e.power.sramScrubAt then
      Completes (.sramScrub t found) s fun d =>
        (fixed ≠ 0 → d.nat Od.sramEccCorrected = (e.nat Od.sramEccCorrected + fixed) % 2 ^ 32) ∧
        (lost ≠ 0 → d.nat Od.sramEccUncorrected = (e.nat Od.sramEccUncorrected + lost) % 2 ^ 32) ∧
        (∀ x ∈ found, ∃ r ∈ d.flt.queue, r.src = (if x.1 then 214 else 215) ∧ r.detail = x.2 % 4294967296 ∧ r.tick = e.tick) ∧
        d.power = { e.power with sramScrubAt := e.tick } ∧
        OnlyChanges e d [Od.sramEccCorrected, Od.sramEccUncorrected] [.power, .flt]
    else Idles (.sramScrub t found) s t) ∧
  (∀ (t unit o src : Nat) (dram corrected : Bool) (s : State),
    (o, src) = (if dram then if corrected then (Od.dramEccCorrected, 212) else (Od.dramEccUncorrected, 213)
      else if corrected then (Od.sramEccCorrected, 214) else (Od.sramEccUncorrected, 215)) →
    let e := s.reached t
    Completes (.eccError t dram corrected unit) s fun d =>
      d.nat o = (e.nat o + 1) % 2 ^ 32 ∧
      d.flt.queue = e.flt.queue ++ [{ src, detail := unit % 4294967296, tick := e.tick, arms := e.arms }] ∧
      OnlyChanges e d [o] [.flt])

/-- UPDATE_BEGIN, accepted, opens an empty staging buffer of a Kind; UPDATE_CHUNK puts its octets at its offset and counts those
that are new. UPDATE_APPLY opens an UPDATE record: a container that fails its checks ends it with the check's UpdateError, a good
one has its first step done. UPDATE_B_WRITTEN of a good writing makes slot B the newest and valid, of a bad one ends the update;
UPDATE_A_WRITTEN likewise for slot A, where NoActivate completes it. UPDATE_ACTIVATION at ActivateAt takes step 5: a lane table
is done at once, a firmware restarts its core under the new version, and CORE_RUNNING of that core completes the update; a
microcode drains the pipelines one after another, and PIPELINE_RETURNED_ACTIVE of the last completes it. What is not through
step 4 at ActivateAt, of Kinds 3 and 4, has failed. With no update at that step they change nothing. -/
def Obligations.UpdatesAreApplied : Prop :=
  (∀ (t : Nat) (q : Req) (v : Int) (s : State), Accepted (s.reached t) q Od.updateBegin v →
    let e := s.reached t
    Completes (.updateBegin t q v) s fun d =>
      d.update = { kind := beginKind v.toNat, total := beginTotal v.toNat, micro := e.update.micro } ∧ d.nat Od.updateState = 1 ∧
      d.nat Od.updateReceived = 0 ∧ d.nat Od.updateError = 0 ∧
      OnlyChanges e d [Od.updateState, Od.updateReceived, Od.updateError] [.update]) ∧
  (∀ (t : Nat) (q : Req) (v : Int) (s : State), Accepted (s.reached t) q Od.updateChunk v →
    let e := s.reached t
    let l := chunkLength v.toNat
    let o := chunkOffset v.toNat
    Completes (.updateChunk t q v) s fun d =>
      (∀ i, i < l → stagedAt d.update.data (o + i) = (beBytes l (octets 1024 v.toNat 8 l))[i]?) ∧
      (∀ i, (i < o ∨ o + l ≤ i) → stagedAt d.update.data i = stagedAt e.update.data i) ∧
      d.nat Od.updateReceived =
        e.nat Od.updateReceived + (List.range l).countP (fun i => (stagedAt e.update.data (o + i)).isNone) ∧
      d.update = { e.update with data := d.update.data } ∧ OnlyChanges e d [Od.updateReceived] [.update]) ∧
  (∀ (t : Nat) (q : Req) (v : Int) (s : State), Accepted (s.reached t) q Od.updateApply v →
    let e := s.reached t
    let id := e.nat Od.journalNextOpId
    let kind := e.update.kind
    let bs := (List.range e.update.total).map fun i => (stagedAt e.update.data i).getD 0
    let b := boxOf bs
    Completes (.updateApply t q v) s fun d =>
      d.nat Od.updateOpId = id ∧ d.nat Od.journalNextOpId = (id + 1) % 2 ^ 32 ∧
      (∃ r ∈ d.acc.journal, r.id = id ∧ r.kind = 2 ∧ r.detail = kind ∧ r.outcome = (if d.nat Od.updateState = 4 then 3 else 0) ∧
        r.done = (if d.nat Od.updateState = 4 then 0 else 1)) ∧
      (if octetsOf bs 36 4 + 288 ≠ bs.length then d.nat Od.updateState = 4 ∧ d.nat Od.updateError = 1
      else if b.kind ≠ kind ∨ b.signerClass ≠ signerOf kind then d.nat Od.updateState = 4 ∧ d.nat Od.updateError = 4
      else if b.formatOk = false ∨ e.signerOk b = false ∨ b.digestOk = false then
        d.nat Od.updateState = 4 ∧ d.nat Od.updateError = 2
      else if b.security < e.nat (Od.securityFloor kind) then d.nat Od.updateState = 4 ∧ d.nat Od.updateError = 3
      else d.nat Od.updateState = 2 ∧ d.nat Od.updateError = 0 ∧ d.update.version = b.version ∧
        d.update.at' = tsTime (applyAt v.toNat)) ∧
      OnlyChanges e d [Od.updateOpId, Od.updateState, Od.updateError, Od.journalNextOpId, Od.journalCount, Od.journalLastOpId,
        Od.journalOldestOpId] [.acc, .update]) ∧
  (∀ (t : Nat) (writeOk validOk : Bool) (s : State),
    let e := s.reached t
    let next := (max (e.nat Od.slotASeq) (e.nat Od.slotBSeq) + 1) % 4294967296
    match e.updateRec with
    | none => Idles (.updateBWritten t writeOk validOk) s t
    | some r =>
      (r.done ≠ 1 → r.done ≠ 2 → Idles (.updateBWritten t writeOk validOk) s t) ∧
      (r.done = 1 ∨ r.done = 2 → Completes (.updateBWritten t writeOk validOk) s fun d =>
        (r.done = 1 → writeOk = false →
          d.nat Od.updateState = 4 ∧ d.nat Od.updateError = 5 ∧ (∀ x ∈ d.acc.journal, x.id = r.id → x.outcome = 3) ∧
          d.num Od.slotBSeq = e.num Od.slotBSeq ∧ d.num Od.slotBValid = e.num Od.slotBValid) ∧
        (r.done = 2 ∨ writeOk = true →
          d.nat Od.slotBSeq = (if r.done = 1 then next else e.nat Od.slotBSeq) ∧ d.on Od.slotBValid = validOk ∧
          (validOk = false →
            d.nat Od.updateState = 4 ∧ d.nat Od.updateError = 5 ∧ ∀ x ∈ d.acc.journal, x.id = r.id → x.outcome = 3) ∧
          (validOk = true → (∀ x ∈ d.acc.journal, x.id = r.id → x.done = 3) ∧
            (e.updateLate = true → d.nat Od.updateState = 4 ∧ d.nat Od.updateError = 6) ∧
            (e.updateLate = false → OnlyChanges e d [Od.slotBSeq, Od.slotBValid, Od.journalCount, Od.journalLastOpId,
              Od.journalOldestOpId] [.acc]))))) ∧
  (∀ (t : Nat) (ok : Bool) (s : State),
    let e := s.reached t
    match e.updateRec with
    | none => Idles (.updateAWritten t ok) s t
    | some r =>
      (r.done ≠ 3 → Idles (.updateAWritten t ok) s t) ∧
      (r.done = 3 → Completes (.updateAWritten t ok) s fun d =>
        d.on Od.slotAValid = ok ∧
        (ok = false → d.nat Od.updateState = 4 ∧ d.nat Od.updateError = 5 ∧ ∀ x ∈ d.acc.journal, x.id = r.id → x.outcome = 3) ∧
        (ok = true →
          d.nat Od.slotASeq = (max (e.nat Od.slotASeq) (e.nat Od.slotBSeq) + 1) % 4294967296 ∧
          (e.update.noActivate = true → d.nat Od.updateState = 3 ∧
            ∀ x ∈ d.acc.journal, x.id = r.id → x.done = 4 ∧ x.outcome = 2) ∧
          (e.update.noActivate = false → e.update.booted = true → d.nat Od.updateState = 3 ∧
            ∀ x ∈ d.acc.journal, x.id = r.id → x.done = 5 ∧ x.outcome = 2) ∧
          (e.update.noActivate = false → e.update.booted = false → e.updateLate = true →
            d.nat Od.updateState = 4 ∧ d.nat Od.updateError = 6) ∧
          (e.update.noActivate = false → e.update.booted = false → e.updateLate = false →
            (∀ x ∈ d.acc.journal, x.id = r.id → x.done = 4) ∧
            OnlyChanges e d [Od.slotASeq, Od.slotAValid, Od.journalCount, Od.journalLastOpId, Od.journalOldestOpId] [.acc])))) ∧
  (∀ (t : Nat) (s : State),
    let e := s.reached t
    let failed (r : JRec) (d : Dev) : Prop :=
      d.nat Od.updateState = 4 ∧ d.nat Od.updateError = 6 ∧ ∀ x ∈ d.acc.journal, x.id = r.id → x.outcome = 3
    match e.updateRec with
    | none => Idles (.updateActivation t) s t
    | some r =>
      if e.update.at' ≠ 0 ∧ e.tsNow 0 < e.update.at' then Idles (.updateActivation t) s t
      else if r.done < 4 then
        if e.updateLate then Completes (.updateActivation t) s (failed r) else Idles (.updateActivation t) s t
      else if r.done ≠ 4 ∨ e.update.core.isSome ∨ e.update.pipe.isSome then Idles (.updateActivation t) s t
      else
        (e.update.kind = 5 → Completes (.updateActivation t) s fun d =>
          d.nat Od.updateState = 3 ∧ ∀ x ∈ d.acc.journal, x.id = r.id → x.done = 5 ∧ x.outcome = 2) ∧
        (e.update.kind = 4 → (∃ i < 4, e.nat (Od.pipeState i) ≠ 0) → Completes (.updateActivation t) s (failed r)) ∧
        (e.update.kind = 4 → (∀ i < 4, e.nat (Od.pipeState i) = 0) → Completes (.updateActivation t) s fun d =>
          d.update = { e.update with pipe := some 0 } ∧ d.nat (Od.pipeState 0) = 1 ∧
          OnlyChanges e d [Od.pipeState 0] [.svc, .update]) ∧
        (e.update.kind = 3 → (∃ h ∈ e.pair.handlers, h.returned = false) → Idles (.updateActivation t) s t) ∧
        (∀ c, e.update.kind = c → c < 3 ∨ (c = 3 ∧ ∀ h ∈ e.pair.handlers, h.returned = true) →
          Completes (.updateActivation t) s fun d =>
            d.nat (Od.coreState c) = 3 ∧ d.num (Od.firmwareVersionM0 + c) = e.update.version ∧
            d.update = { e.update with core := some c } ∧
            d.nat (Od.coreRestarts c) = (e.nat (Od.coreRestarts c) + 1) % 2 ^ 32 ∧
            Tab.find? d.flt.wdog c = none)) ∧
  (∀ (t c : Nat) (r : JRec) (s : State), c < 4 → (s.reached t).updateRec = some r → (s.reached t).update.core = some c →
    Completes (.coreRunning t c) s fun d =>
      d.nat (Od.coreState c) = 1 ∧ d.nat Od.updateState = 3 ∧ d.update.core = none ∧
      ∀ x ∈ d.acc.journal, x.id = r.id → x.done = 5 ∧ x.outcome = 2) ∧
  (∀ (t i : Nat) (r : JRec) (s : State), i < 4 → (s.reached t).updateRec = some r → (s.reached t).update.pipe = some i →
    let e := s.reached t
    Completes (.pipelineReturnedActive t i) s fun d =>
      d.nat (Od.pipeState i) = 0 ∧
      (i < 3 → d.update = { e.update with pipe := some (i + 1) } ∧ d.nat (Od.pipeState (i + 1)) = 1 ∧
        OnlyChanges e d [Od.pipeState i, Od.pipeState (i + 1)] [.svc, .update]) ∧
      (i = 3 → d.nat Od.updateState = 3 ∧ d.update.micro = e.update.version ∧ d.update.pipe = none ∧
        ∀ x ∈ d.acc.journal, x.id = r.id → x.done = 5 ∧ x.outcome = 2))
end

