-- ==== Sys2Proof/Laws/State.lean ====
section
/-! SUPPORT. For each update of a part of the device, the fields it leaves as they are. -/

namespace Sys2Proof.Machine

@[simp] theorem Dev.put_tick (s : Dev) (k : Nat) (v : Int) : (s.put k v).tick = s.tick := rfl
@[simp] theorem Dev.put_cntZero (s : Dev) (k : Nat) (v : Int) : (s.put k v).cntZero = s.cntZero := rfl
@[simp] theorem Dev.put_aonTs0 (s : Dev) (k : Nat) (v : Int) : (s.put k v).aonTs0 = s.aonTs0 := rfl
@[simp] theorem Dev.put_aonFrom (s : Dev) (k : Nat) (v : Int) : (s.put k v).aonFrom = s.aonFrom := rfl
@[simp] theorem Dev.put_scales (s : Dev) (k : Nat) (v : Int) : (s.put k v).scales = s.scales := rfl
@[simp] theorem Dev.put_mode (s : Dev) (k : Nat) (v : Int) : (s.put k v).mode = s.mode := rfl
@[simp] theorem Dev.put_acc (s : Dev) (k : Nat) (v : Int) : (s.put k v).acc = s.acc := rfl
@[simp] theorem Dev.put_flt (s : Dev) (k : Nat) (v : Int) : (s.put k v).flt = s.flt := rfl
@[simp] theorem Dev.put_pmc (s : Dev) (k : Nat) (v : Int) : (s.put k v).pmc = s.pmc := rfl
@[simp] theorem Dev.put_tugs (s : Dev) (k : Nat) (v : Int) : (s.put k v).tugs = s.tugs := rfl
@[simp] theorem Dev.put_lanes (s : Dev) (k : Nat) (v : Int) : (s.put k v).lanes = s.lanes := rfl
@[simp] theorem Dev.put_ports (s : Dev) (k : Nat) (v : Int) : (s.put k v).ports = s.ports := rfl
@[simp] theorem Dev.put_sel (s : Dev) (k : Nat) (v : Int) : (s.put k v).sel = s.sel := rfl
@[simp] theorem Dev.put_awl (s : Dev) (k : Nat) (v : Int) : (s.put k v).awl = s.awl := rfl
@[simp] theorem Dev.put_gnss (s : Dev) (k : Nat) (v : Int) : (s.put k v).gnss = s.gnss := rfl
@[simp] theorem Dev.put_keep (s : Dev) (k : Nat) (v : Int) : (s.put k v).keep = s.keep := rfl
@[simp] theorem Dev.put_ebe (s : Dev) (k : Nat) (v : Int) : (s.put k v).ebe = s.ebe := rfl
@[simp] theorem Dev.put_keys (s : Dev) (k : Nat) (v : Int) : (s.put k v).keys = s.keys := rfl
@[simp] theorem Dev.put_pair (s : Dev) (k : Nat) (v : Int) : (s.put k v).pair = s.pair := rfl
@[simp] theorem Dev.put_power (s : Dev) (k : Nat) (v : Int) : (s.put k v).power = s.power := rfl
@[simp] theorem Dev.put_update (s : Dev) (k : Nat) (v : Int) : (s.put k v).update = s.update := rfl
@[simp] theorem Dev.put_ageing (s : Dev) (k : Nat) (v : Int) : (s.put k v).ageing = s.ageing := rfl
@[simp] theorem Dev.put_svc (s : Dev) (k : Nat) (v : Int) : (s.put k v).svc = s.svc := rfl
@[simp] theorem Dev.put_free (s : Dev) (k : Nat) (v : Int) : (s.put k v).free = s.free := rfl
@[simp] theorem Dev.put_out (s : Dev) (k : Nat) (v : Int) : (s.put k v).out = s.out := rfl
@[simp] theorem Dev.put_watch (s : Dev) (k : Nat) (v : Int) : (s.put k v).watch = s.watch := rfl

@[simp] theorem Dev.putB_tick (s : Dev) (k : Nat) (b : Bool) : (s.putB k b).tick = s.tick := rfl
@[simp] theorem Dev.putB_cntZero (s : Dev) (k : Nat) (b : Bool) : (s.putB k b).cntZero = s.cntZero := rfl
@[simp] theorem Dev.putB_aonTs0 (s : Dev) (k : Nat) (b : Bool) : (s.putB k b).aonTs0 = s.aonTs0 := rfl
@[simp] theorem Dev.putB_aonFrom (s : Dev) (k : Nat) (b : Bool) : (s.putB k b).aonFrom = s.aonFrom := rfl
@[simp] theorem Dev.putB_scales (s : Dev) (k : Nat) (b : Bool) : (s.putB k b).scales = s.scales := rfl
@[simp] theorem Dev.putB_mode (s : Dev) (k : Nat) (b : Bool) : (s.putB k b).mode = s.mode := rfl
@[simp] theorem Dev.putB_acc (s : Dev) (k : Nat) (b : Bool) : (s.putB k b).acc = s.acc := rfl
@[simp] theorem Dev.putB_flt (s : Dev) (k : Nat) (b : Bool) : (s.putB k b).flt = s.flt := rfl
@[simp] theorem Dev.putB_pmc (s : Dev) (k : Nat) (b : Bool) : (s.putB k b).pmc = s.pmc := rfl
@[simp] theorem Dev.putB_tugs (s : Dev) (k : Nat) (b : Bool) : (s.putB k b).tugs = s.tugs := rfl
@[simp] theorem Dev.putB_lanes (s : Dev) (k : Nat) (b : Bool) : (s.putB k b).lanes = s.lanes := rfl
@[simp] theorem Dev.putB_ports (s : Dev) (k : Nat) (b : Bool) : (s.putB k b).ports = s.ports := rfl
@[simp] theorem Dev.putB_sel (s : Dev) (k : Nat) (b : Bool) : (s.putB k b).sel = s.sel := rfl
@[simp] theorem Dev.putB_awl (s : Dev) (k : Nat) (b : Bool) : (s.putB k b).awl = s.awl := rfl
@[simp] theorem Dev.putB_gnss (s : Dev) (k : Nat) (b : Bool) : (s.putB k b).gnss = s.gnss := rfl
@[simp] theorem Dev.putB_keep (s : Dev) (k : Nat) (b : Bool) : (s.putB k b).keep = s.keep := rfl
@[simp] theorem Dev.putB_ebe (s : Dev) (k : Nat) (b : Bool) : (s.putB k b).ebe = s.ebe := rfl
@[simp] theorem Dev.putB_keys (s : Dev) (k : Nat) (b : Bool) : (s.putB k b).keys = s.keys := rfl
@[simp] theorem Dev.putB_pair (s : Dev) (k : Nat) (b : Bool) : (s.putB k b).pair = s.pair := rfl
@[simp] theorem Dev.putB_power (s : Dev) (k : Nat) (b : Bool) : (s.putB k b).power = s.power := rfl
@[simp] theorem Dev.putB_update (s : Dev) (k : Nat) (b : Bool) : (s.putB k b).update = s.update := rfl
@[simp] theorem Dev.putB_ageing (s : Dev) (k : Nat) (b : Bool) : (s.putB k b).ageing = s.ageing := rfl
@[simp] theorem Dev.putB_svc (s : Dev) (k : Nat) (b : Bool) : (s.putB k b).svc = s.svc := rfl
@[simp] theorem Dev.putB_free (s : Dev) (k : Nat) (b : Bool) : (s.putB k b).free = s.free := rfl
@[simp] theorem Dev.putB_out (s : Dev) (k : Nat) (b : Bool) : (s.putB k b).out = s.out := rfl
@[simp] theorem Dev.putB_watch (s : Dev) (k : Nat) (b : Bool) : (s.putB k b).watch = s.watch := rfl

@[simp] theorem Dev.flag_tick (s : Dev) (k i : Nat) : (s.flag k i).tick = s.tick := rfl
@[simp] theorem Dev.flag_cntZero (s : Dev) (k i : Nat) : (s.flag k i).cntZero = s.cntZero := rfl
@[simp] theorem Dev.flag_aonTs0 (s : Dev) (k i : Nat) : (s.flag k i).aonTs0 = s.aonTs0 := rfl
@[simp] theorem Dev.flag_aonFrom (s : Dev) (k i : Nat) : (s.flag k i).aonFrom = s.aonFrom := rfl
@[simp] theorem Dev.flag_scales (s : Dev) (k i : Nat) : (s.flag k i).scales = s.scales := rfl
@[simp] theorem Dev.flag_mode (s : Dev) (k i : Nat) : (s.flag k i).mode = s.mode := rfl
@[simp] theorem Dev.flag_acc (s : Dev) (k i : Nat) : (s.flag k i).acc = s.acc := rfl
@[simp] theorem Dev.flag_flt (s : Dev) (k i : Nat) : (s.flag k i).flt = s.flt := rfl
@[simp] theorem Dev.flag_pmc (s : Dev) (k i : Nat) : (s.flag k i).pmc = s.pmc := rfl
@[simp] theorem Dev.flag_tugs (s : Dev) (k i : Nat) : (s.flag k i).tugs = s.tugs := rfl
@[simp] theorem Dev.flag_lanes (s : Dev) (k i : Nat) : (s.flag k i).lanes = s.lanes := rfl
@[simp] theorem Dev.flag_ports (s : Dev) (k i : Nat) : (s.flag k i).ports = s.ports := rfl
@[simp] theorem Dev.flag_sel (s : Dev) (k i : Nat) : (s.flag k i).sel = s.sel := rfl
@[simp] theorem Dev.flag_awl (s : Dev) (k i : Nat) : (s.flag k i).awl = s.awl := rfl
@[simp] theorem Dev.flag_gnss (s : Dev) (k i : Nat) : (s.flag k i).gnss = s.gnss := rfl
@[simp] theorem Dev.flag_keep (s : Dev) (k i : Nat) : (s.flag k i).keep = s.keep := rfl
@[simp] theorem Dev.flag_ebe (s : Dev) (k i : Nat) : (s.flag k i).ebe = s.ebe := rfl
@[simp] theorem Dev.flag_keys (s : Dev) (k i : Nat) : (s.flag k i).keys = s.keys := rfl
@[simp] theorem Dev.flag_pair (s : Dev) (k i : Nat) : (s.flag k i).pair = s.pair := rfl
@[simp] theorem Dev.flag_power (s : Dev) (k i : Nat) : (s.flag k i).power = s.power := rfl
@[simp] theorem Dev.flag_update (s : Dev) (k i : Nat) : (s.flag k i).update = s.update := rfl
@[simp] theorem Dev.flag_ageing (s : Dev) (k i : Nat) : (s.flag k i).ageing = s.ageing := rfl
@[simp] theorem Dev.flag_svc (s : Dev) (k i : Nat) : (s.flag k i).svc = s.svc := rfl
@[simp] theorem Dev.flag_free (s : Dev) (k i : Nat) : (s.flag k i).free = s.free := rfl
@[simp] theorem Dev.flag_out (s : Dev) (k i : Nat) : (s.flag k i).out = s.out := rfl
@[simp] theorem Dev.flag_watch (s : Dev) (k i : Nat) : (s.flag k i).watch = s.watch := rfl

@[simp] theorem Dev.unflag_tick (s : Dev) (k i : Nat) : (s.unflag k i).tick = s.tick := rfl
@[simp] theorem Dev.unflag_cntZero (s : Dev) (k i : Nat) : (s.unflag k i).cntZero = s.cntZero := rfl
@[simp] theorem Dev.unflag_aonTs0 (s : Dev) (k i : Nat) : (s.unflag k i).aonTs0 = s.aonTs0 := rfl
@[simp] theorem Dev.unflag_aonFrom (s : Dev) (k i : Nat) : (s.unflag k i).aonFrom = s.aonFrom := rfl
@[simp] theorem Dev.unflag_scales (s : Dev) (k i : Nat) : (s.unflag k i).scales = s.scales := rfl
@[simp] theorem Dev.unflag_mode (s : Dev) (k i : Nat) : (s.unflag k i).mode = s.mode := rfl
@[simp] theorem Dev.unflag_acc (s : Dev) (k i : Nat) : (s.unflag k i).acc = s.acc := rfl
@[simp] theorem Dev.unflag_flt (s : Dev) (k i : Nat) : (s.unflag k i).flt = s.flt := rfl
@[simp] theorem Dev.unflag_pmc (s : Dev) (k i : Nat) : (s.unflag k i).pmc = s.pmc := rfl
@[simp] theorem Dev.unflag_tugs (s : Dev) (k i : Nat) : (s.unflag k i).tugs = s.tugs := rfl
@[simp] theorem Dev.unflag_lanes (s : Dev) (k i : Nat) : (s.unflag k i).lanes = s.lanes := rfl
@[simp] theorem Dev.unflag_ports (s : Dev) (k i : Nat) : (s.unflag k i).ports = s.ports := rfl
@[simp] theorem Dev.unflag_sel (s : Dev) (k i : Nat) : (s.unflag k i).sel = s.sel := rfl
@[simp] theorem Dev.unflag_awl (s : Dev) (k i : Nat) : (s.unflag k i).awl = s.awl := rfl
@[simp] theorem Dev.unflag_gnss (s : Dev) (k i : Nat) : (s.unflag k i).gnss = s.gnss := rfl
@[simp] theorem Dev.unflag_keep (s : Dev) (k i : Nat) : (s.unflag k i).keep = s.keep := rfl
@[simp] theorem Dev.unflag_ebe (s : Dev) (k i : Nat) : (s.unflag k i).ebe = s.ebe := rfl
@[simp] theorem Dev.unflag_keys (s : Dev) (k i : Nat) : (s.unflag k i).keys = s.keys := rfl
@[simp] theorem Dev.unflag_pair (s : Dev) (k i : Nat) : (s.unflag k i).pair = s.pair := rfl
@[simp] theorem Dev.unflag_power (s : Dev) (k i : Nat) : (s.unflag k i).power = s.power := rfl
@[simp] theorem Dev.unflag_update (s : Dev) (k i : Nat) : (s.unflag k i).update = s.update := rfl
@[simp] theorem Dev.unflag_ageing (s : Dev) (k i : Nat) : (s.unflag k i).ageing = s.ageing := rfl
@[simp] theorem Dev.unflag_svc (s : Dev) (k i : Nat) : (s.unflag k i).svc = s.svc := rfl
@[simp] theorem Dev.unflag_free (s : Dev) (k i : Nat) : (s.unflag k i).free = s.free := rfl
@[simp] theorem Dev.unflag_out (s : Dev) (k i : Nat) : (s.unflag k i).out = s.out := rfl
@[simp] theorem Dev.unflag_watch (s : Dev) (k i : Nat) : (s.unflag k i).watch = s.watch := rfl

@[simp] theorem Dev.putBit_tick (s : Dev) (k i : Nat) (b : Bool) : (s.putBit k i b).tick = s.tick := rfl
@[simp] theorem Dev.putBit_cntZero (s : Dev) (k i : Nat) (b : Bool) : (s.putBit k i b).cntZero = s.cntZero := rfl
@[simp] theorem Dev.putBit_aonTs0 (s : Dev) (k i : Nat) (b : Bool) : (s.putBit k i b).aonTs0 = s.aonTs0 := rfl
@[simp] theorem Dev.putBit_aonFrom (s : Dev) (k i : Nat) (b : Bool) : (s.putBit k i b).aonFrom = s.aonFrom := rfl
@[simp] theorem Dev.putBit_scales (s : Dev) (k i : Nat) (b : Bool) : (s.putBit k i b).scales = s.scales := rfl
@[simp] theorem Dev.putBit_mode (s : Dev) (k i : Nat) (b : Bool) : (s.putBit k i b).mode = s.mode := rfl
@[simp] theorem Dev.putBit_acc (s : Dev) (k i : Nat) (b : Bool) : (s.putBit k i b).acc = s.acc := rfl
@[simp] theorem Dev.putBit_flt (s : Dev) (k i : Nat) (b : Bool) : (s.putBit k i b).flt = s.flt := rfl
@[simp] theorem Dev.putBit_pmc (s : Dev) (k i : Nat) (b : Bool) : (s.putBit k i b).pmc = s.pmc := rfl
@[simp] theorem Dev.putBit_tugs (s : Dev) (k i : Nat) (b : Bool) : (s.putBit k i b).tugs = s.tugs := rfl
@[simp] theorem Dev.putBit_lanes (s : Dev) (k i : Nat) (b : Bool) : (s.putBit k i b).lanes = s.lanes := rfl
@[simp] theorem Dev.putBit_ports (s : Dev) (k i : Nat) (b : Bool) : (s.putBit k i b).ports = s.ports := rfl
@[simp] theorem Dev.putBit_sel (s : Dev) (k i : Nat) (b : Bool) : (s.putBit k i b).sel = s.sel := rfl
@[simp] theorem Dev.putBit_awl (s : Dev) (k i : Nat) (b : Bool) : (s.putBit k i b).awl = s.awl := rfl
@[simp] theorem Dev.putBit_gnss (s : Dev) (k i : Nat) (b : Bool) : (s.putBit k i b).gnss = s.gnss := rfl
@[simp] theorem Dev.putBit_keep (s : Dev) (k i : Nat) (b : Bool) : (s.putBit k i b).keep = s.keep := rfl
@[simp] theorem Dev.putBit_ebe (s : Dev) (k i : Nat) (b : Bool) : (s.putBit k i b).ebe = s.ebe := rfl
@[simp] theorem Dev.putBit_keys (s : Dev) (k i : Nat) (b : Bool) : (s.putBit k i b).keys = s.keys := rfl
@[simp] theorem Dev.putBit_pair (s : Dev) (k i : Nat) (b : Bool) : (s.putBit k i b).pair = s.pair := rfl
@[simp] theorem Dev.putBit_power (s : Dev) (k i : Nat) (b : Bool) : (s.putBit k i b).power = s.power := rfl
@[simp] theorem Dev.putBit_update (s : Dev) (k i : Nat) (b : Bool) : (s.putBit k i b).update = s.update := rfl
@[simp] theorem Dev.putBit_ageing (s : Dev) (k i : Nat) (b : Bool) : (s.putBit k i b).ageing = s.ageing := rfl
@[simp] theorem Dev.putBit_svc (s : Dev) (k i : Nat) (b : Bool) : (s.putBit k i b).svc = s.svc := rfl
@[simp] theorem Dev.putBit_free (s : Dev) (k i : Nat) (b : Bool) : (s.putBit k i b).free = s.free := rfl
@[simp] theorem Dev.putBit_out (s : Dev) (k i : Nat) (b : Bool) : (s.putBit k i b).out = s.out := rfl
@[simp] theorem Dev.putBit_watch (s : Dev) (k i : Nat) (b : Bool) : (s.putBit k i b).watch = s.watch := rfl

@[simp] theorem Dev.bumpBy_tick (s : Dev) (k n : Nat) : (s.bumpBy k n).tick = s.tick := rfl
@[simp] theorem Dev.bumpBy_cntZero (s : Dev) (k n : Nat) : (s.bumpBy k n).cntZero = s.cntZero := rfl
@[simp] theorem Dev.bumpBy_aonTs0 (s : Dev) (k n : Nat) : (s.bumpBy k n).aonTs0 = s.aonTs0 := rfl
@[simp] theorem Dev.bumpBy_aonFrom (s : Dev) (k n : Nat) : (s.bumpBy k n).aonFrom = s.aonFrom := rfl
@[simp] theorem Dev.bumpBy_scales (s : Dev) (k n : Nat) : (s.bumpBy k n).scales = s.scales := rfl
@[simp] theorem Dev.bumpBy_mode (s : Dev) (k n : Nat) : (s.bumpBy k n).mode = s.mode := rfl
@[simp] theorem Dev.bumpBy_acc (s : Dev) (k n : Nat) : (s.bumpBy k n).acc = s.acc := rfl
@[simp] theorem Dev.bumpBy_flt (s : Dev) (k n : Nat) : (s.bumpBy k n).flt = s.flt := rfl
@[simp] theorem Dev.bumpBy_pmc (s : Dev) (k n : Nat) : (s.bumpBy k n).pmc = s.pmc := rfl
@[simp] theorem Dev.bumpBy_tugs (s : Dev) (k n : Nat) : (s.bumpBy k n).tugs = s.tugs := rfl
@[simp] theorem Dev.bumpBy_lanes (s : Dev) (k n : Nat) : (s.bumpBy k n).lanes = s.lanes := rfl
@[simp] theorem Dev.bumpBy_ports (s : Dev) (k n : Nat) : (s.bumpBy k n).ports = s.ports := rfl
@[simp] theorem Dev.bumpBy_sel (s : Dev) (k n : Nat) : (s.bumpBy k n).sel = s.sel := rfl
@[simp] theorem Dev.bumpBy_awl (s : Dev) (k n : Nat) : (s.bumpBy k n).awl = s.awl := rfl
@[simp] theorem Dev.bumpBy_gnss (s : Dev) (k n : Nat) : (s.bumpBy k n).gnss = s.gnss := rfl
@[simp] theorem Dev.bumpBy_keep (s : Dev) (k n : Nat) : (s.bumpBy k n).keep = s.keep := rfl
@[simp] theorem Dev.bumpBy_ebe (s : Dev) (k n : Nat) : (s.bumpBy k n).ebe = s.ebe := rfl
@[simp] theorem Dev.bumpBy_keys (s : Dev) (k n : Nat) : (s.bumpBy k n).keys = s.keys := rfl
@[simp] theorem Dev.bumpBy_pair (s : Dev) (k n : Nat) : (s.bumpBy k n).pair = s.pair := rfl
@[simp] theorem Dev.bumpBy_power (s : Dev) (k n : Nat) : (s.bumpBy k n).power = s.power := rfl
@[simp] theorem Dev.bumpBy_update (s : Dev) (k n : Nat) : (s.bumpBy k n).update = s.update := rfl
@[simp] theorem Dev.bumpBy_ageing (s : Dev) (k n : Nat) : (s.bumpBy k n).ageing = s.ageing := rfl
@[simp] theorem Dev.bumpBy_svc (s : Dev) (k n : Nat) : (s.bumpBy k n).svc = s.svc := rfl
@[simp] theorem Dev.bumpBy_free (s : Dev) (k n : Nat) : (s.bumpBy k n).free = s.free := rfl
@[simp] theorem Dev.bumpBy_out (s : Dev) (k n : Nat) : (s.bumpBy k n).out = s.out := rfl
@[simp] theorem Dev.bumpBy_watch (s : Dev) (k n : Nat) : (s.bumpBy k n).watch = s.watch := rfl

@[simp] theorem Dev.bump_tick (s : Dev) (k : Nat) : (s.bump k).tick = s.tick := rfl
@[simp] theorem Dev.bump_cntZero (s : Dev) (k : Nat) : (s.bump k).cntZero = s.cntZero := rfl
@[simp] theorem Dev.bump_aonTs0 (s : Dev) (k : Nat) : (s.bump k).aonTs0 = s.aonTs0 := rfl
@[simp] theorem Dev.bump_aonFrom (s : Dev) (k : Nat) : (s.bump k).aonFrom = s.aonFrom := rfl
@[simp] theorem Dev.bump_scales (s : Dev) (k : Nat) : (s.bump k).scales = s.scales := rfl
@[simp] theorem Dev.bump_mode (s : Dev) (k : Nat) : (s.bump k).mode = s.mode := rfl
@[simp] theorem Dev.bump_acc (s : Dev) (k : Nat) : (s.bump k).acc = s.acc := rfl
@[simp] theorem Dev.bump_flt (s : Dev) (k : Nat) : (s.bump k).flt = s.flt := rfl
@[simp] theorem Dev.bump_pmc (s : Dev) (k : Nat) : (s.bump k).pmc = s.pmc := rfl
@[simp] theorem Dev.bump_tugs (s : Dev) (k : Nat) : (s.bump k).tugs = s.tugs := rfl
@[simp] theorem Dev.bump_lanes (s : Dev) (k : Nat) : (s.bump k).lanes = s.lanes := rfl
@[simp] theorem Dev.bump_ports (s : Dev) (k : Nat) : (s.bump k).ports = s.ports := rfl
@[simp] theorem Dev.bump_sel (s : Dev) (k : Nat) : (s.bump k).sel = s.sel := rfl
@[simp] theorem Dev.bump_awl (s : Dev) (k : Nat) : (s.bump k).awl = s.awl := rfl
@[simp] theorem Dev.bump_gnss (s : Dev) (k : Nat) : (s.bump k).gnss = s.gnss := rfl
@[simp] theorem Dev.bump_keep (s : Dev) (k : Nat) : (s.bump k).keep = s.keep := rfl
@[simp] theorem Dev.bump_ebe (s : Dev) (k : Nat) : (s.bump k).ebe = s.ebe := rfl
@[simp] theorem Dev.bump_keys (s : Dev) (k : Nat) : (s.bump k).keys = s.keys := rfl
@[simp] theorem Dev.bump_pair (s : Dev) (k : Nat) : (s.bump k).pair = s.pair := rfl
@[simp] theorem Dev.bump_power (s : Dev) (k : Nat) : (s.bump k).power = s.power := rfl
@[simp] theorem Dev.bump_update (s : Dev) (k : Nat) : (s.bump k).update = s.update := rfl
@[simp] theorem Dev.bump_ageing (s : Dev) (k : Nat) : (s.bump k).ageing = s.ageing := rfl
@[simp] theorem Dev.bump_svc (s : Dev) (k : Nat) : (s.bump k).svc = s.svc := rfl
@[simp] theorem Dev.bump_free (s : Dev) (k : Nat) : (s.bump k).free = s.free := rfl
@[simp] theorem Dev.bump_out (s : Dev) (k : Nat) : (s.bump k).out = s.out := rfl
@[simp] theorem Dev.bump_watch (s : Dev) (k : Nat) : (s.bump k).watch = s.watch := rfl

@[simp] theorem Dev.bump64_tick (s : Dev) (k n : Nat) : (s.bump64 k n).tick = s.tick := rfl
@[simp] theorem Dev.bump64_cntZero (s : Dev) (k n : Nat) : (s.bump64 k n).cntZero = s.cntZero := rfl
@[simp] theorem Dev.bump64_aonTs0 (s : Dev) (k n : Nat) : (s.bump64 k n).aonTs0 = s.aonTs0 := rfl
@[simp] theorem Dev.bump64_aonFrom (s : Dev) (k n : Nat) : (s.bump64 k n).aonFrom = s.aonFrom := rfl
@[simp] theorem Dev.bump64_scales (s : Dev) (k n : Nat) : (s.bump64 k n).scales = s.scales := rfl
@[simp] theorem Dev.bump64_mode (s : Dev) (k n : Nat) : (s.bump64 k n).mode = s.mode := rfl
@[simp] theorem Dev.bump64_acc (s : Dev) (k n : Nat) : (s.bump64 k n).acc = s.acc := rfl
@[simp] theorem Dev.bump64_flt (s : Dev) (k n : Nat) : (s.bump64 k n).flt = s.flt := rfl
@[simp] theorem Dev.bump64_pmc (s : Dev) (k n : Nat) : (s.bump64 k n).pmc = s.pmc := rfl
@[simp] theorem Dev.bump64_tugs (s : Dev) (k n : Nat) : (s.bump64 k n).tugs = s.tugs := rfl
@[simp] theorem Dev.bump64_lanes (s : Dev) (k n : Nat) : (s.bump64 k n).lanes = s.lanes := rfl
@[simp] theorem Dev.bump64_ports (s : Dev) (k n : Nat) : (s.bump64 k n).ports = s.ports := rfl
@[simp] theorem Dev.bump64_sel (s : Dev) (k n : Nat) : (s.bump64 k n).sel = s.sel := rfl
@[simp] theorem Dev.bump64_awl (s : Dev) (k n : Nat) : (s.bump64 k n).awl = s.awl := rfl
@[simp] theorem Dev.bump64_gnss (s : Dev) (k n : Nat) : (s.bump64 k n).gnss = s.gnss := rfl
@[simp] theorem Dev.bump64_keep (s : Dev) (k n : Nat) : (s.bump64 k n).keep = s.keep := rfl
@[simp] theorem Dev.bump64_ebe (s : Dev) (k n : Nat) : (s.bump64 k n).ebe = s.ebe := rfl
@[simp] theorem Dev.bump64_keys (s : Dev) (k n : Nat) : (s.bump64 k n).keys = s.keys := rfl
@[simp] theorem Dev.bump64_pair (s : Dev) (k n : Nat) : (s.bump64 k n).pair = s.pair := rfl
@[simp] theorem Dev.bump64_power (s : Dev) (k n : Nat) : (s.bump64 k n).power = s.power := rfl
@[simp] theorem Dev.bump64_update (s : Dev) (k n : Nat) : (s.bump64 k n).update = s.update := rfl
@[simp] theorem Dev.bump64_ageing (s : Dev) (k n : Nat) : (s.bump64 k n).ageing = s.ageing := rfl
@[simp] theorem Dev.bump64_svc (s : Dev) (k n : Nat) : (s.bump64 k n).svc = s.svc := rfl
@[simp] theorem Dev.bump64_free (s : Dev) (k n : Nat) : (s.bump64 k n).free = s.free := rfl
@[simp] theorem Dev.bump64_out (s : Dev) (k n : Nat) : (s.bump64 k n).out = s.out := rfl
@[simp] theorem Dev.bump64_watch (s : Dev) (k n : Nat) : (s.bump64 k n).watch = s.watch := rfl

@[simp] theorem Dev.emit_tick (s : Dev) (m : Msg) : (s.emit m).tick = s.tick := rfl
@[simp] theorem Dev.emit_cntZero (s : Dev) (m : Msg) : (s.emit m).cntZero = s.cntZero := rfl
@[simp] theorem Dev.emit_aonTs0 (s : Dev) (m : Msg) : (s.emit m).aonTs0 = s.aonTs0 := rfl
@[simp] theorem Dev.emit_aonFrom (s : Dev) (m : Msg) : (s.emit m).aonFrom = s.aonFrom := rfl
@[simp] theorem Dev.emit_od (s : Dev) (m : Msg) : (s.emit m).od = s.od := rfl
@[simp] theorem Dev.emit_scales (s : Dev) (m : Msg) : (s.emit m).scales = s.scales := rfl
@[simp] theorem Dev.emit_mode (s : Dev) (m : Msg) : (s.emit m).mode = s.mode := rfl
@[simp] theorem Dev.emit_acc (s : Dev) (m : Msg) : (s.emit m).acc = s.acc := rfl
@[simp] theorem Dev.emit_flt (s : Dev) (m : Msg) : (s.emit m).flt = s.flt := rfl
@[simp] theorem Dev.emit_pmc (s : Dev) (m : Msg) : (s.emit m).pmc = s.pmc := rfl
@[simp] theorem Dev.emit_tugs (s : Dev) (m : Msg) : (s.emit m).tugs = s.tugs := rfl
@[simp] theorem Dev.emit_lanes (s : Dev) (m : Msg) : (s.emit m).lanes = s.lanes := rfl
@[simp] theorem Dev.emit_ports (s : Dev) (m : Msg) : (s.emit m).ports = s.ports := rfl
@[simp] theorem Dev.emit_sel (s : Dev) (m : Msg) : (s.emit m).sel = s.sel := rfl
@[simp] theorem Dev.emit_awl (s : Dev) (m : Msg) : (s.emit m).awl = s.awl := rfl
@[simp] theorem Dev.emit_gnss (s : Dev) (m : Msg) : (s.emit m).gnss = s.gnss := rfl
@[simp] theorem Dev.emit_keep (s : Dev) (m : Msg) : (s.emit m).keep = s.keep := rfl
@[simp] theorem Dev.emit_ebe (s : Dev) (m : Msg) : (s.emit m).ebe = s.ebe := rfl
@[simp] theorem Dev.emit_keys (s : Dev) (m : Msg) : (s.emit m).keys = s.keys := rfl
@[simp] theorem Dev.emit_pair (s : Dev) (m : Msg) : (s.emit m).pair = s.pair := rfl
@[simp] theorem Dev.emit_power (s : Dev) (m : Msg) : (s.emit m).power = s.power := rfl
@[simp] theorem Dev.emit_update (s : Dev) (m : Msg) : (s.emit m).update = s.update := rfl
@[simp] theorem Dev.emit_ageing (s : Dev) (m : Msg) : (s.emit m).ageing = s.ageing := rfl
@[simp] theorem Dev.emit_svc (s : Dev) (m : Msg) : (s.emit m).svc = s.svc := rfl
@[simp] theorem Dev.emit_free (s : Dev) (m : Msg) : (s.emit m).free = s.free := rfl
@[simp] theorem Dev.emit_watch (s : Dev) (m : Msg) : (s.emit m).watch = s.watch := rfl
@[simp] theorem Dev.emit_num (s : Dev) (m : Msg) (key : Nat) : (s.emit m).num key = s.num key := rfl

@[simp] theorem Dev.modMode_tick (s : Dev) (f : ModeRegs → ModeRegs) : (s.modMode f).tick = s.tick := rfl
@[simp] theorem Dev.modMode_cntZero (s : Dev) (f : ModeRegs → ModeRegs) : (s.modMode f).cntZero = s.cntZero := rfl
@[simp] theorem Dev.modMode_aonTs0 (s : Dev) (f : ModeRegs → ModeRegs) : (s.modMode f).aonTs0 = s.aonTs0 := rfl
@[simp] theorem Dev.modMode_aonFrom (s : Dev) (f : ModeRegs → ModeRegs) : (s.modMode f).aonFrom = s.aonFrom := rfl
@[simp] theorem Dev.modMode_od (s : Dev) (f : ModeRegs → ModeRegs) : (s.modMode f).od = s.od := rfl
@[simp] theorem Dev.modMode_scales (s : Dev) (f : ModeRegs → ModeRegs) : (s.modMode f).scales = s.scales := rfl
@[simp] theorem Dev.modMode_acc (s : Dev) (f : ModeRegs → ModeRegs) : (s.modMode f).acc = s.acc := rfl
@[simp] theorem Dev.modMode_flt (s : Dev) (f : ModeRegs → ModeRegs) : (s.modMode f).flt = s.flt := rfl
@[simp] theorem Dev.modMode_pmc (s : Dev) (f : ModeRegs → ModeRegs) : (s.modMode f).pmc = s.pmc := rfl
@[simp] theorem Dev.modMode_tugs (s : Dev) (f : ModeRegs → ModeRegs) : (s.modMode f).tugs = s.tugs := rfl
@[simp] theorem Dev.modMode_lanes (s : Dev) (f : ModeRegs → ModeRegs) : (s.modMode f).lanes = s.lanes := rfl
@[simp] theorem Dev.modMode_ports (s : Dev) (f : ModeRegs → ModeRegs) : (s.modMode f).ports = s.ports := rfl
@[simp] theorem Dev.modMode_sel (s : Dev) (f : ModeRegs → ModeRegs) : (s.modMode f).sel = s.sel := rfl
@[simp] theorem Dev.modMode_awl (s : Dev) (f : ModeRegs → ModeRegs) : (s.modMode f).awl = s.awl := rfl
@[simp] theorem Dev.modMode_gnss (s : Dev) (f : ModeRegs → ModeRegs) : (s.modMode f).gnss = s.gnss := rfl
@[simp] theorem Dev.modMode_keep (s : Dev) (f : ModeRegs → ModeRegs) : (s.modMode f).keep = s.keep := rfl
@[simp] theorem Dev.modMode_ebe (s : Dev) (f : ModeRegs → ModeRegs) : (s.modMode f).ebe = s.ebe := rfl
@[simp] theorem Dev.modMode_keys (s : Dev) (f : ModeRegs → ModeRegs) : (s.modMode f).keys = s.keys := rfl
@[simp] theorem Dev.modMode_pair (s : Dev) (f : ModeRegs → ModeRegs) : (s.modMode f).pair = s.pair := rfl
@[simp] theorem Dev.modMode_power (s : Dev) (f : ModeRegs → ModeRegs) : (s.modMode f).power = s.power := rfl
@[simp] theorem Dev.modMode_update (s : Dev) (f : ModeRegs → ModeRegs) : (s.modMode f).update = s.update := rfl
@[simp] theorem Dev.modMode_ageing (s : Dev) (f : ModeRegs → ModeRegs) : (s.modMode f).ageing = s.ageing := rfl
@[simp] theorem Dev.modMode_svc (s : Dev) (f : ModeRegs → ModeRegs) : (s.modMode f).svc = s.svc := rfl
@[simp] theorem Dev.modMode_free (s : Dev) (f : ModeRegs → ModeRegs) : (s.modMode f).free = s.free := rfl
@[simp] theorem Dev.modMode_out (s : Dev) (f : ModeRegs → ModeRegs) : (s.modMode f).out = s.out := rfl
@[simp] theorem Dev.modMode_watch (s : Dev) (f : ModeRegs → ModeRegs) : (s.modMode f).watch = s.watch := rfl
@[simp] theorem Dev.modMode_num (s : Dev) (f : ModeRegs → ModeRegs) (key : Nat) : (s.modMode f).num key = s.num key := rfl

@[simp] theorem Dev.modAcc_tick (s : Dev) (f : Access → Access) : (s.modAcc f).tick = s.tick := rfl
@[simp] theorem Dev.modAcc_cntZero (s : Dev) (f : Access → Access) : (s.modAcc f).cntZero = s.cntZero := rfl
@[simp] theorem Dev.modAcc_aonTs0 (s : Dev) (f : Access → Access) : (s.modAcc f).aonTs0 = s.aonTs0 := rfl
@[simp] theorem Dev.modAcc_aonFrom (s : Dev) (f : Access → Access) : (s.modAcc f).aonFrom = s.aonFrom := rfl
@[simp] theorem Dev.modAcc_od (s : Dev) (f : Access → Access) : (s.modAcc f).od = s.od := rfl
@[simp] theorem Dev.modAcc_scales (s : Dev) (f : Access → Access) : (s.modAcc f).scales = s.scales := rfl
@[simp] theorem Dev.modAcc_mode (s : Dev) (f : Access → Access) : (s.modAcc f).mode = s.mode := rfl
@[simp] theorem Dev.modAcc_flt (s : Dev) (f : Access → Access) : (s.modAcc f).flt = s.flt := rfl
@[simp] theorem Dev.modAcc_pmc (s : Dev) (f : Access → Access) : (s.modAcc f).pmc = s.pmc := rfl
@[simp] theorem Dev.modAcc_tugs (s : Dev) (f : Access → Access) : (s.modAcc f).tugs = s.tugs := rfl
@[simp] theorem Dev.modAcc_lanes (s : Dev) (f : Access → Access) : (s.modAcc f).lanes = s.lanes := rfl
@[simp] theorem Dev.modAcc_ports (s : Dev) (f : Access → Access) : (s.modAcc f).ports = s.ports := rfl
@[simp] theorem Dev.modAcc_sel (s : Dev) (f : Access → Access) : (s.modAcc f).sel = s.sel := rfl
@[simp] theorem Dev.modAcc_awl (s : Dev) (f : Access → Access) : (s.modAcc f).awl = s.awl := rfl
@[simp] theorem Dev.modAcc_gnss (s : Dev) (f : Access → Access) : (s.modAcc f).gnss = s.gnss := rfl
@[simp] theorem Dev.modAcc_keep (s : Dev) (f : Access → Access) : (s.modAcc f).keep = s.keep := rfl
@[simp] theorem Dev.modAcc_ebe (s : Dev) (f : Access → Access) : (s.modAcc f).ebe = s.ebe := rfl
@[simp] theorem Dev.modAcc_keys (s : Dev) (f : Access → Access) : (s.modAcc f).keys = s.keys := rfl
@[simp] theorem Dev.modAcc_pair (s : Dev) (f : Access → Access) : (s.modAcc f).pair = s.pair := rfl
@[simp] theorem Dev.modAcc_power (s : Dev) (f : Access → Access) : (s.modAcc f).power = s.power := rfl
@[simp] theorem Dev.modAcc_update (s : Dev) (f : Access → Access) : (s.modAcc f).update = s.update := rfl
@[simp] theorem Dev.modAcc_ageing (s : Dev) (f : Access → Access) : (s.modAcc f).ageing = s.ageing := rfl
@[simp] theorem Dev.modAcc_svc (s : Dev) (f : Access → Access) : (s.modAcc f).svc = s.svc := rfl
@[simp] theorem Dev.modAcc_free (s : Dev) (f : Access → Access) : (s.modAcc f).free = s.free := rfl
@[simp] theorem Dev.modAcc_out (s : Dev) (f : Access → Access) : (s.modAcc f).out = s.out := rfl
@[simp] theorem Dev.modAcc_watch (s : Dev) (f : Access → Access) : (s.modAcc f).watch = s.watch := rfl
@[simp] theorem Dev.modAcc_num (s : Dev) (f : Access → Access) (key : Nat) : (s.modAcc f).num key = s.num key := rfl

@[simp] theorem Dev.modFlt_tick (s : Dev) (f : Collector → Collector) : (s.modFlt f).tick = s.tick := rfl
@[simp] theorem Dev.modFlt_cntZero (s : Dev) (f : Collector → Collector) : (s.modFlt f).cntZero = s.cntZero := rfl
@[simp] theorem Dev.modFlt_aonTs0 (s : Dev) (f : Collector → Collector) : (s.modFlt f).aonTs0 = s.aonTs0 := rfl
@[simp] theorem Dev.modFlt_aonFrom (s : Dev) (f : Collector → Collector) : (s.modFlt f).aonFrom = s.aonFrom := rfl
@[simp] theorem Dev.modFlt_od (s : Dev) (f : Collector → Collector) : (s.modFlt f).od = s.od := rfl
@[simp] theorem Dev.modFlt_scales (s : Dev) (f : Collector → Collector) : (s.modFlt f).scales = s.scales := rfl
@[simp] theorem Dev.modFlt_mode (s : Dev) (f : Collector → Collector) : (s.modFlt f).mode = s.mode := rfl
@[simp] theorem Dev.modFlt_acc (s : Dev) (f : Collector → Collector) : (s.modFlt f).acc = s.acc := rfl
@[simp] theorem Dev.modFlt_pmc (s : Dev) (f : Collector → Collector) : (s.modFlt f).pmc = s.pmc := rfl
@[simp] theorem Dev.modFlt_tugs (s : Dev) (f : Collector → Collector) : (s.modFlt f).tugs = s.tugs := rfl
@[simp] theorem Dev.modFlt_lanes (s : Dev) (f : Collector → Collector) : (s.modFlt f).lanes = s.lanes := rfl
@[simp] theorem Dev.modFlt_ports (s : Dev) (f : Collector → Collector) : (s.modFlt f).ports = s.ports := rfl
@[simp] theorem Dev.modFlt_sel (s : Dev) (f : Collector → Collector) : (s.modFlt f).sel = s.sel := rfl
@[simp] theorem Dev.modFlt_awl (s : Dev) (f : Collector → Collector) : (s.modFlt f).awl = s.awl := rfl
@[simp] theorem Dev.modFlt_gnss (s : Dev) (f : Collector → Collector) : (s.modFlt f).gnss = s.gnss := rfl
@[simp] theorem Dev.modFlt_keep (s : Dev) (f : Collector → Collector) : (s.modFlt f).keep = s.keep := rfl
@[simp] theorem Dev.modFlt_ebe (s : Dev) (f : Collector → Collector) : (s.modFlt f).ebe = s.ebe := rfl
@[simp] theorem Dev.modFlt_keys (s : Dev) (f : Collector → Collector) : (s.modFlt f).keys = s.keys := rfl
@[simp] theorem Dev.modFlt_pair (s : Dev) (f : Collector → Collector) : (s.modFlt f).pair = s.pair := rfl
@[simp] theorem Dev.modFlt_power (s : Dev) (f : Collector → Collector) : (s.modFlt f).power = s.power := rfl
@[simp] theorem Dev.modFlt_update (s : Dev) (f : Collector → Collector) : (s.modFlt f).update = s.update := rfl
@[simp] theorem Dev.modFlt_ageing (s : Dev) (f : Collector → Collector) : (s.modFlt f).ageing = s.ageing := rfl
@[simp] theorem Dev.modFlt_svc (s : Dev) (f : Collector → Collector) : (s.modFlt f).svc = s.svc := rfl
@[simp] theorem Dev.modFlt_free (s : Dev) (f : Collector → Collector) : (s.modFlt f).free = s.free := rfl
@[simp] theorem Dev.modFlt_out (s : Dev) (f : Collector → Collector) : (s.modFlt f).out = s.out := rfl
@[simp] theorem Dev.modFlt_watch (s : Dev) (f : Collector → Collector) : (s.modFlt f).watch = s.watch := rfl
@[simp] theorem Dev.modFlt_num (s : Dev) (f : Collector → Collector) (key : Nat) : (s.modFlt f).num key = s.num key := rfl

@[simp] theorem Dev.modTugs_tick (s : Dev) (f : Tugs → Tugs) : (s.modTugs f).tick = s.tick := rfl
@[simp] theorem Dev.modTugs_cntZero (s : Dev) (f : Tugs → Tugs) : (s.modTugs f).cntZero = s.cntZero := rfl
@[simp] theorem Dev.modTugs_aonTs0 (s : Dev) (f : Tugs → Tugs) : (s.modTugs f).aonTs0 = s.aonTs0 := rfl
@[simp] theorem Dev.modTugs_aonFrom (s : Dev) (f : Tugs → Tugs) : (s.modTugs f).aonFrom = s.aonFrom := rfl
@[simp] theorem Dev.modTugs_od (s : Dev) (f : Tugs → Tugs) : (s.modTugs f).od = s.od := rfl
@[simp] theorem Dev.modTugs_scales (s : Dev) (f : Tugs → Tugs) : (s.modTugs f).scales = s.scales := rfl
@[simp] theorem Dev.modTugs_mode (s : Dev) (f : Tugs → Tugs) : (s.modTugs f).mode = s.mode := rfl
@[simp] theorem Dev.modTugs_acc (s : Dev) (f : Tugs → Tugs) : (s.modTugs f).acc = s.acc := rfl
@[simp] theorem Dev.modTugs_flt (s : Dev) (f : Tugs → Tugs) : (s.modTugs f).flt = s.flt := rfl
@[simp] theorem Dev.modTugs_pmc (s : Dev) (f : Tugs → Tugs) : (s.modTugs f).pmc = s.pmc := rfl
@[simp] theorem Dev.modTugs_lanes (s : Dev) (f : Tugs → Tugs) : (s.modTugs f).lanes = s.lanes := rfl
@[simp] theorem Dev.modTugs_ports (s : Dev) (f : Tugs → Tugs) : (s.modTugs f).ports = s.ports := rfl
@[simp] theorem Dev.modTugs_sel (s : Dev) (f : Tugs → Tugs) : (s.modTugs f).sel = s.sel := rfl
@[simp] theorem Dev.modTugs_awl (s : Dev) (f : Tugs → Tugs) : (s.modTugs f).awl = s.awl := rfl
@[simp] theorem Dev.modTugs_gnss (s : Dev) (f : Tugs → Tugs) : (s.modTugs f).gnss = s.gnss := rfl
@[simp] theorem Dev.modTugs_keep (s : Dev) (f : Tugs → Tugs) : (s.modTugs f).keep = s.keep := rfl
@[simp] theorem Dev.modTugs_ebe (s : Dev) (f : Tugs → Tugs) : (s.modTugs f).ebe = s.ebe := rfl
@[simp] theorem Dev.modTugs_keys (s : Dev) (f : Tugs → Tugs) : (s.modTugs f).keys = s.keys := rfl
@[simp] theorem Dev.modTugs_pair (s : Dev) (f : Tugs → Tugs) : (s.modTugs f).pair = s.pair := rfl
@[simp] theorem Dev.modTugs_power (s : Dev) (f : Tugs → Tugs) : (s.modTugs f).power = s.power := rfl
@[simp] theorem Dev.modTugs_update (s : Dev) (f : Tugs → Tugs) : (s.modTugs f).update = s.update := rfl
@[simp] theorem Dev.modTugs_ageing (s : Dev) (f : Tugs → Tugs) : (s.modTugs f).ageing = s.ageing := rfl
@[simp] theorem Dev.modTugs_svc (s : Dev) (f : Tugs → Tugs) : (s.modTugs f).svc = s.svc := rfl
@[simp] theorem Dev.modTugs_free (s : Dev) (f : Tugs → Tugs) : (s.modTugs f).free = s.free := rfl
@[simp] theorem Dev.modTugs_out (s : Dev) (f : Tugs → Tugs) : (s.modTugs f).out = s.out := rfl
@[simp] theorem Dev.modTugs_watch (s : Dev) (f : Tugs → Tugs) : (s.modTugs f).watch = s.watch := rfl
@[simp] theorem Dev.modTugs_num (s : Dev) (f : Tugs → Tugs) (key : Nat) : (s.modTugs f).num key = s.num key := rfl

@[simp] theorem Dev.modSel_tick (s : Dev) (f : Select → Select) : (s.modSel f).tick = s.tick := rfl
@[simp] theorem Dev.modSel_cntZero (s : Dev) (f : Select → Select) : (s.modSel f).cntZero = s.cntZero := rfl
@[simp] theorem Dev.modSel_aonTs0 (s : Dev) (f : Select → Select) : (s.modSel f).aonTs0 = s.aonTs0 := rfl
@[simp] theorem Dev.modSel_aonFrom (s : Dev) (f : Select → Select) : (s.modSel f).aonFrom = s.aonFrom := rfl
@[simp] theorem Dev.modSel_od (s : Dev) (f : Select → Select) : (s.modSel f).od = s.od := rfl
@[simp] theorem Dev.modSel_scales (s : Dev) (f : Select → Select) : (s.modSel f).scales = s.scales := rfl
@[simp] theorem Dev.modSel_mode (s : Dev) (f : Select → Select) : (s.modSel f).mode = s.mode := rfl
@[simp] theorem Dev.modSel_acc (s : Dev) (f : Select → Select) : (s.modSel f).acc = s.acc := rfl
@[simp] theorem Dev.modSel_flt (s : Dev) (f : Select → Select) : (s.modSel f).flt = s.flt := rfl
@[simp] theorem Dev.modSel_pmc (s : Dev) (f : Select → Select) : (s.modSel f).pmc = s.pmc := rfl
@[simp] theorem Dev.modSel_tugs (s : Dev) (f : Select → Select) : (s.modSel f).tugs = s.tugs := rfl
@[simp] theorem Dev.modSel_lanes (s : Dev) (f : Select → Select) : (s.modSel f).lanes = s.lanes := rfl
@[simp] theorem Dev.modSel_ports (s : Dev) (f : Select → Select) : (s.modSel f).ports = s.ports := rfl
@[simp] theorem Dev.modSel_awl (s : Dev) (f : Select → Select) : (s.modSel f).awl = s.awl := rfl
@[simp] theorem Dev.modSel_gnss (s : Dev) (f : Select → Select) : (s.modSel f).gnss = s.gnss := rfl
@[simp] theorem Dev.modSel_keep (s : Dev) (f : Select → Select) : (s.modSel f).keep = s.keep := rfl
@[simp] theorem Dev.modSel_ebe (s : Dev) (f : Select → Select) : (s.modSel f).ebe = s.ebe := rfl
@[simp] theorem Dev.modSel_keys (s : Dev) (f : Select → Select) : (s.modSel f).keys = s.keys := rfl
@[simp] theorem Dev.modSel_pair (s : Dev) (f : Select → Select) : (s.modSel f).pair = s.pair := rfl
@[simp] theorem Dev.modSel_power (s : Dev) (f : Select → Select) : (s.modSel f).power = s.power := rfl
@[simp] theorem Dev.modSel_update (s : Dev) (f : Select → Select) : (s.modSel f).update = s.update := rfl
@[simp] theorem Dev.modSel_ageing (s : Dev) (f : Select → Select) : (s.modSel f).ageing = s.ageing := rfl
@[simp] theorem Dev.modSel_svc (s : Dev) (f : Select → Select) : (s.modSel f).svc = s.svc := rfl
@[simp] theorem Dev.modSel_free (s : Dev) (f : Select → Select) : (s.modSel f).free = s.free := rfl
@[simp] theorem Dev.modSel_out (s : Dev) (f : Select → Select) : (s.modSel f).out = s.out := rfl
@[simp] theorem Dev.modSel_watch (s : Dev) (f : Select → Select) : (s.modSel f).watch = s.watch := rfl
@[simp] theorem Dev.modSel_num (s : Dev) (f : Select → Select) (key : Nat) : (s.modSel f).num key = s.num key := rfl

@[simp] theorem Dev.modKeep_tick (s : Dev) (f : Keeper → Keeper) : (s.modKeep f).tick = s.tick := rfl
@[simp] theorem Dev.modKeep_cntZero (s : Dev) (f : Keeper → Keeper) : (s.modKeep f).cntZero = s.cntZero := rfl
@[simp] theorem Dev.modKeep_aonTs0 (s : Dev) (f : Keeper → Keeper) : (s.modKeep f).aonTs0 = s.aonTs0 := rfl
@[simp] theorem Dev.modKeep_aonFrom (s : Dev) (f : Keeper → Keeper) : (s.modKeep f).aonFrom = s.aonFrom := rfl
@[simp] theorem Dev.modKeep_od (s : Dev) (f : Keeper → Keeper) : (s.modKeep f).od = s.od := rfl
@[simp] theorem Dev.modKeep_scales (s : Dev) (f : Keeper → Keeper) : (s.modKeep f).scales = s.scales := rfl
@[simp] theorem Dev.modKeep_mode (s : Dev) (f : Keeper → Keeper) : (s.modKeep f).mode = s.mode := rfl
@[simp] theorem Dev.modKeep_acc (s : Dev) (f : Keeper → Keeper) : (s.modKeep f).acc = s.acc := rfl
@[simp] theorem Dev.modKeep_flt (s : Dev) (f : Keeper → Keeper) : (s.modKeep f).flt = s.flt := rfl
@[simp] theorem Dev.modKeep_pmc (s : Dev) (f : Keeper → Keeper) : (s.modKeep f).pmc = s.pmc := rfl
@[simp] theorem Dev.modKeep_tugs (s : Dev) (f : Keeper → Keeper) : (s.modKeep f).tugs = s.tugs := rfl
@[simp] theorem Dev.modKeep_lanes (s : Dev) (f : Keeper → Keeper) : (s.modKeep f).lanes = s.lanes := rfl
@[simp] theorem Dev.modKeep_ports (s : Dev) (f : Keeper → Keeper) : (s.modKeep f).ports = s.ports := rfl
@[simp] theorem Dev.modKeep_sel (s : Dev) (f : Keeper → Keeper) : (s.modKeep f).sel = s.sel := rfl
@[simp] theorem Dev.modKeep_awl (s : Dev) (f : Keeper → Keeper) : (s.modKeep f).awl = s.awl := rfl
@[simp] theorem Dev.modKeep_gnss (s : Dev) (f : Keeper → Keeper) : (s.modKeep f).gnss = s.gnss := rfl
@[simp] theorem Dev.modKeep_ebe (s : Dev) (f : Keeper → Keeper) : (s.modKeep f).ebe = s.ebe := rfl
@[simp] theorem Dev.modKeep_keys (s : Dev) (f : Keeper → Keeper) : (s.modKeep f).keys = s.keys := rfl
@[simp] theorem Dev.modKeep_pair (s : Dev) (f : Keeper → Keeper) : (s.modKeep f).pair = s.pair := rfl
@[simp] theorem Dev.modKeep_power (s : Dev) (f : Keeper → Keeper) : (s.modKeep f).power = s.power := rfl
@[simp] theorem Dev.modKeep_update (s : Dev) (f : Keeper → Keeper) : (s.modKeep f).update = s.update := rfl
@[simp] theorem Dev.modKeep_ageing (s : Dev) (f : Keeper → Keeper) : (s.modKeep f).ageing = s.ageing := rfl
@[simp] theorem Dev.modKeep_svc (s : Dev) (f : Keeper → Keeper) : (s.modKeep f).svc = s.svc := rfl
@[simp] theorem Dev.modKeep_free (s : Dev) (f : Keeper → Keeper) : (s.modKeep f).free = s.free := rfl
@[simp] theorem Dev.modKeep_out (s : Dev) (f : Keeper → Keeper) : (s.modKeep f).out = s.out := rfl
@[simp] theorem Dev.modKeep_watch (s : Dev) (f : Keeper → Keeper) : (s.modKeep f).watch = s.watch := rfl
@[simp] theorem Dev.modKeep_num (s : Dev) (f : Keeper → Keeper) (key : Nat) : (s.modKeep f).num key = s.num key := rfl

@[simp] theorem Dev.modEbe_tick (s : Dev) (f : Ebe → Ebe) : (s.modEbe f).tick = s.tick := rfl
@[simp] theorem Dev.modEbe_cntZero (s : Dev) (f : Ebe → Ebe) : (s.modEbe f).cntZero = s.cntZero := rfl
@[simp] theorem Dev.modEbe_aonTs0 (s : Dev) (f : Ebe → Ebe) : (s.modEbe f).aonTs0 = s.aonTs0 := rfl
@[simp] theorem Dev.modEbe_aonFrom (s : Dev) (f : Ebe → Ebe) : (s.modEbe f).aonFrom = s.aonFrom := rfl
@[simp] theorem Dev.modEbe_od (s : Dev) (f : Ebe → Ebe) : (s.modEbe f).od = s.od := rfl
@[simp] theorem Dev.modEbe_scales (s : Dev) (f : Ebe → Ebe) : (s.modEbe f).scales = s.scales := rfl
@[simp] theorem Dev.modEbe_mode (s : Dev) (f : Ebe → Ebe) : (s.modEbe f).mode = s.mode := rfl
@[simp] theorem Dev.modEbe_acc (s : Dev) (f : Ebe → Ebe) : (s.modEbe f).acc = s.acc := rfl
@[simp] theorem Dev.modEbe_flt (s : Dev) (f : Ebe → Ebe) : (s.modEbe f).flt = s.flt := rfl
@[simp] theorem Dev.modEbe_pmc (s : Dev) (f : Ebe → Ebe) : (s.modEbe f).pmc = s.pmc := rfl
@[simp] theorem Dev.modEbe_tugs (s : Dev) (f : Ebe → Ebe) : (s.modEbe f).tugs = s.tugs := rfl
@[simp] theorem Dev.modEbe_lanes (s : Dev) (f : Ebe → Ebe) : (s.modEbe f).lanes = s.lanes := rfl
@[simp] theorem Dev.modEbe_ports (s : Dev) (f : Ebe → Ebe) : (s.modEbe f).ports = s.ports := rfl
@[simp] theorem Dev.modEbe_sel (s : Dev) (f : Ebe → Ebe) : (s.modEbe f).sel = s.sel := rfl
@[simp] theorem Dev.modEbe_awl (s : Dev) (f : Ebe → Ebe) : (s.modEbe f).awl = s.awl := rfl
@[simp] theorem Dev.modEbe_gnss (s : Dev) (f : Ebe → Ebe) : (s.modEbe f).gnss = s.gnss := rfl
@[simp] theorem Dev.modEbe_keep (s : Dev) (f : Ebe → Ebe) : (s.modEbe f).keep = s.keep := rfl
@[simp] theorem Dev.modEbe_keys (s : Dev) (f : Ebe → Ebe) : (s.modEbe f).keys = s.keys := rfl
@[simp] theorem Dev.modEbe_pair (s : Dev) (f : Ebe → Ebe) : (s.modEbe f).pair = s.pair := rfl
@[simp] theorem Dev.modEbe_power (s : Dev) (f : Ebe → Ebe) : (s.modEbe f).power = s.power := rfl
@[simp] theorem Dev.modEbe_update (s : Dev) (f : Ebe → Ebe) : (s.modEbe f).update = s.update := rfl
@[simp] theorem Dev.modEbe_ageing (s : Dev) (f : Ebe → Ebe) : (s.modEbe f).ageing = s.ageing := rfl
@[simp] theorem Dev.modEbe_svc (s : Dev) (f : Ebe → Ebe) : (s.modEbe f).svc = s.svc := rfl
@[simp] theorem Dev.modEbe_free (s : Dev) (f : Ebe → Ebe) : (s.modEbe f).free = s.free := rfl
@[simp] theorem Dev.modEbe_out (s : Dev) (f : Ebe → Ebe) : (s.modEbe f).out = s.out := rfl
@[simp] theorem Dev.modEbe_watch (s : Dev) (f : Ebe → Ebe) : (s.modEbe f).watch = s.watch := rfl
@[simp] theorem Dev.modEbe_num (s : Dev) (f : Ebe → Ebe) (key : Nat) : (s.modEbe f).num key = s.num key := rfl

@[simp] theorem Dev.modPair_tick (s : Dev) (f : Pair → Pair) : (s.modPair f).tick = s.tick := rfl
@[simp] theorem Dev.modPair_cntZero (s : Dev) (f : Pair → Pair) : (s.modPair f).cntZero = s.cntZero := rfl
@[simp] theorem Dev.modPair_aonTs0 (s : Dev) (f : Pair → Pair) : (s.modPair f).aonTs0 = s.aonTs0 := rfl
@[simp] theorem Dev.modPair_aonFrom (s : Dev) (f : Pair → Pair) : (s.modPair f).aonFrom = s.aonFrom := rfl
@[simp] theorem Dev.modPair_od (s : Dev) (f : Pair → Pair) : (s.modPair f).od = s.od := rfl
@[simp] theorem Dev.modPair_scales (s : Dev) (f : Pair → Pair) : (s.modPair f).scales = s.scales := rfl
@[simp] theorem Dev.modPair_mode (s : Dev) (f : Pair → Pair) : (s.modPair f).mode = s.mode := rfl
@[simp] theorem Dev.modPair_acc (s : Dev) (f : Pair → Pair) : (s.modPair f).acc = s.acc := rfl
@[simp] theorem Dev.modPair_flt (s : Dev) (f : Pair → Pair) : (s.modPair f).flt = s.flt := rfl
@[simp] theorem Dev.modPair_pmc (s : Dev) (f : Pair → Pair) : (s.modPair f).pmc = s.pmc := rfl
@[simp] theorem Dev.modPair_tugs (s : Dev) (f : Pair → Pair) : (s.modPair f).tugs = s.tugs := rfl
@[simp] theorem Dev.modPair_lanes (s : Dev) (f : Pair → Pair) : (s.modPair f).lanes = s.lanes := rfl
@[simp] theorem Dev.modPair_ports (s : Dev) (f : Pair → Pair) : (s.modPair f).ports = s.ports := rfl
@[simp] theorem Dev.modPair_sel (s : Dev) (f : Pair → Pair) : (s.modPair f).sel = s.sel := rfl
@[simp] theorem Dev.modPair_awl (s : Dev) (f : Pair → Pair) : (s.modPair f).awl = s.awl := rfl
@[simp] theorem Dev.modPair_gnss (s : Dev) (f : Pair → Pair) : (s.modPair f).gnss = s.gnss := rfl
@[simp] theorem Dev.modPair_keep (s : Dev) (f : Pair → Pair) : (s.modPair f).keep = s.keep := rfl
@[simp] theorem Dev.modPair_ebe (s : Dev) (f : Pair → Pair) : (s.modPair f).ebe = s.ebe := rfl
@[simp] theorem Dev.modPair_keys (s : Dev) (f : Pair → Pair) : (s.modPair f).keys = s.keys := rfl
@[simp] theorem Dev.modPair_power (s : Dev) (f : Pair → Pair) : (s.modPair f).power = s.power := rfl
@[simp] theorem Dev.modPair_update (s : Dev) (f : Pair → Pair) : (s.modPair f).update = s.update := rfl
@[simp] theorem Dev.modPair_ageing (s : Dev) (f : Pair → Pair) : (s.modPair f).ageing = s.ageing := rfl
@[simp] theorem Dev.modPair_svc (s : Dev) (f : Pair → Pair) : (s.modPair f).svc = s.svc := rfl
@[simp] theorem Dev.modPair_free (s : Dev) (f : Pair → Pair) : (s.modPair f).free = s.free := rfl
@[simp] theorem Dev.modPair_out (s : Dev) (f : Pair → Pair) : (s.modPair f).out = s.out := rfl
@[simp] theorem Dev.modPair_watch (s : Dev) (f : Pair → Pair) : (s.modPair f).watch = s.watch := rfl
@[simp] theorem Dev.modPair_num (s : Dev) (f : Pair → Pair) (key : Nat) : (s.modPair f).num key = s.num key := rfl

@[simp] theorem Dev.modKeys_tick (s : Dev) (f : Keys → Keys) : (s.modKeys f).tick = s.tick := rfl
@[simp] theorem Dev.modKeys_cntZero (s : Dev) (f : Keys → Keys) : (s.modKeys f).cntZero = s.cntZero := rfl
@[simp] theorem Dev.modKeys_aonTs0 (s : Dev) (f : Keys → Keys) : (s.modKeys f).aonTs0 = s.aonTs0 := rfl
@[simp] theorem Dev.modKeys_aonFrom (s : Dev) (f : Keys → Keys) : (s.modKeys f).aonFrom = s.aonFrom := rfl
@[simp] theorem Dev.modKeys_od (s : Dev) (f : Keys → Keys) : (s.modKeys f).od = s.od := rfl
@[simp] theorem Dev.modKeys_scales (s : Dev) (f : Keys → Keys) : (s.modKeys f).scales = s.scales := rfl
@[simp] theorem Dev.modKeys_mode (s : Dev) (f : Keys → Keys) : (s.modKeys f).mode = s.mode := rfl
@[simp] theorem Dev.modKeys_acc (s : Dev) (f : Keys → Keys) : (s.modKeys f).acc = s.acc := rfl
@[simp] theorem Dev.modKeys_flt (s : Dev) (f : Keys → Keys) : (s.modKeys f).flt = s.flt := rfl
@[simp] theorem Dev.modKeys_pmc (s : Dev) (f : Keys → Keys) : (s.modKeys f).pmc = s.pmc := rfl
@[simp] theorem Dev.modKeys_tugs (s : Dev) (f : Keys → Keys) : (s.modKeys f).tugs = s.tugs := rfl
@[simp] theorem Dev.modKeys_lanes (s : Dev) (f : Keys → Keys) : (s.modKeys f).lanes = s.lanes := rfl
@[simp] theorem Dev.modKeys_ports (s : Dev) (f : Keys → Keys) : (s.modKeys f).ports = s.ports := rfl
@[simp] theorem Dev.modKeys_sel (s : Dev) (f : Keys → Keys) : (s.modKeys f).sel = s.sel := rfl
@[simp] theorem Dev.modKeys_awl (s : Dev) (f : Keys → Keys) : (s.modKeys f).awl = s.awl := rfl
@[simp] theorem Dev.modKeys_gnss (s : Dev) (f : Keys → Keys) : (s.modKeys f).gnss = s.gnss := rfl
@[simp] theorem Dev.modKeys_keep (s : Dev) (f : Keys → Keys) : (s.modKeys f).keep = s.keep := rfl
@[simp] theorem Dev.modKeys_ebe (s : Dev) (f : Keys → Keys) : (s.modKeys f).ebe = s.ebe := rfl
@[simp] theorem Dev.modKeys_pair (s : Dev) (f : Keys → Keys) : (s.modKeys f).pair = s.pair := rfl
@[simp] theorem Dev.modKeys_power (s : Dev) (f : Keys → Keys) : (s.modKeys f).power = s.power := rfl
@[simp] theorem Dev.modKeys_update (s : Dev) (f : Keys → Keys) : (s.modKeys f).update = s.update := rfl
@[simp] theorem Dev.modKeys_ageing (s : Dev) (f : Keys → Keys) : (s.modKeys f).ageing = s.ageing := rfl
@[simp] theorem Dev.modKeys_svc (s : Dev) (f : Keys → Keys) : (s.modKeys f).svc = s.svc := rfl
@[simp] theorem Dev.modKeys_free (s : Dev) (f : Keys → Keys) : (s.modKeys f).free = s.free := rfl
@[simp] theorem Dev.modKeys_out (s : Dev) (f : Keys → Keys) : (s.modKeys f).out = s.out := rfl
@[simp] theorem Dev.modKeys_watch (s : Dev) (f : Keys → Keys) : (s.modKeys f).watch = s.watch := rfl
@[simp] theorem Dev.modKeys_num (s : Dev) (f : Keys → Keys) (key : Nat) : (s.modKeys f).num key = s.num key := rfl

@[simp] theorem Dev.modPower_tick (s : Dev) (f : Power → Power) : (s.modPower f).tick = s.tick := rfl
@[simp] theorem Dev.modPower_cntZero (s : Dev) (f : Power → Power) : (s.modPower f).cntZero = s.cntZero := rfl
@[simp] theorem Dev.modPower_aonTs0 (s : Dev) (f : Power → Power) : (s.modPower f).aonTs0 = s.aonTs0 := rfl
@[simp] theorem Dev.modPower_aonFrom (s : Dev) (f : Power → Power) : (s.modPower f).aonFrom = s.aonFrom := rfl
@[simp] theorem Dev.modPower_od (s : Dev) (f : Power → Power) : (s.modPower f).od = s.od := rfl
@[simp] theorem Dev.modPower_scales (s : Dev) (f : Power → Power) : (s.modPower f).scales = s.scales := rfl
@[simp] theorem Dev.modPower_mode (s : Dev) (f : Power → Power) : (s.modPower f).mode = s.mode := rfl
@[simp] theorem Dev.modPower_acc (s : Dev) (f : Power → Power) : (s.modPower f).acc = s.acc := rfl
@[simp] theorem Dev.modPower_flt (s : Dev) (f : Power → Power) : (s.modPower f).flt = s.flt := rfl
@[simp] theorem Dev.modPower_pmc (s : Dev) (f : Power → Power) : (s.modPower f).pmc = s.pmc := rfl
@[simp] theorem Dev.modPower_tugs (s : Dev) (f : Power → Power) : (s.modPower f).tugs = s.tugs := rfl
@[simp] theorem Dev.modPower_lanes (s : Dev) (f : Power → Power) : (s.modPower f).lanes = s.lanes := rfl
@[simp] theorem Dev.modPower_ports (s : Dev) (f : Power → Power) : (s.modPower f).ports = s.ports := rfl
@[simp] theorem Dev.modPower_sel (s : Dev) (f : Power → Power) : (s.modPower f).sel = s.sel := rfl
@[simp] theorem Dev.modPower_awl (s : Dev) (f : Power → Power) : (s.modPower f).awl = s.awl := rfl
@[simp] theorem Dev.modPower_gnss (s : Dev) (f : Power → Power) : (s.modPower f).gnss = s.gnss := rfl
@[simp] theorem Dev.modPower_keep (s : Dev) (f : Power → Power) : (s.modPower f).keep = s.keep := rfl
@[simp] theorem Dev.modPower_ebe (s : Dev) (f : Power → Power) : (s.modPower f).ebe = s.ebe := rfl
@[simp] theorem Dev.modPower_keys (s : Dev) (f : Power → Power) : (s.modPower f).keys = s.keys := rfl
@[simp] theorem Dev.modPower_pair (s : Dev) (f : Power → Power) : (s.modPower f).pair = s.pair := rfl
@[simp] theorem Dev.modPower_update (s : Dev) (f : Power → Power) : (s.modPower f).update = s.update := rfl
@[simp] theorem Dev.modPower_ageing (s : Dev) (f : Power → Power) : (s.modPower f).ageing = s.ageing := rfl
@[simp] theorem Dev.modPower_svc (s : Dev) (f : Power → Power) : (s.modPower f).svc = s.svc := rfl
@[simp] theorem Dev.modPower_free (s : Dev) (f : Power → Power) : (s.modPower f).free = s.free := rfl
@[simp] theorem Dev.modPower_out (s : Dev) (f : Power → Power) : (s.modPower f).out = s.out := rfl
@[simp] theorem Dev.modPower_watch (s : Dev) (f : Power → Power) : (s.modPower f).watch = s.watch := rfl
@[simp] theorem Dev.modPower_num (s : Dev) (f : Power → Power) (key : Nat) : (s.modPower f).num key = s.num key := rfl

@[simp] theorem Dev.modScale_tick (s : Dev) (n : Nat) (f : Scale → Scale) : (s.modScale n f).tick = s.tick := rfl
@[simp] theorem Dev.modScale_cntZero (s : Dev) (n : Nat) (f : Scale → Scale) : (s.modScale n f).cntZero = s.cntZero := rfl
@[simp] theorem Dev.modScale_aonTs0 (s : Dev) (n : Nat) (f : Scale → Scale) : (s.modScale n f).aonTs0 = s.aonTs0 := rfl
@[simp] theorem Dev.modScale_aonFrom (s : Dev) (n : Nat) (f : Scale → Scale) : (s.modScale n f).aonFrom = s.aonFrom := rfl
@[simp] theorem Dev.modScale_od (s : Dev) (n : Nat) (f : Scale → Scale) : (s.modScale n f).od = s.od := rfl
@[simp] theorem Dev.modScale_mode (s : Dev) (n : Nat) (f : Scale → Scale) : (s.modScale n f).mode = s.mode := rfl
@[simp] theorem Dev.modScale_acc (s : Dev) (n : Nat) (f : Scale → Scale) : (s.modScale n f).acc = s.acc := rfl
@[simp] theorem Dev.modScale_flt (s : Dev) (n : Nat) (f : Scale → Scale) : (s.modScale n f).flt = s.flt := rfl
@[simp] theorem Dev.modScale_pmc (s : Dev) (n : Nat) (f : Scale → Scale) : (s.modScale n f).pmc = s.pmc := rfl
@[simp] theorem Dev.modScale_tugs (s : Dev) (n : Nat) (f : Scale → Scale) : (s.modScale n f).tugs = s.tugs := rfl
@[simp] theorem Dev.modScale_lanes (s : Dev) (n : Nat) (f : Scale → Scale) : (s.modScale n f).lanes = s.lanes := rfl
@[simp] theorem Dev.modScale_ports (s : Dev) (n : Nat) (f : Scale → Scale) : (s.modScale n f).ports = s.ports := rfl
@[simp] theorem Dev.modScale_sel (s : Dev) (n : Nat) (f : Scale → Scale) : (s.modScale n f).sel = s.sel := rfl
@[simp] theorem Dev.modScale_awl (s : Dev) (n : Nat) (f : Scale → Scale) : (s.modScale n f).awl = s.awl := rfl
@[simp] theorem Dev.modScale_gnss (s : Dev) (n : Nat) (f : Scale → Scale) : (s.modScale n f).gnss = s.gnss := rfl
@[simp] theorem Dev.modScale_keep (s : Dev) (n : Nat) (f : Scale → Scale) : (s.modScale n f).keep = s.keep := rfl
@[simp] theorem Dev.modScale_ebe (s : Dev) (n : Nat) (f : Scale → Scale) : (s.modScale n f).ebe = s.ebe := rfl
@[simp] theorem Dev.modScale_keys (s : Dev) (n : Nat) (f : Scale → Scale) : (s.modScale n f).keys = s.keys := rfl
@[simp] theorem Dev.modScale_pair (s : Dev) (n : Nat) (f : Scale → Scale) : (s.modScale n f).pair = s.pair := rfl
@[simp] theorem Dev.modScale_power (s : Dev) (n : Nat) (f : Scale → Scale) : (s.modScale n f).power = s.power := rfl
@[simp] theorem Dev.modScale_update (s : Dev) (n : Nat) (f : Scale → Scale) : (s.modScale n f).update = s.update := rfl
@[simp] theorem Dev.modScale_ageing (s : Dev) (n : Nat) (f : Scale → Scale) : (s.modScale n f).ageing = s.ageing := rfl
@[simp] theorem Dev.modScale_svc (s : Dev) (n : Nat) (f : Scale → Scale) : (s.modScale n f).svc = s.svc := rfl
@[simp] theorem Dev.modScale_free (s : Dev) (n : Nat) (f : Scale → Scale) : (s.modScale n f).free = s.free := rfl
@[simp] theorem Dev.modScale_out (s : Dev) (n : Nat) (f : Scale → Scale) : (s.modScale n f).out = s.out := rfl
@[simp] theorem Dev.modScale_watch (s : Dev) (n : Nat) (f : Scale → Scale) : (s.modScale n f).watch = s.watch := rfl
@[simp] theorem Dev.modScale_num (s : Dev) (n : Nat) (f : Scale → Scale) (key : Nat) : (s.modScale n f).num key = s.num key := rfl

@[simp] theorem Dev.mark_tick (s : Dev) (n val inc : Nat) : (s.mark n val inc).tick = s.tick := rfl
@[simp] theorem Dev.mark_cntZero (s : Dev) (n val inc : Nat) : (s.mark n val inc).cntZero = s.cntZero := rfl
@[simp] theorem Dev.mark_aonTs0 (s : Dev) (n val inc : Nat) : (s.mark n val inc).aonTs0 = s.aonTs0 := rfl
@[simp] theorem Dev.mark_aonFrom (s : Dev) (n val inc : Nat) : (s.mark n val inc).aonFrom = s.aonFrom := rfl
@[simp] theorem Dev.mark_od (s : Dev) (n val inc : Nat) : (s.mark n val inc).od = s.od := rfl
@[simp] theorem Dev.mark_mode (s : Dev) (n val inc : Nat) : (s.mark n val inc).mode = s.mode := rfl
@[simp] theorem Dev.mark_acc (s : Dev) (n val inc : Nat) : (s.mark n val inc).acc = s.acc := rfl
@[simp] theorem Dev.mark_flt (s : Dev) (n val inc : Nat) : (s.mark n val inc).flt = s.flt := rfl
@[simp] theorem Dev.mark_pmc (s : Dev) (n val inc : Nat) : (s.mark n val inc).pmc = s.pmc := rfl
@[simp] theorem Dev.mark_tugs (s : Dev) (n val inc : Nat) : (s.mark n val inc).tugs = s.tugs := rfl
@[simp] theorem Dev.mark_lanes (s : Dev) (n val inc : Nat) : (s.mark n val inc).lanes = s.lanes := rfl
@[simp] theorem Dev.mark_ports (s : Dev) (n val inc : Nat) : (s.mark n val inc).ports = s.ports := rfl
@[simp] theorem Dev.mark_sel (s : Dev) (n val inc : Nat) : (s.mark n val inc).sel = s.sel := rfl
@[simp] theorem Dev.mark_awl (s : Dev) (n val inc : Nat) : (s.mark n val inc).awl = s.awl := rfl
@[simp] theorem Dev.mark_gnss (s : Dev) (n val inc : Nat) : (s.mark n val inc).gnss = s.gnss := rfl
@[simp] theorem Dev.mark_keep (s : Dev) (n val inc : Nat) : (s.mark n val inc).keep = s.keep := rfl
@[simp] theorem Dev.mark_ebe (s : Dev) (n val inc : Nat) : (s.mark n val inc).ebe = s.ebe := rfl
@[simp] theorem Dev.mark_keys (s : Dev) (n val inc : Nat) : (s.mark n val inc).keys = s.keys := rfl
@[simp] theorem Dev.mark_pair (s : Dev) (n val inc : Nat) : (s.mark n val inc).pair = s.pair := rfl
@[simp] theorem Dev.mark_power (s : Dev) (n val inc : Nat) : (s.mark n val inc).power = s.power := rfl
@[simp] theorem Dev.mark_update (s : Dev) (n val inc : Nat) : (s.mark n val inc).update = s.update := rfl
@[simp] theorem Dev.mark_ageing (s : Dev) (n val inc : Nat) : (s.mark n val inc).ageing = s.ageing := rfl
@[simp] theorem Dev.mark_svc (s : Dev) (n val inc : Nat) : (s.mark n val inc).svc = s.svc := rfl
@[simp] theorem Dev.mark_free (s : Dev) (n val inc : Nat) : (s.mark n val inc).free = s.free := rfl
@[simp] theorem Dev.mark_out (s : Dev) (n val inc : Nat) : (s.mark n val inc).out = s.out := rfl
@[simp] theorem Dev.mark_watch (s : Dev) (n val inc : Nat) : (s.mark n val inc).watch = s.watch := rfl
@[simp] theorem Dev.mark_num (s : Dev) (n val inc : Nat) (key : Nat) : (s.mark n val inc).num key = s.num key := rfl

@[simp] theorem Dev.putMine_tick (s : Dev) (q : Req) (k : Nat) (v : Int) : (s.putMine q k v).tick = s.tick := rfl
@[simp] theorem Dev.putMine_cntZero (s : Dev) (q : Req) (k : Nat) (v : Int) : (s.putMine q k v).cntZero = s.cntZero := rfl
@[simp] theorem Dev.putMine_aonTs0 (s : Dev) (q : Req) (k : Nat) (v : Int) : (s.putMine q k v).aonTs0 = s.aonTs0 := rfl
@[simp] theorem Dev.putMine_aonFrom (s : Dev) (q : Req) (k : Nat) (v : Int) : (s.putMine q k v).aonFrom = s.aonFrom := rfl
@[simp] theorem Dev.putMine_od (s : Dev) (q : Req) (k : Nat) (v : Int) : (s.putMine q k v).od = s.od := rfl
@[simp] theorem Dev.putMine_scales (s : Dev) (q : Req) (k : Nat) (v : Int) : (s.putMine q k v).scales = s.scales := rfl
@[simp] theorem Dev.putMine_mode (s : Dev) (q : Req) (k : Nat) (v : Int) : (s.putMine q k v).mode = s.mode := rfl
@[simp] theorem Dev.putMine_flt (s : Dev) (q : Req) (k : Nat) (v : Int) : (s.putMine q k v).flt = s.flt := rfl
@[simp] theorem Dev.putMine_pmc (s : Dev) (q : Req) (k : Nat) (v : Int) : (s.putMine q k v).pmc = s.pmc := rfl
@[simp] theorem Dev.putMine_tugs (s : Dev) (q : Req) (k : Nat) (v : Int) : (s.putMine q k v).tugs = s.tugs := rfl
@[simp] theorem Dev.putMine_lanes (s : Dev) (q : Req) (k : Nat) (v : Int) : (s.putMine q k v).lanes = s.lanes := rfl
@[simp] theorem Dev.putMine_ports (s : Dev) (q : Req) (k : Nat) (v : Int) : (s.putMine q k v).ports = s.ports := rfl
@[simp] theorem Dev.putMine_sel (s : Dev) (q : Req) (k : Nat) (v : Int) : (s.putMine q k v).sel = s.sel := rfl
@[simp] theorem Dev.putMine_awl (s : Dev) (q : Req) (k : Nat) (v : Int) : (s.putMine q k v).awl = s.awl := rfl
@[simp] theorem Dev.putMine_gnss (s : Dev) (q : Req) (k : Nat) (v : Int) : (s.putMine q k v).gnss = s.gnss := rfl
@[simp] theorem Dev.putMine_keep (s : Dev) (q : Req) (k : Nat) (v : Int) : (s.putMine q k v).keep = s.keep := rfl
@[simp] theorem Dev.putMine_ebe (s : Dev) (q : Req) (k : Nat) (v : Int) : (s.putMine q k v).ebe = s.ebe := rfl
@[simp] theorem Dev.putMine_keys (s : Dev) (q : Req) (k : Nat) (v : Int) : (s.putMine q k v).keys = s.keys := rfl
@[simp] theorem Dev.putMine_pair (s : Dev) (q : Req) (k : Nat) (v : Int) : (s.putMine q k v).pair = s.pair := rfl
@[simp] theorem Dev.putMine_power (s : Dev) (q : Req) (k : Nat) (v : Int) : (s.putMine q k v).power = s.power := rfl
@[simp] theorem Dev.putMine_update (s : Dev) (q : Req) (k : Nat) (v : Int) : (s.putMine q k v).update = s.update := rfl
@[simp] theorem Dev.putMine_ageing (s : Dev) (q : Req) (k : Nat) (v : Int) : (s.putMine q k v).ageing = s.ageing := rfl
@[simp] theorem Dev.putMine_svc (s : Dev) (q : Req) (k : Nat) (v : Int) : (s.putMine q k v).svc = s.svc := rfl
@[simp] theorem Dev.putMine_free (s : Dev) (q : Req) (k : Nat) (v : Int) : (s.putMine q k v).free = s.free := rfl
@[simp] theorem Dev.putMine_out (s : Dev) (q : Req) (k : Nat) (v : Int) : (s.putMine q k v).out = s.out := rfl
@[simp] theorem Dev.putMine_watch (s : Dev) (q : Req) (k : Nat) (v : Int) : (s.putMine q k v).watch = s.watch := rfl
@[simp] theorem Dev.putMine_num (s : Dev) (q : Req) (k : Nat) (v : Int) (key : Nat) : (s.putMine q k v).num key = s.num key := rfl

@[simp] theorem Dev.modFrec_tick (s : Dev) (src : Nat) (f : FRec → FRec) : (s.modFrec src f).tick = s.tick := rfl
@[simp] theorem Dev.modFrec_cntZero (s : Dev) (src : Nat) (f : FRec → FRec) : (s.modFrec src f).cntZero = s.cntZero := rfl
@[simp] theorem Dev.modFrec_aonTs0 (s : Dev) (src : Nat) (f : FRec → FRec) : (s.modFrec src f).aonTs0 = s.aonTs0 := rfl
@[simp] theorem Dev.modFrec_aonFrom (s : Dev) (src : Nat) (f : FRec → FRec) : (s.modFrec src f).aonFrom = s.aonFrom := rfl
@[simp] theorem Dev.modFrec_od (s : Dev) (src : Nat) (f : FRec → FRec) : (s.modFrec src f).od = s.od := rfl
@[simp] theorem Dev.modFrec_scales (s : Dev) (src : Nat) (f : FRec → FRec) : (s.modFrec src f).scales = s.scales := rfl
@[simp] theorem Dev.modFrec_mode (s : Dev) (src : Nat) (f : FRec → FRec) : (s.modFrec src f).mode = s.mode := rfl
@[simp] theorem Dev.modFrec_acc (s : Dev) (src : Nat) (f : FRec → FRec) : (s.modFrec src f).acc = s.acc := rfl
@[simp] theorem Dev.modFrec_pmc (s : Dev) (src : Nat) (f : FRec → FRec) : (s.modFrec src f).pmc = s.pmc := rfl
@[simp] theorem Dev.modFrec_tugs (s : Dev) (src : Nat) (f : FRec → FRec) : (s.modFrec src f).tugs = s.tugs := rfl
@[simp] theorem Dev.modFrec_lanes (s : Dev) (src : Nat) (f : FRec → FRec) : (s.modFrec src f).lanes = s.lanes := rfl
@[simp] theorem Dev.modFrec_ports (s : Dev) (src : Nat) (f : FRec → FRec) : (s.modFrec src f).ports = s.ports := rfl
@[simp] theorem Dev.modFrec_sel (s : Dev) (src : Nat) (f : FRec → FRec) : (s.modFrec src f).sel = s.sel := rfl
@[simp] theorem Dev.modFrec_awl (s : Dev) (src : Nat) (f : FRec → FRec) : (s.modFrec src f).awl = s.awl := rfl
@[simp] theorem Dev.modFrec_gnss (s : Dev) (src : Nat) (f : FRec → FRec) : (s.modFrec src f).gnss = s.gnss := rfl
@[simp] theorem Dev.modFrec_keep (s : Dev) (src : Nat) (f : FRec → FRec) : (s.modFrec src f).keep = s.keep := rfl
@[simp] theorem Dev.modFrec_ebe (s : Dev) (src : Nat) (f : FRec → FRec) : (s.modFrec src f).ebe = s.ebe := rfl
@[simp] theorem Dev.modFrec_keys (s : Dev) (src : Nat) (f : FRec → FRec) : (s.modFrec src f).keys = s.keys := rfl
@[simp] theorem Dev.modFrec_pair (s : Dev) (src : Nat) (f : FRec → FRec) : (s.modFrec src f).pair = s.pair := rfl
@[simp] theorem Dev.modFrec_power (s : Dev) (src : Nat) (f : FRec → FRec) : (s.modFrec src f).power = s.power := rfl
@[simp] theorem Dev.modFrec_update (s : Dev) (src : Nat) (f : FRec → FRec) : (s.modFrec src f).update = s.update := rfl
@[simp] theorem Dev.modFrec_ageing (s : Dev) (src : Nat) (f : FRec → FRec) : (s.modFrec src f).ageing = s.ageing := rfl
@[simp] theorem Dev.modFrec_svc (s : Dev) (src : Nat) (f : FRec → FRec) : (s.modFrec src f).svc = s.svc := rfl
@[simp] theorem Dev.modFrec_free (s : Dev) (src : Nat) (f : FRec → FRec) : (s.modFrec src f).free = s.free := rfl
@[simp] theorem Dev.modFrec_out (s : Dev) (src : Nat) (f : FRec → FRec) : (s.modFrec src f).out = s.out := rfl
@[simp] theorem Dev.modFrec_watch (s : Dev) (src : Nat) (f : FRec → FRec) : (s.modFrec src f).watch = s.watch := rfl
@[simp] theorem Dev.modFrec_num (s : Dev) (src : Nat) (f : FRec → FRec) (key : Nat) : (s.modFrec src f).num key = s.num key := rfl

@[simp] theorem Dev.reportAt_tick (s : Dev) (src detail tick : Nat) (b : Bool) : (s.reportAt src detail tick b).tick = s.tick := rfl
@[simp] theorem Dev.reportAt_cntZero (s : Dev) (src detail tick : Nat) (b : Bool) : (s.reportAt src detail tick b).cntZero = s.cntZero := rfl
@[simp] theorem Dev.reportAt_aonTs0 (s : Dev) (src detail tick : Nat) (b : Bool) : (s.reportAt src detail tick b).aonTs0 = s.aonTs0 := rfl
@[simp] theorem Dev.reportAt_aonFrom (s : Dev) (src detail tick : Nat) (b : Bool) : (s.reportAt src detail tick b).aonFrom = s.aonFrom := rfl
@[simp] theorem Dev.reportAt_od (s : Dev) (src detail tick : Nat) (b : Bool) : (s.reportAt src detail tick b).od = s.od := rfl
@[simp] theorem Dev.reportAt_scales (s : Dev) (src detail tick : Nat) (b : Bool) : (s.reportAt src detail tick b).scales = s.scales := rfl
@[simp] theorem Dev.reportAt_mode (s : Dev) (src detail tick : Nat) (b : Bool) : (s.reportAt src detail tick b).mode = s.mode := rfl
@[simp] theorem Dev.reportAt_acc (s : Dev) (src detail tick : Nat) (b : Bool) : (s.reportAt src detail tick b).acc = s.acc := rfl
@[simp] theorem Dev.reportAt_pmc (s : Dev) (src detail tick : Nat) (b : Bool) : (s.reportAt src detail tick b).pmc = s.pmc := rfl
@[simp] theorem Dev.reportAt_tugs (s : Dev) (src detail tick : Nat) (b : Bool) : (s.reportAt src detail tick b).tugs = s.tugs := rfl
@[simp] theorem Dev.reportAt_lanes (s : Dev) (src detail tick : Nat) (b : Bool) : (s.reportAt src detail tick b).lanes = s.lanes := rfl
@[simp] theorem Dev.reportAt_ports (s : Dev) (src detail tick : Nat) (b : Bool) : (s.reportAt src detail tick b).ports = s.ports := rfl
@[simp] theorem Dev.reportAt_sel (s : Dev) (src detail tick : Nat) (b : Bool) : (s.reportAt src detail tick b).sel = s.sel := rfl
@[simp] theorem Dev.reportAt_awl (s : Dev) (src detail tick : Nat) (b : Bool) : (s.reportAt src detail tick b).awl = s.awl := rfl
@[simp] theorem Dev.reportAt_gnss (s : Dev) (src detail tick : Nat) (b : Bool) : (s.reportAt src detail tick b).gnss = s.gnss := rfl
@[simp] theorem Dev.reportAt_keep (s : Dev) (src detail tick : Nat) (b : Bool) : (s.reportAt src detail tick b).keep = s.keep := rfl
@[simp] theorem Dev.reportAt_ebe (s : Dev) (src detail tick : Nat) (b : Bool) : (s.reportAt src detail tick b).ebe = s.ebe := rfl
@[simp] theorem Dev.reportAt_keys (s : Dev) (src detail tick : Nat) (b : Bool) : (s.reportAt src detail tick b).keys = s.keys := rfl
@[simp] theorem Dev.reportAt_pair (s : Dev) (src detail tick : Nat) (b : Bool) : (s.reportAt src detail tick b).pair = s.pair := rfl
@[simp] theorem Dev.reportAt_power (s : Dev) (src detail tick : Nat) (b : Bool) : (s.reportAt src detail tick b).power = s.power := rfl
@[simp] theorem Dev.reportAt_update (s : Dev) (src detail tick : Nat) (b : Bool) : (s.reportAt src detail tick b).update = s.update := rfl
@[simp] theorem Dev.reportAt_ageing (s : Dev) (src detail tick : Nat) (b : Bool) : (s.reportAt src detail tick b).ageing = s.ageing := rfl
@[simp] theorem Dev.reportAt_svc (s : Dev) (src detail tick : Nat) (b : Bool) : (s.reportAt src detail tick b).svc = s.svc := rfl
@[simp] theorem Dev.reportAt_free (s : Dev) (src detail tick : Nat) (b : Bool) : (s.reportAt src detail tick b).free = s.free := rfl
@[simp] theorem Dev.reportAt_out (s : Dev) (src detail tick : Nat) (b : Bool) : (s.reportAt src detail tick b).out = s.out := rfl
@[simp] theorem Dev.reportAt_watch (s : Dev) (src detail tick : Nat) (b : Bool) : (s.reportAt src detail tick b).watch = s.watch := rfl
@[simp] theorem Dev.reportAt_num (s : Dev) (src detail tick : Nat) (b : Bool) (key : Nat) : (s.reportAt src detail tick b).num key = s.num key := rfl

@[simp] theorem Dev.report_tick (s : Dev) (src detail : Nat) : (s.report src detail).tick = s.tick := rfl
@[simp] theorem Dev.report_cntZero (s : Dev) (src detail : Nat) : (s.report src detail).cntZero = s.cntZero := rfl
@[simp] theorem Dev.report_aonTs0 (s : Dev) (src detail : Nat) : (s.report src detail).aonTs0 = s.aonTs0 := rfl
@[simp] theorem Dev.report_aonFrom (s : Dev) (src detail : Nat) : (s.report src detail).aonFrom = s.aonFrom := rfl
@[simp] theorem Dev.report_od (s : Dev) (src detail : Nat) : (s.report src detail).od = s.od := rfl
@[simp] theorem Dev.report_scales (s : Dev) (src detail : Nat) : (s.report src detail).scales = s.scales := rfl
@[simp] theorem Dev.report_mode (s : Dev) (src detail : Nat) : (s.report src detail).mode = s.mode := rfl
@[simp] theorem Dev.report_acc (s : Dev) (src detail : Nat) : (s.report src detail).acc = s.acc := rfl
@[simp] theorem Dev.report_pmc (s : Dev) (src detail : Nat) : (s.report src detail).pmc = s.pmc := rfl
@[simp] theorem Dev.report_tugs (s : Dev) (src detail : Nat) : (s.report src detail).tugs = s.tugs := rfl
@[simp] theorem Dev.report_lanes (s : Dev) (src detail : Nat) : (s.report src detail).lanes = s.lanes := rfl
@[simp] theorem Dev.report_ports (s : Dev) (src detail : Nat) : (s.report src detail).ports = s.ports := rfl
@[simp] theorem Dev.report_sel (s : Dev) (src detail : Nat) : (s.report src detail).sel = s.sel := rfl
@[simp] theorem Dev.report_awl (s : Dev) (src detail : Nat) : (s.report src detail).awl = s.awl := rfl
@[simp] theorem Dev.report_gnss (s : Dev) (src detail : Nat) : (s.report src detail).gnss = s.gnss := rfl
@[simp] theorem Dev.report_keep (s : Dev) (src detail : Nat) : (s.report src detail).keep = s.keep := rfl
@[simp] theorem Dev.report_ebe (s : Dev) (src detail : Nat) : (s.report src detail).ebe = s.ebe := rfl
@[simp] theorem Dev.report_keys (s : Dev) (src detail : Nat) : (s.report src detail).keys = s.keys := rfl
@[simp] theorem Dev.report_pair (s : Dev) (src detail : Nat) : (s.report src detail).pair = s.pair := rfl
@[simp] theorem Dev.report_power (s : Dev) (src detail : Nat) : (s.report src detail).power = s.power := rfl
@[simp] theorem Dev.report_update (s : Dev) (src detail : Nat) : (s.report src detail).update = s.update := rfl
@[simp] theorem Dev.report_ageing (s : Dev) (src detail : Nat) : (s.report src detail).ageing = s.ageing := rfl
@[simp] theorem Dev.report_svc (s : Dev) (src detail : Nat) : (s.report src detail).svc = s.svc := rfl
@[simp] theorem Dev.report_free (s : Dev) (src detail : Nat) : (s.report src detail).free = s.free := rfl
@[simp] theorem Dev.report_out (s : Dev) (src detail : Nat) : (s.report src detail).out = s.out := rfl
@[simp] theorem Dev.report_watch (s : Dev) (src detail : Nat) : (s.report src detail).watch = s.watch := rfl
@[simp] theorem Dev.report_num (s : Dev) (src detail : Nat) (key : Nat) : (s.report src detail).num key = s.num key := rfl

@[simp] theorem Dev.modAwl_tick (s : Dev) (f : Awl → Awl) : (s.modAwl f).tick = s.tick := rfl
@[simp] theorem Dev.modAwl_cntZero (s : Dev) (f : Awl → Awl) : (s.modAwl f).cntZero = s.cntZero := rfl
@[simp] theorem Dev.modAwl_aonTs0 (s : Dev) (f : Awl → Awl) : (s.modAwl f).aonTs0 = s.aonTs0 := rfl
@[simp] theorem Dev.modAwl_aonFrom (s : Dev) (f : Awl → Awl) : (s.modAwl f).aonFrom = s.aonFrom := rfl
@[simp] theorem Dev.modAwl_od (s : Dev) (f : Awl → Awl) : (s.modAwl f).od = s.od := rfl
@[simp] theorem Dev.modAwl_scales (s : Dev) (f : Awl → Awl) : (s.modAwl f).scales = s.scales := rfl
@[simp] theorem Dev.modAwl_mode (s : Dev) (f : Awl → Awl) : (s.modAwl f).mode = s.mode := rfl
@[simp] theorem Dev.modAwl_acc (s : Dev) (f : Awl → Awl) : (s.modAwl f).acc = s.acc := rfl
@[simp] theorem Dev.modAwl_flt (s : Dev) (f : Awl → Awl) : (s.modAwl f).flt = s.flt := rfl
@[simp] theorem Dev.modAwl_pmc (s : Dev) (f : Awl → Awl) : (s.modAwl f).pmc = s.pmc := rfl
@[simp] theorem Dev.modAwl_tugs (s : Dev) (f : Awl → Awl) : (s.modAwl f).tugs = s.tugs := rfl
@[simp] theorem Dev.modAwl_lanes (s : Dev) (f : Awl → Awl) : (s.modAwl f).lanes = s.lanes := rfl
@[simp] theorem Dev.modAwl_ports (s : Dev) (f : Awl → Awl) : (s.modAwl f).ports = s.ports := rfl
@[simp] theorem Dev.modAwl_sel (s : Dev) (f : Awl → Awl) : (s.modAwl f).sel = s.sel := rfl
@[simp] theorem Dev.modAwl_gnss (s : Dev) (f : Awl → Awl) : (s.modAwl f).gnss = s.gnss := rfl
@[simp] theorem Dev.modAwl_keep (s : Dev) (f : Awl → Awl) : (s.modAwl f).keep = s.keep := rfl
@[simp] theorem Dev.modAwl_ebe (s : Dev) (f : Awl → Awl) : (s.modAwl f).ebe = s.ebe := rfl
@[simp] theorem Dev.modAwl_keys (s : Dev) (f : Awl → Awl) : (s.modAwl f).keys = s.keys := rfl
@[simp] theorem Dev.modAwl_pair (s : Dev) (f : Awl → Awl) : (s.modAwl f).pair = s.pair := rfl
@[simp] theorem Dev.modAwl_power (s : Dev) (f : Awl → Awl) : (s.modAwl f).power = s.power := rfl
@[simp] theorem Dev.modAwl_update (s : Dev) (f : Awl → Awl) : (s.modAwl f).update = s.update := rfl
@[simp] theorem Dev.modAwl_ageing (s : Dev) (f : Awl → Awl) : (s.modAwl f).ageing = s.ageing := rfl
@[simp] theorem Dev.modAwl_svc (s : Dev) (f : Awl → Awl) : (s.modAwl f).svc = s.svc := rfl
@[simp] theorem Dev.modAwl_free (s : Dev) (f : Awl → Awl) : (s.modAwl f).free = s.free := rfl
@[simp] theorem Dev.modAwl_out (s : Dev) (f : Awl → Awl) : (s.modAwl f).out = s.out := rfl
@[simp] theorem Dev.modAwl_watch (s : Dev) (f : Awl → Awl) : (s.modAwl f).watch = s.watch := rfl
@[simp] theorem Dev.modAwl_num (s : Dev) (f : Awl → Awl) (key : Nat) : (s.modAwl f).num key = s.num key := rfl

@[simp] theorem Dev.modCap_tick (s : Dev) (n : Nat) (f : Capture → Capture) : (s.modCap n f).tick = s.tick := rfl
@[simp] theorem Dev.modCap_cntZero (s : Dev) (n : Nat) (f : Capture → Capture) : (s.modCap n f).cntZero = s.cntZero := rfl
@[simp] theorem Dev.modCap_aonTs0 (s : Dev) (n : Nat) (f : Capture → Capture) : (s.modCap n f).aonTs0 = s.aonTs0 := rfl
@[simp] theorem Dev.modCap_aonFrom (s : Dev) (n : Nat) (f : Capture → Capture) : (s.modCap n f).aonFrom = s.aonFrom := rfl
@[simp] theorem Dev.modCap_od (s : Dev) (n : Nat) (f : Capture → Capture) : (s.modCap n f).od = s.od := rfl
@[simp] theorem Dev.modCap_scales (s : Dev) (n : Nat) (f : Capture → Capture) : (s.modCap n f).scales = s.scales := rfl
@[simp] theorem Dev.modCap_mode (s : Dev) (n : Nat) (f : Capture → Capture) : (s.modCap n f).mode = s.mode := rfl
@[simp] theorem Dev.modCap_acc (s : Dev) (n : Nat) (f : Capture → Capture) : (s.modCap n f).acc = s.acc := rfl
@[simp] theorem Dev.modCap_flt (s : Dev) (n : Nat) (f : Capture → Capture) : (s.modCap n f).flt = s.flt := rfl
@[simp] theorem Dev.modCap_pmc (s : Dev) (n : Nat) (f : Capture → Capture) : (s.modCap n f).pmc = s.pmc := rfl
@[simp] theorem Dev.modCap_tugs (s : Dev) (n : Nat) (f : Capture → Capture) : (s.modCap n f).tugs = s.tugs := rfl
@[simp] theorem Dev.modCap_lanes (s : Dev) (n : Nat) (f : Capture → Capture) : (s.modCap n f).lanes = s.lanes := rfl
@[simp] theorem Dev.modCap_ports (s : Dev) (n : Nat) (f : Capture → Capture) : (s.modCap n f).ports = s.ports := rfl
@[simp] theorem Dev.modCap_sel (s : Dev) (n : Nat) (f : Capture → Capture) : (s.modCap n f).sel = s.sel := rfl
@[simp] theorem Dev.modCap_gnss (s : Dev) (n : Nat) (f : Capture → Capture) : (s.modCap n f).gnss = s.gnss := rfl
@[simp] theorem Dev.modCap_keep (s : Dev) (n : Nat) (f : Capture → Capture) : (s.modCap n f).keep = s.keep := rfl
@[simp] theorem Dev.modCap_ebe (s : Dev) (n : Nat) (f : Capture → Capture) : (s.modCap n f).ebe = s.ebe := rfl
@[simp] theorem Dev.modCap_keys (s : Dev) (n : Nat) (f : Capture → Capture) : (s.modCap n f).keys = s.keys := rfl
@[simp] theorem Dev.modCap_pair (s : Dev) (n : Nat) (f : Capture → Capture) : (s.modCap n f).pair = s.pair := rfl
@[simp] theorem Dev.modCap_power (s : Dev) (n : Nat) (f : Capture → Capture) : (s.modCap n f).power = s.power := rfl
@[simp] theorem Dev.modCap_update (s : Dev) (n : Nat) (f : Capture → Capture) : (s.modCap n f).update = s.update := rfl
@[simp] theorem Dev.modCap_ageing (s : Dev) (n : Nat) (f : Capture → Capture) : (s.modCap n f).ageing = s.ageing := rfl
@[simp] theorem Dev.modCap_svc (s : Dev) (n : Nat) (f : Capture → Capture) : (s.modCap n f).svc = s.svc := rfl
@[simp] theorem Dev.modCap_free (s : Dev) (n : Nat) (f : Capture → Capture) : (s.modCap n f).free = s.free := rfl
@[simp] theorem Dev.modCap_out (s : Dev) (n : Nat) (f : Capture → Capture) : (s.modCap n f).out = s.out := rfl
@[simp] theorem Dev.modCap_watch (s : Dev) (n : Nat) (f : Capture → Capture) : (s.modCap n f).watch = s.watch := rfl
@[simp] theorem Dev.modCap_num (s : Dev) (n : Nat) (f : Capture → Capture) (key : Nat) : (s.modCap n f).num key = s.num key := rfl

@[simp] theorem Dev.modUpdate_tick (s : Dev) (f : Update → Update) : (s.modUpdate f).tick = s.tick := rfl
@[simp] theorem Dev.modUpdate_cntZero (s : Dev) (f : Update → Update) : (s.modUpdate f).cntZero = s.cntZero := rfl
@[simp] theorem Dev.modUpdate_aonTs0 (s : Dev) (f : Update → Update) : (s.modUpdate f).aonTs0 = s.aonTs0 := rfl
@[simp] theorem Dev.modUpdate_aonFrom (s : Dev) (f : Update → Update) : (s.modUpdate f).aonFrom = s.aonFrom := rfl
@[simp] theorem Dev.modUpdate_od (s : Dev) (f : Update → Update) : (s.modUpdate f).od = s.od := rfl
@[simp] theorem Dev.modUpdate_scales (s : Dev) (f : Update → Update) : (s.modUpdate f).scales = s.scales := rfl
@[simp] theorem Dev.modUpdate_mode (s : Dev) (f : Update → Update) : (s.modUpdate f).mode = s.mode := rfl
@[simp] theorem Dev.modUpdate_acc (s : Dev) (f : Update → Update) : (s.modUpdate f).acc = s.acc := rfl
@[simp] theorem Dev.modUpdate_flt (s : Dev) (f : Update → Update) : (s.modUpdate f).flt = s.flt := rfl
@[simp] theorem Dev.modUpdate_pmc (s : Dev) (f : Update → Update) : (s.modUpdate f).pmc = s.pmc := rfl
@[simp] theorem Dev.modUpdate_tugs (s : Dev) (f : Update → Update) : (s.modUpdate f).tugs = s.tugs := rfl
@[simp] theorem Dev.modUpdate_lanes (s : Dev) (f : Update → Update) : (s.modUpdate f).lanes = s.lanes := rfl
@[simp] theorem Dev.modUpdate_ports (s : Dev) (f : Update → Update) : (s.modUpdate f).ports = s.ports := rfl
@[simp] theorem Dev.modUpdate_sel (s : Dev) (f : Update → Update) : (s.modUpdate f).sel = s.sel := rfl
@[simp] theorem Dev.modUpdate_awl (s : Dev) (f : Update → Update) : (s.modUpdate f).awl = s.awl := rfl
@[simp] theorem Dev.modUpdate_gnss (s : Dev) (f : Update → Update) : (s.modUpdate f).gnss = s.gnss := rfl
@[simp] theorem Dev.modUpdate_keep (s : Dev) (f : Update → Update) : (s.modUpdate f).keep = s.keep := rfl
@[simp] theorem Dev.modUpdate_ebe (s : Dev) (f : Update → Update) : (s.modUpdate f).ebe = s.ebe := rfl
@[simp] theorem Dev.modUpdate_keys (s : Dev) (f : Update → Update) : (s.modUpdate f).keys = s.keys := rfl
@[simp] theorem Dev.modUpdate_pair (s : Dev) (f : Update → Update) : (s.modUpdate f).pair = s.pair := rfl
@[simp] theorem Dev.modUpdate_power (s : Dev) (f : Update → Update) : (s.modUpdate f).power = s.power := rfl
@[simp] theorem Dev.modUpdate_ageing (s : Dev) (f : Update → Update) : (s.modUpdate f).ageing = s.ageing := rfl
@[simp] theorem Dev.modUpdate_svc (s : Dev) (f : Update → Update) : (s.modUpdate f).svc = s.svc := rfl
@[simp] theorem Dev.modUpdate_free (s : Dev) (f : Update → Update) : (s.modUpdate f).free = s.free := rfl
@[simp] theorem Dev.modUpdate_out (s : Dev) (f : Update → Update) : (s.modUpdate f).out = s.out := rfl
@[simp] theorem Dev.modUpdate_watch (s : Dev) (f : Update → Update) : (s.modUpdate f).watch = s.watch := rfl
@[simp] theorem Dev.modUpdate_num (s : Dev) (f : Update → Update) (key : Nat) : (s.modUpdate f).num key = s.num key := rfl

@[simp] theorem Dev.modGnss_tick (s : Dev) (f : Gnss → Gnss) : (s.modGnss f).tick = s.tick := rfl
@[simp] theorem Dev.modGnss_cntZero (s : Dev) (f : Gnss → Gnss) : (s.modGnss f).cntZero = s.cntZero := rfl
@[simp] theorem Dev.modGnss_aonTs0 (s : Dev) (f : Gnss → Gnss) : (s.modGnss f).aonTs0 = s.aonTs0 := rfl
@[simp] theorem Dev.modGnss_aonFrom (s : Dev) (f : Gnss → Gnss) : (s.modGnss f).aonFrom = s.aonFrom := rfl
@[simp] theorem Dev.modGnss_od (s : Dev) (f : Gnss → Gnss) : (s.modGnss f).od = s.od := rfl
@[simp] theorem Dev.modGnss_scales (s : Dev) (f : Gnss → Gnss) : (s.modGnss f).scales = s.scales := rfl
@[simp] theorem Dev.modGnss_mode (s : Dev) (f : Gnss → Gnss) : (s.modGnss f).mode = s.mode := rfl
@[simp] theorem Dev.modGnss_acc (s : Dev) (f : Gnss → Gnss) : (s.modGnss f).acc = s.acc := rfl
@[simp] theorem Dev.modGnss_flt (s : Dev) (f : Gnss → Gnss) : (s.modGnss f).flt = s.flt := rfl
@[simp] theorem Dev.modGnss_pmc (s : Dev) (f : Gnss → Gnss) : (s.modGnss f).pmc = s.pmc := rfl
@[simp] theorem Dev.modGnss_tugs (s : Dev) (f : Gnss → Gnss) : (s.modGnss f).tugs = s.tugs := rfl
@[simp] theorem Dev.modGnss_lanes (s : Dev) (f : Gnss → Gnss) : (s.modGnss f).lanes = s.lanes := rfl
@[simp] theorem Dev.modGnss_ports (s : Dev) (f : Gnss → Gnss) : (s.modGnss f).ports = s.ports := rfl
@[simp] theorem Dev.modGnss_sel (s : Dev) (f : Gnss → Gnss) : (s.modGnss f).sel = s.sel := rfl
@[simp] theorem Dev.modGnss_awl (s : Dev) (f : Gnss → Gnss) : (s.modGnss f).awl = s.awl := rfl
@[simp] theorem Dev.modGnss_keep (s : Dev) (f : Gnss → Gnss) : (s.modGnss f).keep = s.keep := rfl
@[simp] theorem Dev.modGnss_ebe (s : Dev) (f : Gnss → Gnss) : (s.modGnss f).ebe = s.ebe := rfl
@[simp] theorem Dev.modGnss_keys (s : Dev) (f : Gnss → Gnss) : (s.modGnss f).keys = s.keys := rfl
@[simp] theorem Dev.modGnss_pair (s : Dev) (f : Gnss → Gnss) : (s.modGnss f).pair = s.pair := rfl
@[simp] theorem Dev.modGnss_power (s : Dev) (f : Gnss → Gnss) : (s.modGnss f).power = s.power := rfl
@[simp] theorem Dev.modGnss_update (s : Dev) (f : Gnss → Gnss) : (s.modGnss f).update = s.update := rfl
@[simp] theorem Dev.modGnss_ageing (s : Dev) (f : Gnss → Gnss) : (s.modGnss f).ageing = s.ageing := rfl
@[simp] theorem Dev.modGnss_svc (s : Dev) (f : Gnss → Gnss) : (s.modGnss f).svc = s.svc := rfl
@[simp] theorem Dev.modGnss_free (s : Dev) (f : Gnss → Gnss) : (s.modGnss f).free = s.free := rfl
@[simp] theorem Dev.modGnss_out (s : Dev) (f : Gnss → Gnss) : (s.modGnss f).out = s.out := rfl
@[simp] theorem Dev.modGnss_watch (s : Dev) (f : Gnss → Gnss) : (s.modGnss f).watch = s.watch := rfl
@[simp] theorem Dev.modGnss_num (s : Dev) (f : Gnss → Gnss) (key : Nat) : (s.modGnss f).num key = s.num key := rfl

@[simp] theorem Dev.modAntenna_tick (s : Dev) (a : Nat) (f : Antenna → Antenna) : (s.modAntenna a f).tick = s.tick := rfl
@[simp] theorem Dev.modAntenna_cntZero (s : Dev) (a : Nat) (f : Antenna → Antenna) : (s.modAntenna a f).cntZero = s.cntZero := rfl
@[simp] theorem Dev.modAntenna_aonTs0 (s : Dev) (a : Nat) (f : Antenna → Antenna) : (s.modAntenna a f).aonTs0 = s.aonTs0 := rfl
@[simp] theorem Dev.modAntenna_aonFrom (s : Dev) (a : Nat) (f : Antenna → Antenna) : (s.modAntenna a f).aonFrom = s.aonFrom := rfl
@[simp] theorem Dev.modAntenna_od (s : Dev) (a : Nat) (f : Antenna → Antenna) : (s.modAntenna a f).od = s.od := rfl
@[simp] theorem Dev.modAntenna_scales (s : Dev) (a : Nat) (f : Antenna → Antenna) : (s.modAntenna a f).scales = s.scales := rfl
@[simp] theorem Dev.modAntenna_mode (s : Dev) (a : Nat) (f : Antenna → Antenna) : (s.modAntenna a f).mode = s.mode := rfl
@[simp] theorem Dev.modAntenna_acc (s : Dev) (a : Nat) (f : Antenna → Antenna) : (s.modAntenna a f).acc = s.acc := rfl
@[simp] theorem Dev.modAntenna_flt (s : Dev) (a : Nat) (f : Antenna → Antenna) : (s.modAntenna a f).flt = s.flt := rfl
@[simp] theorem Dev.modAntenna_pmc (s : Dev) (a : Nat) (f : Antenna → Antenna) : (s.modAntenna a f).pmc = s.pmc := rfl
@[simp] theorem Dev.modAntenna_tugs (s : Dev) (a : Nat) (f : Antenna → Antenna) : (s.modAntenna a f).tugs = s.tugs := rfl
@[simp] theorem Dev.modAntenna_lanes (s : Dev) (a : Nat) (f : Antenna → Antenna) : (s.modAntenna a f).lanes = s.lanes := rfl
@[simp] theorem Dev.modAntenna_ports (s : Dev) (a : Nat) (f : Antenna → Antenna) : (s.modAntenna a f).ports = s.ports := rfl
@[simp] theorem Dev.modAntenna_sel (s : Dev) (a : Nat) (f : Antenna → Antenna) : (s.modAntenna a f).sel = s.sel := rfl
@[simp] theorem Dev.modAntenna_awl (s : Dev) (a : Nat) (f : Antenna → Antenna) : (s.modAntenna a f).awl = s.awl := rfl
@[simp] theorem Dev.modAntenna_keep (s : Dev) (a : Nat) (f : Antenna → Antenna) : (s.modAntenna a f).keep = s.keep := rfl
@[simp] theorem Dev.modAntenna_ebe (s : Dev) (a : Nat) (f : Antenna → Antenna) : (s.modAntenna a f).ebe = s.ebe := rfl
@[simp] theorem Dev.modAntenna_keys (s : Dev) (a : Nat) (f : Antenna → Antenna) : (s.modAntenna a f).keys = s.keys := rfl
@[simp] theorem Dev.modAntenna_pair (s : Dev) (a : Nat) (f : Antenna → Antenna) : (s.modAntenna a f).pair = s.pair := rfl
@[simp] theorem Dev.modAntenna_power (s : Dev) (a : Nat) (f : Antenna → Antenna) : (s.modAntenna a f).power = s.power := rfl
@[simp] theorem Dev.modAntenna_update (s : Dev) (a : Nat) (f : Antenna → Antenna) : (s.modAntenna a f).update = s.update := rfl
@[simp] theorem Dev.modAntenna_ageing (s : Dev) (a : Nat) (f : Antenna → Antenna) : (s.modAntenna a f).ageing = s.ageing := rfl
@[simp] theorem Dev.modAntenna_svc (s : Dev) (a : Nat) (f : Antenna → Antenna) : (s.modAntenna a f).svc = s.svc := rfl
@[simp] theorem Dev.modAntenna_free (s : Dev) (a : Nat) (f : Antenna → Antenna) : (s.modAntenna a f).free = s.free := rfl
@[simp] theorem Dev.modAntenna_out (s : Dev) (a : Nat) (f : Antenna → Antenna) : (s.modAntenna a f).out = s.out := rfl
@[simp] theorem Dev.modAntenna_watch (s : Dev) (a : Nat) (f : Antenna → Antenna) : (s.modAntenna a f).watch = s.watch := rfl
@[simp] theorem Dev.modAntenna_num (s : Dev) (a : Nat) (f : Antenna → Antenna) (key : Nat) : (s.modAntenna a f).num key = s.num key := rfl

@[simp] theorem Dev.modLane_tick (s : Dev) (l : Nat) (f : LaneReg → LaneReg) : (s.modLane l f).tick = s.tick := rfl
@[simp] theorem Dev.modLane_cntZero (s : Dev) (l : Nat) (f : LaneReg → LaneReg) : (s.modLane l f).cntZero = s.cntZero := rfl
@[simp] theorem Dev.modLane_aonTs0 (s : Dev) (l : Nat) (f : LaneReg → LaneReg) : (s.modLane l f).aonTs0 = s.aonTs0 := rfl
@[simp] theorem Dev.modLane_aonFrom (s : Dev) (l : Nat) (f : LaneReg → LaneReg) : (s.modLane l f).aonFrom = s.aonFrom := rfl
@[simp] theorem Dev.modLane_od (s : Dev) (l : Nat) (f : LaneReg → LaneReg) : (s.modLane l f).od = s.od := rfl
@[simp] theorem Dev.modLane_scales (s : Dev) (l : Nat) (f : LaneReg → LaneReg) : (s.modLane l f).scales = s.scales := rfl
@[simp] theorem Dev.modLane_mode (s : Dev) (l : Nat) (f : LaneReg → LaneReg) : (s.modLane l f).mode = s.mode := rfl
@[simp] theorem Dev.modLane_acc (s : Dev) (l : Nat) (f : LaneReg → LaneReg) : (s.modLane l f).acc = s.acc := rfl
@[simp] theorem Dev.modLane_flt (s : Dev) (l : Nat) (f : LaneReg → LaneReg) : (s.modLane l f).flt = s.flt := rfl
@[simp] theorem Dev.modLane_pmc (s : Dev) (l : Nat) (f : LaneReg → LaneReg) : (s.modLane l f).pmc = s.pmc := rfl
@[simp] theorem Dev.modLane_tugs (s : Dev) (l : Nat) (f : LaneReg → LaneReg) : (s.modLane l f).tugs = s.tugs := rfl
@[simp] theorem Dev.modLane_ports (s : Dev) (l : Nat) (f : LaneReg → LaneReg) : (s.modLane l f).ports = s.ports := rfl
@[simp] theorem Dev.modLane_sel (s : Dev) (l : Nat) (f : LaneReg → LaneReg) : (s.modLane l f).sel = s.sel := rfl
@[simp] theorem Dev.modLane_awl (s : Dev) (l : Nat) (f : LaneReg → LaneReg) : (s.modLane l f).awl = s.awl := rfl
@[simp] theorem Dev.modLane_gnss (s : Dev) (l : Nat) (f : LaneReg → LaneReg) : (s.modLane l f).gnss = s.gnss := rfl
@[simp] theorem Dev.modLane_keep (s : Dev) (l : Nat) (f : LaneReg → LaneReg) : (s.modLane l f).keep = s.keep := rfl
@[simp] theorem Dev.modLane_ebe (s : Dev) (l : Nat) (f : LaneReg → LaneReg) : (s.modLane l f).ebe = s.ebe := rfl
@[simp] theorem Dev.modLane_keys (s : Dev) (l : Nat) (f : LaneReg → LaneReg) : (s.modLane l f).keys = s.keys := rfl
@[simp] theorem Dev.modLane_pair (s : Dev) (l : Nat) (f : LaneReg → LaneReg) : (s.modLane l f).pair = s.pair := rfl
@[simp] theorem Dev.modLane_power (s : Dev) (l : Nat) (f : LaneReg → LaneReg) : (s.modLane l f).power = s.power := rfl
@[simp] theorem Dev.modLane_update (s : Dev) (l : Nat) (f : LaneReg → LaneReg) : (s.modLane l f).update = s.update := rfl
@[simp] theorem Dev.modLane_ageing (s : Dev) (l : Nat) (f : LaneReg → LaneReg) : (s.modLane l f).ageing = s.ageing := rfl
@[simp] theorem Dev.modLane_svc (s : Dev) (l : Nat) (f : LaneReg → LaneReg) : (s.modLane l f).svc = s.svc := rfl
@[simp] theorem Dev.modLane_free (s : Dev) (l : Nat) (f : LaneReg → LaneReg) : (s.modLane l f).free = s.free := rfl
@[simp] theorem Dev.modLane_out (s : Dev) (l : Nat) (f : LaneReg → LaneReg) : (s.modLane l f).out = s.out := rfl
@[simp] theorem Dev.modLane_watch (s : Dev) (l : Nat) (f : LaneReg → LaneReg) : (s.modLane l f).watch = s.watch := rfl
@[simp] theorem Dev.modLane_num (s : Dev) (l : Nat) (f : LaneReg → LaneReg) (key : Nat) : (s.modLane l f).num key = s.num key := rfl

@[simp] theorem Dev.modPort_tick (s : Dev) (p : Nat) (f : PortReg → PortReg) : (s.modPort p f).tick = s.tick := rfl
@[simp] theorem Dev.modPort_cntZero (s : Dev) (p : Nat) (f : PortReg → PortReg) : (s.modPort p f).cntZero = s.cntZero := rfl
@[simp] theorem Dev.modPort_aonTs0 (s : Dev) (p : Nat) (f : PortReg → PortReg) : (s.modPort p f).aonTs0 = s.aonTs0 := rfl
@[simp] theorem Dev.modPort_aonFrom (s : Dev) (p : Nat) (f : PortReg → PortReg) : (s.modPort p f).aonFrom = s.aonFrom := rfl
@[simp] theorem Dev.modPort_od (s : Dev) (p : Nat) (f : PortReg → PortReg) : (s.modPort p f).od = s.od := rfl
@[simp] theorem Dev.modPort_scales (s : Dev) (p : Nat) (f : PortReg → PortReg) : (s.modPort p f).scales = s.scales := rfl
@[simp] theorem Dev.modPort_mode (s : Dev) (p : Nat) (f : PortReg → PortReg) : (s.modPort p f).mode = s.mode := rfl
@[simp] theorem Dev.modPort_acc (s : Dev) (p : Nat) (f : PortReg → PortReg) : (s.modPort p f).acc = s.acc := rfl
@[simp] theorem Dev.modPort_flt (s : Dev) (p : Nat) (f : PortReg → PortReg) : (s.modPort p f).flt = s.flt := rfl
@[simp] theorem Dev.modPort_pmc (s : Dev) (p : Nat) (f : PortReg → PortReg) : (s.modPort p f).pmc = s.pmc := rfl
@[simp] theorem Dev.modPort_tugs (s : Dev) (p : Nat) (f : PortReg → PortReg) : (s.modPort p f).tugs = s.tugs := rfl
@[simp] theorem Dev.modPort_lanes (s : Dev) (p : Nat) (f : PortReg → PortReg) : (s.modPort p f).lanes = s.lanes := rfl
@[simp] theorem Dev.modPort_sel (s : Dev) (p : Nat) (f : PortReg → PortReg) : (s.modPort p f).sel = s.sel := rfl
@[simp] theorem Dev.modPort_awl (s : Dev) (p : Nat) (f : PortReg → PortReg) : (s.modPort p f).awl = s.awl := rfl
@[simp] theorem Dev.modPort_gnss (s : Dev) (p : Nat) (f : PortReg → PortReg) : (s.modPort p f).gnss = s.gnss := rfl
@[simp] theorem Dev.modPort_keep (s : Dev) (p : Nat) (f : PortReg → PortReg) : (s.modPort p f).keep = s.keep := rfl
@[simp] theorem Dev.modPort_ebe (s : Dev) (p : Nat) (f : PortReg → PortReg) : (s.modPort p f).ebe = s.ebe := rfl
@[simp] theorem Dev.modPort_keys (s : Dev) (p : Nat) (f : PortReg → PortReg) : (s.modPort p f).keys = s.keys := rfl
@[simp] theorem Dev.modPort_pair (s : Dev) (p : Nat) (f : PortReg → PortReg) : (s.modPort p f).pair = s.pair := rfl
@[simp] theorem Dev.modPort_power (s : Dev) (p : Nat) (f : PortReg → PortReg) : (s.modPort p f).power = s.power := rfl
@[simp] theorem Dev.modPort_update (s : Dev) (p : Nat) (f : PortReg → PortReg) : (s.modPort p f).update = s.update := rfl
@[simp] theorem Dev.modPort_ageing (s : Dev) (p : Nat) (f : PortReg → PortReg) : (s.modPort p f).ageing = s.ageing := rfl
@[simp] theorem Dev.modPort_svc (s : Dev) (p : Nat) (f : PortReg → PortReg) : (s.modPort p f).svc = s.svc := rfl
@[simp] theorem Dev.modPort_free (s : Dev) (p : Nat) (f : PortReg → PortReg) : (s.modPort p f).free = s.free := rfl
@[simp] theorem Dev.modPort_out (s : Dev) (p : Nat) (f : PortReg → PortReg) : (s.modPort p f).out = s.out := rfl
@[simp] theorem Dev.modPort_watch (s : Dev) (p : Nat) (f : PortReg → PortReg) : (s.modPort p f).watch = s.watch := rfl
@[simp] theorem Dev.modPort_num (s : Dev) (p : Nat) (f : PortReg → PortReg) (key : Nat) : (s.modPort p f).num key = s.num key := rfl

@[simp] theorem Dev.modPause_tick (s : Dev) (p c : Nat) (f : PauseReg → PauseReg) : (s.modPause p c f).tick = s.tick := rfl
@[simp] theorem Dev.modPause_cntZero (s : Dev) (p c : Nat) (f : PauseReg → PauseReg) : (s.modPause p c f).cntZero = s.cntZero := rfl
@[simp] theorem Dev.modPause_aonTs0 (s : Dev) (p c : Nat) (f : PauseReg → PauseReg) : (s.modPause p c f).aonTs0 = s.aonTs0 := rfl
@[simp] theorem Dev.modPause_aonFrom (s : Dev) (p c : Nat) (f : PauseReg → PauseReg) : (s.modPause p c f).aonFrom = s.aonFrom := rfl
@[simp] theorem Dev.modPause_od (s : Dev) (p c : Nat) (f : PauseReg → PauseReg) : (s.modPause p c f).od = s.od := rfl
@[simp] theorem Dev.modPause_scales (s : Dev) (p c : Nat) (f : PauseReg → PauseReg) : (s.modPause p c f).scales = s.scales := rfl
@[simp] theorem Dev.modPause_mode (s : Dev) (p c : Nat) (f : PauseReg → PauseReg) : (s.modPause p c f).mode = s.mode := rfl
@[simp] theorem Dev.modPause_acc (s : Dev) (p c : Nat) (f : PauseReg → PauseReg) : (s.modPause p c f).acc = s.acc := rfl
@[simp] theorem Dev.modPause_flt (s : Dev) (p c : Nat) (f : PauseReg → PauseReg) : (s.modPause p c f).flt = s.flt := rfl
@[simp] theorem Dev.modPause_pmc (s : Dev) (p c : Nat) (f : PauseReg → PauseReg) : (s.modPause p c f).pmc = s.pmc := rfl
@[simp] theorem Dev.modPause_tugs (s : Dev) (p c : Nat) (f : PauseReg → PauseReg) : (s.modPause p c f).tugs = s.tugs := rfl
@[simp] theorem Dev.modPause_lanes (s : Dev) (p c : Nat) (f : PauseReg → PauseReg) : (s.modPause p c f).lanes = s.lanes := rfl
@[simp] theorem Dev.modPause_sel (s : Dev) (p c : Nat) (f : PauseReg → PauseReg) : (s.modPause p c f).sel = s.sel := rfl
@[simp] theorem Dev.modPause_awl (s : Dev) (p c : Nat) (f : PauseReg → PauseReg) : (s.modPause p c f).awl = s.awl := rfl
@[simp] theorem Dev.modPause_gnss (s : Dev) (p c : Nat) (f : PauseReg → PauseReg) : (s.modPause p c f).gnss = s.gnss := rfl
@[simp] theorem Dev.modPause_keep (s : Dev) (p c : Nat) (f : PauseReg → PauseReg) : (s.modPause p c f).keep = s.keep := rfl
@[simp] theorem Dev.modPause_ebe (s : Dev) (p c : Nat) (f : PauseReg → PauseReg) : (s.modPause p c f).ebe = s.ebe := rfl
@[simp] theorem Dev.modPause_keys (s : Dev) (p c : Nat) (f : PauseReg → PauseReg) : (s.modPause p c f).keys = s.keys := rfl
@[simp] theorem Dev.modPause_pair (s : Dev) (p c : Nat) (f : PauseReg → PauseReg) : (s.modPause p c f).pair = s.pair := rfl
@[simp] theorem Dev.modPause_power (s : Dev) (p c : Nat) (f : PauseReg → PauseReg) : (s.modPause p c f).power = s.power := rfl
@[simp] theorem Dev.modPause_update (s : Dev) (p c : Nat) (f : PauseReg → PauseReg) : (s.modPause p c f).update = s.update := rfl
@[simp] theorem Dev.modPause_ageing (s : Dev) (p c : Nat) (f : PauseReg → PauseReg) : (s.modPause p c f).ageing = s.ageing := rfl
@[simp] theorem Dev.modPause_svc (s : Dev) (p c : Nat) (f : PauseReg → PauseReg) : (s.modPause p c f).svc = s.svc := rfl
@[simp] theorem Dev.modPause_free (s : Dev) (p c : Nat) (f : PauseReg → PauseReg) : (s.modPause p c f).free = s.free := rfl
@[simp] theorem Dev.modPause_out (s : Dev) (p c : Nat) (f : PauseReg → PauseReg) : (s.modPause p c f).out = s.out := rfl
@[simp] theorem Dev.modPause_watch (s : Dev) (p c : Nat) (f : PauseReg → PauseReg) : (s.modPause p c f).watch = s.watch := rfl
@[simp] theorem Dev.modPause_num (s : Dev) (p c : Nat) (f : PauseReg → PauseReg) (key : Nat) : (s.modPause p c f).num key = s.num key := rfl

@[simp] theorem Dev.modSvc_tick (s : Dev) (f : Svc → Svc) : (s.modSvc f).tick = s.tick := rfl
@[simp] theorem Dev.modSvc_cntZero (s : Dev) (f : Svc → Svc) : (s.modSvc f).cntZero = s.cntZero := rfl
@[simp] theorem Dev.modSvc_aonTs0 (s : Dev) (f : Svc → Svc) : (s.modSvc f).aonTs0 = s.aonTs0 := rfl
@[simp] theorem Dev.modSvc_aonFrom (s : Dev) (f : Svc → Svc) : (s.modSvc f).aonFrom = s.aonFrom := rfl
@[simp] theorem Dev.modSvc_od (s : Dev) (f : Svc → Svc) : (s.modSvc f).od = s.od := rfl
@[simp] theorem Dev.modSvc_scales (s : Dev) (f : Svc → Svc) : (s.modSvc f).scales = s.scales := rfl
@[simp] theorem Dev.modSvc_mode (s : Dev) (f : Svc → Svc) : (s.modSvc f).mode = s.mode := rfl
@[simp] theorem Dev.modSvc_acc (s : Dev) (f : Svc → Svc) : (s.modSvc f).acc = s.acc := rfl
@[simp] theorem Dev.modSvc_flt (s : Dev) (f : Svc → Svc) : (s.modSvc f).flt = s.flt := rfl
@[simp] theorem Dev.modSvc_pmc (s : Dev) (f : Svc → Svc) : (s.modSvc f).pmc = s.pmc := rfl
@[simp] theorem Dev.modSvc_tugs (s : Dev) (f : Svc → Svc) : (s.modSvc f).tugs = s.tugs := rfl
@[simp] theorem Dev.modSvc_lanes (s : Dev) (f : Svc → Svc) : (s.modSvc f).lanes = s.lanes := rfl
@[simp] theorem Dev.modSvc_ports (s : Dev) (f : Svc → Svc) : (s.modSvc f).ports = s.ports := rfl
@[simp] theorem Dev.modSvc_sel (s : Dev) (f : Svc → Svc) : (s.modSvc f).sel = s.sel := rfl
@[simp] theorem Dev.modSvc_awl (s : Dev) (f : Svc → Svc) : (s.modSvc f).awl = s.awl := rfl
@[simp] theorem Dev.modSvc_gnss (s : Dev) (f : Svc → Svc) : (s.modSvc f).gnss = s.gnss := rfl
@[simp] theorem Dev.modSvc_keep (s : Dev) (f : Svc → Svc) : (s.modSvc f).keep = s.keep := rfl
@[simp] theorem Dev.modSvc_ebe (s : Dev) (f : Svc → Svc) : (s.modSvc f).ebe = s.ebe := rfl
@[simp] theorem Dev.modSvc_keys (s : Dev) (f : Svc → Svc) : (s.modSvc f).keys = s.keys := rfl
@[simp] theorem Dev.modSvc_pair (s : Dev) (f : Svc → Svc) : (s.modSvc f).pair = s.pair := rfl
@[simp] theorem Dev.modSvc_power (s : Dev) (f : Svc → Svc) : (s.modSvc f).power = s.power := rfl
@[simp] theorem Dev.modSvc_update (s : Dev) (f : Svc → Svc) : (s.modSvc f).update = s.update := rfl
@[simp] theorem Dev.modSvc_ageing (s : Dev) (f : Svc → Svc) : (s.modSvc f).ageing = s.ageing := rfl
@[simp] theorem Dev.modSvc_free (s : Dev) (f : Svc → Svc) : (s.modSvc f).free = s.free := rfl
@[simp] theorem Dev.modSvc_out (s : Dev) (f : Svc → Svc) : (s.modSvc f).out = s.out := rfl
@[simp] theorem Dev.modSvc_watch (s : Dev) (f : Svc → Svc) : (s.modSvc f).watch = s.watch := rfl
@[simp] theorem Dev.modSvc_num (s : Dev) (f : Svc → Svc) (key : Nat) : (s.modSvc f).num key = s.num key := rfl

@[simp] theorem Dev.modClient_tick (s : Dev) (n : Nat) (f : Client → Client) : (s.modClient n f).tick = s.tick := rfl
@[simp] theorem Dev.modClient_cntZero (s : Dev) (n : Nat) (f : Client → Client) : (s.modClient n f).cntZero = s.cntZero := rfl
@[simp] theorem Dev.modClient_aonTs0 (s : Dev) (n : Nat) (f : Client → Client) : (s.modClient n f).aonTs0 = s.aonTs0 := rfl
@[simp] theorem Dev.modClient_aonFrom (s : Dev) (n : Nat) (f : Client → Client) : (s.modClient n f).aonFrom = s.aonFrom := rfl
@[simp] theorem Dev.modClient_od (s : Dev) (n : Nat) (f : Client → Client) : (s.modClient n f).od = s.od := rfl
@[simp] theorem Dev.modClient_scales (s : Dev) (n : Nat) (f : Client → Client) : (s.modClient n f).scales = s.scales := rfl
@[simp] theorem Dev.modClient_mode (s : Dev) (n : Nat) (f : Client → Client) : (s.modClient n f).mode = s.mode := rfl
@[simp] theorem Dev.modClient_acc (s : Dev) (n : Nat) (f : Client → Client) : (s.modClient n f).acc = s.acc := rfl
@[simp] theorem Dev.modClient_flt (s : Dev) (n : Nat) (f : Client → Client) : (s.modClient n f).flt = s.flt := rfl
@[simp] theorem Dev.modClient_pmc (s : Dev) (n : Nat) (f : Client → Client) : (s.modClient n f).pmc = s.pmc := rfl
@[simp] theorem Dev.modClient_tugs (s : Dev) (n : Nat) (f : Client → Client) : (s.modClient n f).tugs = s.tugs := rfl
@[simp] theorem Dev.modClient_lanes (s : Dev) (n : Nat) (f : Client → Client) : (s.modClient n f).lanes = s.lanes := rfl
@[simp] theorem Dev.modClient_ports (s : Dev) (n : Nat) (f : Client → Client) : (s.modClient n f).ports = s.ports := rfl
@[simp] theorem Dev.modClient_sel (s : Dev) (n : Nat) (f : Client → Client) : (s.modClient n f).sel = s.sel := rfl
@[simp] theorem Dev.modClient_awl (s : Dev) (n : Nat) (f : Client → Client) : (s.modClient n f).awl = s.awl := rfl
@[simp] theorem Dev.modClient_gnss (s : Dev) (n : Nat) (f : Client → Client) : (s.modClient n f).gnss = s.gnss := rfl
@[simp] theorem Dev.modClient_keep (s : Dev) (n : Nat) (f : Client → Client) : (s.modClient n f).keep = s.keep := rfl
@[simp] theorem Dev.modClient_ebe (s : Dev) (n : Nat) (f : Client → Client) : (s.modClient n f).ebe = s.ebe := rfl
@[simp] theorem Dev.modClient_keys (s : Dev) (n : Nat) (f : Client → Client) : (s.modClient n f).keys = s.keys := rfl
@[simp] theorem Dev.modClient_pair (s : Dev) (n : Nat) (f : Client → Client) : (s.modClient n f).pair = s.pair := rfl
@[simp] theorem Dev.modClient_power (s : Dev) (n : Nat) (f : Client → Client) : (s.modClient n f).power = s.power := rfl
@[simp] theorem Dev.modClient_update (s : Dev) (n : Nat) (f : Client → Client) : (s.modClient n f).update = s.update := rfl
@[simp] theorem Dev.modClient_ageing (s : Dev) (n : Nat) (f : Client → Client) : (s.modClient n f).ageing = s.ageing := rfl
@[simp] theorem Dev.modClient_free (s : Dev) (n : Nat) (f : Client → Client) : (s.modClient n f).free = s.free := rfl
@[simp] theorem Dev.modClient_out (s : Dev) (n : Nat) (f : Client → Client) : (s.modClient n f).out = s.out := rfl
@[simp] theorem Dev.modClient_watch (s : Dev) (n : Nat) (f : Client → Client) : (s.modClient n f).watch = s.watch := rfl
@[simp] theorem Dev.modClient_num (s : Dev) (n : Nat) (f : Client → Client) (key : Nat) : (s.modClient n f).num key = s.num key := rfl

@[simp] theorem Dev.modRr_tick (s : Dev) (m : Nat) (f : RefReg → RefReg) : (s.modRr m f).tick = s.tick := rfl
@[simp] theorem Dev.modRr_cntZero (s : Dev) (m : Nat) (f : RefReg → RefReg) : (s.modRr m f).cntZero = s.cntZero := rfl
@[simp] theorem Dev.modRr_aonTs0 (s : Dev) (m : Nat) (f : RefReg → RefReg) : (s.modRr m f).aonTs0 = s.aonTs0 := rfl
@[simp] theorem Dev.modRr_aonFrom (s : Dev) (m : Nat) (f : RefReg → RefReg) : (s.modRr m f).aonFrom = s.aonFrom := rfl
@[simp] theorem Dev.modRr_od (s : Dev) (m : Nat) (f : RefReg → RefReg) : (s.modRr m f).od = s.od := rfl
@[simp] theorem Dev.modRr_scales (s : Dev) (m : Nat) (f : RefReg → RefReg) : (s.modRr m f).scales = s.scales := rfl
@[simp] theorem Dev.modRr_mode (s : Dev) (m : Nat) (f : RefReg → RefReg) : (s.modRr m f).mode = s.mode := rfl
@[simp] theorem Dev.modRr_acc (s : Dev) (m : Nat) (f : RefReg → RefReg) : (s.modRr m f).acc = s.acc := rfl
@[simp] theorem Dev.modRr_flt (s : Dev) (m : Nat) (f : RefReg → RefReg) : (s.modRr m f).flt = s.flt := rfl
@[simp] theorem Dev.modRr_pmc (s : Dev) (m : Nat) (f : RefReg → RefReg) : (s.modRr m f).pmc = s.pmc := rfl
@[simp] theorem Dev.modRr_tugs (s : Dev) (m : Nat) (f : RefReg → RefReg) : (s.modRr m f).tugs = s.tugs := rfl
@[simp] theorem Dev.modRr_lanes (s : Dev) (m : Nat) (f : RefReg → RefReg) : (s.modRr m f).lanes = s.lanes := rfl
@[simp] theorem Dev.modRr_ports (s : Dev) (m : Nat) (f : RefReg → RefReg) : (s.modRr m f).ports = s.ports := rfl
@[simp] theorem Dev.modRr_awl (s : Dev) (m : Nat) (f : RefReg → RefReg) : (s.modRr m f).awl = s.awl := rfl
@[simp] theorem Dev.modRr_gnss (s : Dev) (m : Nat) (f : RefReg → RefReg) : (s.modRr m f).gnss = s.gnss := rfl
@[simp] theorem Dev.modRr_keep (s : Dev) (m : Nat) (f : RefReg → RefReg) : (s.modRr m f).keep = s.keep := rfl
@[simp] theorem Dev.modRr_ebe (s : Dev) (m : Nat) (f : RefReg → RefReg) : (s.modRr m f).ebe = s.ebe := rfl
@[simp] theorem Dev.modRr_keys (s : Dev) (m : Nat) (f : RefReg → RefReg) : (s.modRr m f).keys = s.keys := rfl
@[simp] theorem Dev.modRr_pair (s : Dev) (m : Nat) (f : RefReg → RefReg) : (s.modRr m f).pair = s.pair := rfl
@[simp] theorem Dev.modRr_power (s : Dev) (m : Nat) (f : RefReg → RefReg) : (s.modRr m f).power = s.power := rfl
@[simp] theorem Dev.modRr_update (s : Dev) (m : Nat) (f : RefReg → RefReg) : (s.modRr m f).update = s.update := rfl
@[simp] theorem Dev.modRr_ageing (s : Dev) (m : Nat) (f : RefReg → RefReg) : (s.modRr m f).ageing = s.ageing := rfl
@[simp] theorem Dev.modRr_svc (s : Dev) (m : Nat) (f : RefReg → RefReg) : (s.modRr m f).svc = s.svc := rfl
@[simp] theorem Dev.modRr_free (s : Dev) (m : Nat) (f : RefReg → RefReg) : (s.modRr m f).free = s.free := rfl
@[simp] theorem Dev.modRr_out (s : Dev) (m : Nat) (f : RefReg → RefReg) : (s.modRr m f).out = s.out := rfl
@[simp] theorem Dev.modRr_watch (s : Dev) (m : Nat) (f : RefReg → RefReg) : (s.modRr m f).watch = s.watch := rfl
@[simp] theorem Dev.modRr_num (s : Dev) (m : Nat) (f : RefReg → RefReg) (key : Nat) : (s.modRr m f).num key = s.num key := rfl

@[simp] theorem Dev.modTrk_tick (s : Dev) (r : Nat) (f : Trk → Trk) : (s.modTrk r f).tick = s.tick := rfl
@[simp] theorem Dev.modTrk_cntZero (s : Dev) (r : Nat) (f : Trk → Trk) : (s.modTrk r f).cntZero = s.cntZero := rfl
@[simp] theorem Dev.modTrk_aonTs0 (s : Dev) (r : Nat) (f : Trk → Trk) : (s.modTrk r f).aonTs0 = s.aonTs0 := rfl
@[simp] theorem Dev.modTrk_aonFrom (s : Dev) (r : Nat) (f : Trk → Trk) : (s.modTrk r f).aonFrom = s.aonFrom := rfl
@[simp] theorem Dev.modTrk_od (s : Dev) (r : Nat) (f : Trk → Trk) : (s.modTrk r f).od = s.od := rfl
@[simp] theorem Dev.modTrk_scales (s : Dev) (r : Nat) (f : Trk → Trk) : (s.modTrk r f).scales = s.scales := rfl
@[simp] theorem Dev.modTrk_mode (s : Dev) (r : Nat) (f : Trk → Trk) : (s.modTrk r f).mode = s.mode := rfl
@[simp] theorem Dev.modTrk_acc (s : Dev) (r : Nat) (f : Trk → Trk) : (s.modTrk r f).acc = s.acc := rfl
@[simp] theorem Dev.modTrk_flt (s : Dev) (r : Nat) (f : Trk → Trk) : (s.modTrk r f).flt = s.flt := rfl
@[simp] theorem Dev.modTrk_pmc (s : Dev) (r : Nat) (f : Trk → Trk) : (s.modTrk r f).pmc = s.pmc := rfl
@[simp] theorem Dev.modTrk_tugs (s : Dev) (r : Nat) (f : Trk → Trk) : (s.modTrk r f).tugs = s.tugs := rfl
@[simp] theorem Dev.modTrk_lanes (s : Dev) (r : Nat) (f : Trk → Trk) : (s.modTrk r f).lanes = s.lanes := rfl
@[simp] theorem Dev.modTrk_ports (s : Dev) (r : Nat) (f : Trk → Trk) : (s.modTrk r f).ports = s.ports := rfl
@[simp] theorem Dev.modTrk_sel (s : Dev) (r : Nat) (f : Trk → Trk) : (s.modTrk r f).sel = s.sel := rfl
@[simp] theorem Dev.modTrk_awl (s : Dev) (r : Nat) (f : Trk → Trk) : (s.modTrk r f).awl = s.awl := rfl
@[simp] theorem Dev.modTrk_gnss (s : Dev) (r : Nat) (f : Trk → Trk) : (s.modTrk r f).gnss = s.gnss := rfl
@[simp] theorem Dev.modTrk_keep (s : Dev) (r : Nat) (f : Trk → Trk) : (s.modTrk r f).keep = s.keep := rfl
@[simp] theorem Dev.modTrk_ebe (s : Dev) (r : Nat) (f : Trk → Trk) : (s.modTrk r f).ebe = s.ebe := rfl
@[simp] theorem Dev.modTrk_keys (s : Dev) (r : Nat) (f : Trk → Trk) : (s.modTrk r f).keys = s.keys := rfl
@[simp] theorem Dev.modTrk_pair (s : Dev) (r : Nat) (f : Trk → Trk) : (s.modTrk r f).pair = s.pair := rfl
@[simp] theorem Dev.modTrk_power (s : Dev) (r : Nat) (f : Trk → Trk) : (s.modTrk r f).power = s.power := rfl
@[simp] theorem Dev.modTrk_update (s : Dev) (r : Nat) (f : Trk → Trk) : (s.modTrk r f).update = s.update := rfl
@[simp] theorem Dev.modTrk_ageing (s : Dev) (r : Nat) (f : Trk → Trk) : (s.modTrk r f).ageing = s.ageing := rfl
@[simp] theorem Dev.modTrk_free (s : Dev) (r : Nat) (f : Trk → Trk) : (s.modTrk r f).free = s.free := rfl
@[simp] theorem Dev.modTrk_out (s : Dev) (r : Nat) (f : Trk → Trk) : (s.modTrk r f).out = s.out := rfl
@[simp] theorem Dev.modTrk_watch (s : Dev) (r : Nat) (f : Trk → Trk) : (s.modTrk r f).watch = s.watch := rfl
@[simp] theorem Dev.modTrk_num (s : Dev) (r : Nat) (f : Trk → Trk) (key : Nat) : (s.modTrk r f).num key = s.num key := rfl

@[simp] theorem Dev.modSched_tick (s : Dev) (e : Nat) (f : SchedE → SchedE) : (s.modSched e f).tick = s.tick := rfl
@[simp] theorem Dev.modSched_cntZero (s : Dev) (e : Nat) (f : SchedE → SchedE) : (s.modSched e f).cntZero = s.cntZero := rfl
@[simp] theorem Dev.modSched_aonTs0 (s : Dev) (e : Nat) (f : SchedE → SchedE) : (s.modSched e f).aonTs0 = s.aonTs0 := rfl
@[simp] theorem Dev.modSched_aonFrom (s : Dev) (e : Nat) (f : SchedE → SchedE) : (s.modSched e f).aonFrom = s.aonFrom := rfl
@[simp] theorem Dev.modSched_od (s : Dev) (e : Nat) (f : SchedE → SchedE) : (s.modSched e f).od = s.od := rfl
@[simp] theorem Dev.modSched_scales (s : Dev) (e : Nat) (f : SchedE → SchedE) : (s.modSched e f).scales = s.scales := rfl
@[simp] theorem Dev.modSched_mode (s : Dev) (e : Nat) (f : SchedE → SchedE) : (s.modSched e f).mode = s.mode := rfl
@[simp] theorem Dev.modSched_acc (s : Dev) (e : Nat) (f : SchedE → SchedE) : (s.modSched e f).acc = s.acc := rfl
@[simp] theorem Dev.modSched_flt (s : Dev) (e : Nat) (f : SchedE → SchedE) : (s.modSched e f).flt = s.flt := rfl
@[simp] theorem Dev.modSched_pmc (s : Dev) (e : Nat) (f : SchedE → SchedE) : (s.modSched e f).pmc = s.pmc := rfl
@[simp] theorem Dev.modSched_lanes (s : Dev) (e : Nat) (f : SchedE → SchedE) : (s.modSched e f).lanes = s.lanes := rfl
@[simp] theorem Dev.modSched_ports (s : Dev) (e : Nat) (f : SchedE → SchedE) : (s.modSched e f).ports = s.ports := rfl
@[simp] theorem Dev.modSched_sel (s : Dev) (e : Nat) (f : SchedE → SchedE) : (s.modSched e f).sel = s.sel := rfl
@[simp] theorem Dev.modSched_awl (s : Dev) (e : Nat) (f : SchedE → SchedE) : (s.modSched e f).awl = s.awl := rfl
@[simp] theorem Dev.modSched_gnss (s : Dev) (e : Nat) (f : SchedE → SchedE) : (s.modSched e f).gnss = s.gnss := rfl
@[simp] theorem Dev.modSched_keep (s : Dev) (e : Nat) (f : SchedE → SchedE) : (s.modSched e f).keep = s.keep := rfl
@[simp] theorem Dev.modSched_ebe (s : Dev) (e : Nat) (f : SchedE → SchedE) : (s.modSched e f).ebe = s.ebe := rfl
@[simp] theorem Dev.modSched_keys (s : Dev) (e : Nat) (f : SchedE → SchedE) : (s.modSched e f).keys = s.keys := rfl
@[simp] theorem Dev.modSched_pair (s : Dev) (e : Nat) (f : SchedE → SchedE) : (s.modSched e f).pair = s.pair := rfl
@[simp] theorem Dev.modSched_power (s : Dev) (e : Nat) (f : SchedE → SchedE) : (s.modSched e f).power = s.power := rfl
@[simp] theorem Dev.modSched_update (s : Dev) (e : Nat) (f : SchedE → SchedE) : (s.modSched e f).update = s.update := rfl
@[simp] theorem Dev.modSched_ageing (s : Dev) (e : Nat) (f : SchedE → SchedE) : (s.modSched e f).ageing = s.ageing := rfl
@[simp] theorem Dev.modSched_svc (s : Dev) (e : Nat) (f : SchedE → SchedE) : (s.modSched e f).svc = s.svc := rfl
@[simp] theorem Dev.modSched_free (s : Dev) (e : Nat) (f : SchedE → SchedE) : (s.modSched e f).free = s.free := rfl
@[simp] theorem Dev.modSched_out (s : Dev) (e : Nat) (f : SchedE → SchedE) : (s.modSched e f).out = s.out := rfl
@[simp] theorem Dev.modSched_watch (s : Dev) (e : Nat) (f : SchedE → SchedE) : (s.modSched e f).watch = s.watch := rfl
@[simp] theorem Dev.modSched_num (s : Dev) (e : Nat) (f : SchedE → SchedE) (key : Nat) : (s.modSched e f).num key = s.num key := rfl

@[simp] theorem Dev.modTio_tick (s : Dev) (n : Nat) (f : Tio → Tio) : (s.modTio n f).tick = s.tick := rfl
@[simp] theorem Dev.modTio_cntZero (s : Dev) (n : Nat) (f : Tio → Tio) : (s.modTio n f).cntZero = s.cntZero := rfl
@[simp] theorem Dev.modTio_aonTs0 (s : Dev) (n : Nat) (f : Tio → Tio) : (s.modTio n f).aonTs0 = s.aonTs0 := rfl
@[simp] theorem Dev.modTio_aonFrom (s : Dev) (n : Nat) (f : Tio → Tio) : (s.modTio n f).aonFrom = s.aonFrom := rfl
@[simp] theorem Dev.modTio_od (s : Dev) (n : Nat) (f : Tio → Tio) : (s.modTio n f).od = s.od := rfl
@[simp] theorem Dev.modTio_scales (s : Dev) (n : Nat) (f : Tio → Tio) : (s.modTio n f).scales = s.scales := rfl
@[simp] theorem Dev.modTio_mode (s : Dev) (n : Nat) (f : Tio → Tio) : (s.modTio n f).mode = s.mode := rfl
@[simp] theorem Dev.modTio_acc (s : Dev) (n : Nat) (f : Tio → Tio) : (s.modTio n f).acc = s.acc := rfl
@[simp] theorem Dev.modTio_flt (s : Dev) (n : Nat) (f : Tio → Tio) : (s.modTio n f).flt = s.flt := rfl
@[simp] theorem Dev.modTio_pmc (s : Dev) (n : Nat) (f : Tio → Tio) : (s.modTio n f).pmc = s.pmc := rfl
@[simp] theorem Dev.modTio_lanes (s : Dev) (n : Nat) (f : Tio → Tio) : (s.modTio n f).lanes = s.lanes := rfl
@[simp] theorem Dev.modTio_ports (s : Dev) (n : Nat) (f : Tio → Tio) : (s.modTio n f).ports = s.ports := rfl
@[simp] theorem Dev.modTio_sel (s : Dev) (n : Nat) (f : Tio → Tio) : (s.modTio n f).sel = s.sel := rfl
@[simp] theorem Dev.modTio_awl (s : Dev) (n : Nat) (f : Tio → Tio) : (s.modTio n f).awl = s.awl := rfl
@[simp] theorem Dev.modTio_gnss (s : Dev) (n : Nat) (f : Tio → Tio) : (s.modTio n f).gnss = s.gnss := rfl
@[simp] theorem Dev.modTio_keep (s : Dev) (n : Nat) (f : Tio → Tio) : (s.modTio n f).keep = s.keep := rfl
@[simp] theorem Dev.modTio_ebe (s : Dev) (n : Nat) (f : Tio → Tio) : (s.modTio n f).ebe = s.ebe := rfl
@[simp] theorem Dev.modTio_keys (s : Dev) (n : Nat) (f : Tio → Tio) : (s.modTio n f).keys = s.keys := rfl
@[simp] theorem Dev.modTio_pair (s : Dev) (n : Nat) (f : Tio → Tio) : (s.modTio n f).pair = s.pair := rfl
@[simp] theorem Dev.modTio_power (s : Dev) (n : Nat) (f : Tio → Tio) : (s.modTio n f).power = s.power := rfl
@[simp] theorem Dev.modTio_update (s : Dev) (n : Nat) (f : Tio → Tio) : (s.modTio n f).update = s.update := rfl
@[simp] theorem Dev.modTio_ageing (s : Dev) (n : Nat) (f : Tio → Tio) : (s.modTio n f).ageing = s.ageing := rfl
@[simp] theorem Dev.modTio_svc (s : Dev) (n : Nat) (f : Tio → Tio) : (s.modTio n f).svc = s.svc := rfl
@[simp] theorem Dev.modTio_free (s : Dev) (n : Nat) (f : Tio → Tio) : (s.modTio n f).free = s.free := rfl
@[simp] theorem Dev.modTio_out (s : Dev) (n : Nat) (f : Tio → Tio) : (s.modTio n f).out = s.out := rfl
@[simp] theorem Dev.modTio_watch (s : Dev) (n : Nat) (f : Tio → Tio) : (s.modTio n f).watch = s.watch := rfl
@[simp] theorem Dev.modTio_num (s : Dev) (n : Nat) (f : Tio → Tio) (key : Nat) : (s.modTio n f).num key = s.num key := rfl

@[simp] theorem Dev.modInst_tick (s : Dev) (i : Nat) (f : InstReg → InstReg) : (s.modInst i f).tick = s.tick := rfl
@[simp] theorem Dev.modInst_cntZero (s : Dev) (i : Nat) (f : InstReg → InstReg) : (s.modInst i f).cntZero = s.cntZero := rfl
@[simp] theorem Dev.modInst_aonTs0 (s : Dev) (i : Nat) (f : InstReg → InstReg) : (s.modInst i f).aonTs0 = s.aonTs0 := rfl
@[simp] theorem Dev.modInst_aonFrom (s : Dev) (i : Nat) (f : InstReg → InstReg) : (s.modInst i f).aonFrom = s.aonFrom := rfl
@[simp] theorem Dev.modInst_od (s : Dev) (i : Nat) (f : InstReg → InstReg) : (s.modInst i f).od = s.od := rfl
@[simp] theorem Dev.modInst_scales (s : Dev) (i : Nat) (f : InstReg → InstReg) : (s.modInst i f).scales = s.scales := rfl
@[simp] theorem Dev.modInst_mode (s : Dev) (i : Nat) (f : InstReg → InstReg) : (s.modInst i f).mode = s.mode := rfl
@[simp] theorem Dev.modInst_acc (s : Dev) (i : Nat) (f : InstReg → InstReg) : (s.modInst i f).acc = s.acc := rfl
@[simp] theorem Dev.modInst_flt (s : Dev) (i : Nat) (f : InstReg → InstReg) : (s.modInst i f).flt = s.flt := rfl
@[simp] theorem Dev.modInst_pmc (s : Dev) (i : Nat) (f : InstReg → InstReg) : (s.modInst i f).pmc = s.pmc := rfl
@[simp] theorem Dev.modInst_tugs (s : Dev) (i : Nat) (f : InstReg → InstReg) : (s.modInst i f).tugs = s.tugs := rfl
@[simp] theorem Dev.modInst_lanes (s : Dev) (i : Nat) (f : InstReg → InstReg) : (s.modInst i f).lanes = s.lanes := rfl
@[simp] theorem Dev.modInst_ports (s : Dev) (i : Nat) (f : InstReg → InstReg) : (s.modInst i f).ports = s.ports := rfl
@[simp] theorem Dev.modInst_sel (s : Dev) (i : Nat) (f : InstReg → InstReg) : (s.modInst i f).sel = s.sel := rfl
@[simp] theorem Dev.modInst_awl (s : Dev) (i : Nat) (f : InstReg → InstReg) : (s.modInst i f).awl = s.awl := rfl
@[simp] theorem Dev.modInst_gnss (s : Dev) (i : Nat) (f : InstReg → InstReg) : (s.modInst i f).gnss = s.gnss := rfl
@[simp] theorem Dev.modInst_keep (s : Dev) (i : Nat) (f : InstReg → InstReg) : (s.modInst i f).keep = s.keep := rfl
@[simp] theorem Dev.modInst_ebe (s : Dev) (i : Nat) (f : InstReg → InstReg) : (s.modInst i f).ebe = s.ebe := rfl
@[simp] theorem Dev.modInst_keys (s : Dev) (i : Nat) (f : InstReg → InstReg) : (s.modInst i f).keys = s.keys := rfl
@[simp] theorem Dev.modInst_pair (s : Dev) (i : Nat) (f : InstReg → InstReg) : (s.modInst i f).pair = s.pair := rfl
@[simp] theorem Dev.modInst_power (s : Dev) (i : Nat) (f : InstReg → InstReg) : (s.modInst i f).power = s.power := rfl
@[simp] theorem Dev.modInst_update (s : Dev) (i : Nat) (f : InstReg → InstReg) : (s.modInst i f).update = s.update := rfl
@[simp] theorem Dev.modInst_ageing (s : Dev) (i : Nat) (f : InstReg → InstReg) : (s.modInst i f).ageing = s.ageing := rfl
@[simp] theorem Dev.modInst_free (s : Dev) (i : Nat) (f : InstReg → InstReg) : (s.modInst i f).free = s.free := rfl
@[simp] theorem Dev.modInst_out (s : Dev) (i : Nat) (f : InstReg → InstReg) : (s.modInst i f).out = s.out := rfl
@[simp] theorem Dev.modInst_watch (s : Dev) (i : Nat) (f : InstReg → InstReg) : (s.modInst i f).watch = s.watch := rfl
@[simp] theorem Dev.modInst_num (s : Dev) (i : Nat) (f : InstReg → InstReg) (key : Nat) : (s.modInst i f).num key = s.num key := rfl

@[simp] theorem Dev.modEbr_tick (s : Dev) (n : Nat) (f : BoundReg → BoundReg) : (s.modEbr n f).tick = s.tick := rfl
@[simp] theorem Dev.modEbr_cntZero (s : Dev) (n : Nat) (f : BoundReg → BoundReg) : (s.modEbr n f).cntZero = s.cntZero := rfl
@[simp] theorem Dev.modEbr_aonTs0 (s : Dev) (n : Nat) (f : BoundReg → BoundReg) : (s.modEbr n f).aonTs0 = s.aonTs0 := rfl
@[simp] theorem Dev.modEbr_aonFrom (s : Dev) (n : Nat) (f : BoundReg → BoundReg) : (s.modEbr n f).aonFrom = s.aonFrom := rfl
@[simp] theorem Dev.modEbr_od (s : Dev) (n : Nat) (f : BoundReg → BoundReg) : (s.modEbr n f).od = s.od := rfl
@[simp] theorem Dev.modEbr_scales (s : Dev) (n : Nat) (f : BoundReg → BoundReg) : (s.modEbr n f).scales = s.scales := rfl
@[simp] theorem Dev.modEbr_mode (s : Dev) (n : Nat) (f : BoundReg → BoundReg) : (s.modEbr n f).mode = s.mode := rfl
@[simp] theorem Dev.modEbr_acc (s : Dev) (n : Nat) (f : BoundReg → BoundReg) : (s.modEbr n f).acc = s.acc := rfl
@[simp] theorem Dev.modEbr_flt (s : Dev) (n : Nat) (f : BoundReg → BoundReg) : (s.modEbr n f).flt = s.flt := rfl
@[simp] theorem Dev.modEbr_pmc (s : Dev) (n : Nat) (f : BoundReg → BoundReg) : (s.modEbr n f).pmc = s.pmc := rfl
@[simp] theorem Dev.modEbr_tugs (s : Dev) (n : Nat) (f : BoundReg → BoundReg) : (s.modEbr n f).tugs = s.tugs := rfl
@[simp] theorem Dev.modEbr_lanes (s : Dev) (n : Nat) (f : BoundReg → BoundReg) : (s.modEbr n f).lanes = s.lanes := rfl
@[simp] theorem Dev.modEbr_ports (s : Dev) (n : Nat) (f : BoundReg → BoundReg) : (s.modEbr n f).ports = s.ports := rfl
@[simp] theorem Dev.modEbr_sel (s : Dev) (n : Nat) (f : BoundReg → BoundReg) : (s.modEbr n f).sel = s.sel := rfl
@[simp] theorem Dev.modEbr_awl (s : Dev) (n : Nat) (f : BoundReg → BoundReg) : (s.modEbr n f).awl = s.awl := rfl
@[simp] theorem Dev.modEbr_gnss (s : Dev) (n : Nat) (f : BoundReg → BoundReg) : (s.modEbr n f).gnss = s.gnss := rfl
@[simp] theorem Dev.modEbr_keep (s : Dev) (n : Nat) (f : BoundReg → BoundReg) : (s.modEbr n f).keep = s.keep := rfl
@[simp] theorem Dev.modEbr_keys (s : Dev) (n : Nat) (f : BoundReg → BoundReg) : (s.modEbr n f).keys = s.keys := rfl
@[simp] theorem Dev.modEbr_pair (s : Dev) (n : Nat) (f : BoundReg → BoundReg) : (s.modEbr n f).pair = s.pair := rfl
@[simp] theorem Dev.modEbr_power (s : Dev) (n : Nat) (f : BoundReg → BoundReg) : (s.modEbr n f).power = s.power := rfl
@[simp] theorem Dev.modEbr_update (s : Dev) (n : Nat) (f : BoundReg → BoundReg) : (s.modEbr n f).update = s.update := rfl
@[simp] theorem Dev.modEbr_ageing (s : Dev) (n : Nat) (f : BoundReg → BoundReg) : (s.modEbr n f).ageing = s.ageing := rfl
@[simp] theorem Dev.modEbr_svc (s : Dev) (n : Nat) (f : BoundReg → BoundReg) : (s.modEbr n f).svc = s.svc := rfl
@[simp] theorem Dev.modEbr_free (s : Dev) (n : Nat) (f : BoundReg → BoundReg) : (s.modEbr n f).free = s.free := rfl
@[simp] theorem Dev.modEbr_out (s : Dev) (n : Nat) (f : BoundReg → BoundReg) : (s.modEbr n f).out = s.out := rfl
@[simp] theorem Dev.modEbr_watch (s : Dev) (n : Nat) (f : BoundReg → BoundReg) : (s.modEbr n f).watch = s.watch := rfl
@[simp] theorem Dev.modEbr_num (s : Dev) (n : Nat) (f : BoundReg → BoundReg) (key : Nat) : (s.modEbr n f).num key = s.num key := rfl

@[simp] theorem Dev.modChan_tick (s : Dev) (c : Nat) (f : Chan → Chan) : (s.modChan c f).tick = s.tick := rfl
@[simp] theorem Dev.modChan_cntZero (s : Dev) (c : Nat) (f : Chan → Chan) : (s.modChan c f).cntZero = s.cntZero := rfl
@[simp] theorem Dev.modChan_aonTs0 (s : Dev) (c : Nat) (f : Chan → Chan) : (s.modChan c f).aonTs0 = s.aonTs0 := rfl
@[simp] theorem Dev.modChan_aonFrom (s : Dev) (c : Nat) (f : Chan → Chan) : (s.modChan c f).aonFrom = s.aonFrom := rfl
@[simp] theorem Dev.modChan_od (s : Dev) (c : Nat) (f : Chan → Chan) : (s.modChan c f).od = s.od := rfl
@[simp] theorem Dev.modChan_scales (s : Dev) (c : Nat) (f : Chan → Chan) : (s.modChan c f).scales = s.scales := rfl
@[simp] theorem Dev.modChan_mode (s : Dev) (c : Nat) (f : Chan → Chan) : (s.modChan c f).mode = s.mode := rfl
@[simp] theorem Dev.modChan_acc (s : Dev) (c : Nat) (f : Chan → Chan) : (s.modChan c f).acc = s.acc := rfl
@[simp] theorem Dev.modChan_flt (s : Dev) (c : Nat) (f : Chan → Chan) : (s.modChan c f).flt = s.flt := rfl
@[simp] theorem Dev.modChan_pmc (s : Dev) (c : Nat) (f : Chan → Chan) : (s.modChan c f).pmc = s.pmc := rfl
@[simp] theorem Dev.modChan_tugs (s : Dev) (c : Nat) (f : Chan → Chan) : (s.modChan c f).tugs = s.tugs := rfl
@[simp] theorem Dev.modChan_lanes (s : Dev) (c : Nat) (f : Chan → Chan) : (s.modChan c f).lanes = s.lanes := rfl
@[simp] theorem Dev.modChan_ports (s : Dev) (c : Nat) (f : Chan → Chan) : (s.modChan c f).ports = s.ports := rfl
@[simp] theorem Dev.modChan_sel (s : Dev) (c : Nat) (f : Chan → Chan) : (s.modChan c f).sel = s.sel := rfl
@[simp] theorem Dev.modChan_awl (s : Dev) (c : Nat) (f : Chan → Chan) : (s.modChan c f).awl = s.awl := rfl
@[simp] theorem Dev.modChan_keep (s : Dev) (c : Nat) (f : Chan → Chan) : (s.modChan c f).keep = s.keep := rfl
@[simp] theorem Dev.modChan_ebe (s : Dev) (c : Nat) (f : Chan → Chan) : (s.modChan c f).ebe = s.ebe := rfl
@[simp] theorem Dev.modChan_keys (s : Dev) (c : Nat) (f : Chan → Chan) : (s.modChan c f).keys = s.keys := rfl
@[simp] theorem Dev.modChan_pair (s : Dev) (c : Nat) (f : Chan → Chan) : (s.modChan c f).pair = s.pair := rfl
@[simp] theorem Dev.modChan_power (s : Dev) (c : Nat) (f : Chan → Chan) : (s.modChan c f).power = s.power := rfl
@[simp] theorem Dev.modChan_update (s : Dev) (c : Nat) (f : Chan → Chan) : (s.modChan c f).update = s.update := rfl
@[simp] theorem Dev.modChan_ageing (s : Dev) (c : Nat) (f : Chan → Chan) : (s.modChan c f).ageing = s.ageing := rfl
@[simp] theorem Dev.modChan_svc (s : Dev) (c : Nat) (f : Chan → Chan) : (s.modChan c f).svc = s.svc := rfl
@[simp] theorem Dev.modChan_free (s : Dev) (c : Nat) (f : Chan → Chan) : (s.modChan c f).free = s.free := rfl
@[simp] theorem Dev.modChan_out (s : Dev) (c : Nat) (f : Chan → Chan) : (s.modChan c f).out = s.out := rfl
@[simp] theorem Dev.modChan_watch (s : Dev) (c : Nat) (f : Chan → Chan) : (s.modChan c f).watch = s.watch := rfl
@[simp] theorem Dev.modChan_num (s : Dev) (c : Nat) (f : Chan → Chan) (key : Nat) : (s.modChan c f).num key = s.num key := rfl

@[simp] theorem Dev.pmcMark_tick (s : Dev) (k tick : Nat) : (s.pmcMark k tick).tick = s.tick := rfl
@[simp] theorem Dev.pmcMark_cntZero (s : Dev) (k tick : Nat) : (s.pmcMark k tick).cntZero = s.cntZero := rfl
@[simp] theorem Dev.pmcMark_aonTs0 (s : Dev) (k tick : Nat) : (s.pmcMark k tick).aonTs0 = s.aonTs0 := rfl
@[simp] theorem Dev.pmcMark_aonFrom (s : Dev) (k tick : Nat) : (s.pmcMark k tick).aonFrom = s.aonFrom := rfl
@[simp] theorem Dev.pmcMark_od (s : Dev) (k tick : Nat) : (s.pmcMark k tick).od = s.od := rfl
@[simp] theorem Dev.pmcMark_scales (s : Dev) (k tick : Nat) : (s.pmcMark k tick).scales = s.scales := rfl
@[simp] theorem Dev.pmcMark_mode (s : Dev) (k tick : Nat) : (s.pmcMark k tick).mode = s.mode := rfl
@[simp] theorem Dev.pmcMark_acc (s : Dev) (k tick : Nat) : (s.pmcMark k tick).acc = s.acc := rfl
@[simp] theorem Dev.pmcMark_flt (s : Dev) (k tick : Nat) : (s.pmcMark k tick).flt = s.flt := rfl
@[simp] theorem Dev.pmcMark_tugs (s : Dev) (k tick : Nat) : (s.pmcMark k tick).tugs = s.tugs := rfl
@[simp] theorem Dev.pmcMark_lanes (s : Dev) (k tick : Nat) : (s.pmcMark k tick).lanes = s.lanes := rfl
@[simp] theorem Dev.pmcMark_ports (s : Dev) (k tick : Nat) : (s.pmcMark k tick).ports = s.ports := rfl
@[simp] theorem Dev.pmcMark_sel (s : Dev) (k tick : Nat) : (s.pmcMark k tick).sel = s.sel := rfl
@[simp] theorem Dev.pmcMark_awl (s : Dev) (k tick : Nat) : (s.pmcMark k tick).awl = s.awl := rfl
@[simp] theorem Dev.pmcMark_gnss (s : Dev) (k tick : Nat) : (s.pmcMark k tick).gnss = s.gnss := rfl
@[simp] theorem Dev.pmcMark_keep (s : Dev) (k tick : Nat) : (s.pmcMark k tick).keep = s.keep := rfl
@[simp] theorem Dev.pmcMark_ebe (s : Dev) (k tick : Nat) : (s.pmcMark k tick).ebe = s.ebe := rfl
@[simp] theorem Dev.pmcMark_keys (s : Dev) (k tick : Nat) : (s.pmcMark k tick).keys = s.keys := rfl
@[simp] theorem Dev.pmcMark_pair (s : Dev) (k tick : Nat) : (s.pmcMark k tick).pair = s.pair := rfl
@[simp] theorem Dev.pmcMark_power (s : Dev) (k tick : Nat) : (s.pmcMark k tick).power = s.power := rfl
@[simp] theorem Dev.pmcMark_update (s : Dev) (k tick : Nat) : (s.pmcMark k tick).update = s.update := rfl
@[simp] theorem Dev.pmcMark_ageing (s : Dev) (k tick : Nat) : (s.pmcMark k tick).ageing = s.ageing := rfl
@[simp] theorem Dev.pmcMark_svc (s : Dev) (k tick : Nat) : (s.pmcMark k tick).svc = s.svc := rfl
@[simp] theorem Dev.pmcMark_free (s : Dev) (k tick : Nat) : (s.pmcMark k tick).free = s.free := rfl
@[simp] theorem Dev.pmcMark_out (s : Dev) (k tick : Nat) : (s.pmcMark k tick).out = s.out := rfl
@[simp] theorem Dev.pmcMark_watch (s : Dev) (k tick : Nat) : (s.pmcMark k tick).watch = s.watch := rfl
@[simp] theorem Dev.pmcMark_num (s : Dev) (k tick : Nat) (key : Nat) : (s.pmcMark k tick).num key = s.num key := rfl

@[simp] theorem Dev.forgetMine_tick (s : Dev) (q : Req) : (s.forgetMine q).tick = s.tick := rfl
@[simp] theorem Dev.forgetMine_cntZero (s : Dev) (q : Req) : (s.forgetMine q).cntZero = s.cntZero := rfl
@[simp] theorem Dev.forgetMine_aonTs0 (s : Dev) (q : Req) : (s.forgetMine q).aonTs0 = s.aonTs0 := rfl
@[simp] theorem Dev.forgetMine_aonFrom (s : Dev) (q : Req) : (s.forgetMine q).aonFrom = s.aonFrom := rfl
@[simp] theorem Dev.forgetMine_od (s : Dev) (q : Req) : (s.forgetMine q).od = s.od := rfl
@[simp] theorem Dev.forgetMine_scales (s : Dev) (q : Req) : (s.forgetMine q).scales = s.scales := rfl
@[simp] theorem Dev.forgetMine_mode (s : Dev) (q : Req) : (s.forgetMine q).mode = s.mode := rfl
@[simp] theorem Dev.forgetMine_flt (s : Dev) (q : Req) : (s.forgetMine q).flt = s.flt := rfl
@[simp] theorem Dev.forgetMine_pmc (s : Dev) (q : Req) : (s.forgetMine q).pmc = s.pmc := rfl
@[simp] theorem Dev.forgetMine_tugs (s : Dev) (q : Req) : (s.forgetMine q).tugs = s.tugs := rfl
@[simp] theorem Dev.forgetMine_lanes (s : Dev) (q : Req) : (s.forgetMine q).lanes = s.lanes := rfl
@[simp] theorem Dev.forgetMine_ports (s : Dev) (q : Req) : (s.forgetMine q).ports = s.ports := rfl
@[simp] theorem Dev.forgetMine_sel (s : Dev) (q : Req) : (s.forgetMine q).sel = s.sel := rfl
@[simp] theorem Dev.forgetMine_awl (s : Dev) (q : Req) : (s.forgetMine q).awl = s.awl := rfl
@[simp] theorem Dev.forgetMine_gnss (s : Dev) (q : Req) : (s.forgetMine q).gnss = s.gnss := rfl
@[simp] theorem Dev.forgetMine_keep (s : Dev) (q : Req) : (s.forgetMine q).keep = s.keep := rfl
@[simp] theorem Dev.forgetMine_ebe (s : Dev) (q : Req) : (s.forgetMine q).ebe = s.ebe := rfl
@[simp] theorem Dev.forgetMine_keys (s : Dev) (q : Req) : (s.forgetMine q).keys = s.keys := rfl
@[simp] theorem Dev.forgetMine_pair (s : Dev) (q : Req) : (s.forgetMine q).pair = s.pair := rfl
@[simp] theorem Dev.forgetMine_power (s : Dev) (q : Req) : (s.forgetMine q).power = s.power := rfl
@[simp] theorem Dev.forgetMine_update (s : Dev) (q : Req) : (s.forgetMine q).update = s.update := rfl
@[simp] theorem Dev.forgetMine_ageing (s : Dev) (q : Req) : (s.forgetMine q).ageing = s.ageing := rfl
@[simp] theorem Dev.forgetMine_svc (s : Dev) (q : Req) : (s.forgetMine q).svc = s.svc := rfl
@[simp] theorem Dev.forgetMine_free (s : Dev) (q : Req) : (s.forgetMine q).free = s.free := rfl
@[simp] theorem Dev.forgetMine_out (s : Dev) (q : Req) : (s.forgetMine q).out = s.out := rfl
@[simp] theorem Dev.forgetMine_watch (s : Dev) (q : Req) : (s.forgetMine q).watch = s.watch := rfl
@[simp] theorem Dev.forgetMine_num (s : Dev) (q : Req) (key : Nat) : (s.forgetMine q).num key = s.num key := rfl

@[simp] theorem Dev.tell_tick (s : Dev) (type : Nat) (l : List Nat) : (s.tell type l).tick = s.tick := rfl
@[simp] theorem Dev.tell_cntZero (s : Dev) (type : Nat) (l : List Nat) : (s.tell type l).cntZero = s.cntZero := rfl
@[simp] theorem Dev.tell_aonTs0 (s : Dev) (type : Nat) (l : List Nat) : (s.tell type l).aonTs0 = s.aonTs0 := rfl
@[simp] theorem Dev.tell_aonFrom (s : Dev) (type : Nat) (l : List Nat) : (s.tell type l).aonFrom = s.aonFrom := rfl
@[simp] theorem Dev.tell_od (s : Dev) (type : Nat) (l : List Nat) : (s.tell type l).od = s.od := rfl
@[simp] theorem Dev.tell_scales (s : Dev) (type : Nat) (l : List Nat) : (s.tell type l).scales = s.scales := rfl
@[simp] theorem Dev.tell_mode (s : Dev) (type : Nat) (l : List Nat) : (s.tell type l).mode = s.mode := rfl
@[simp] theorem Dev.tell_acc (s : Dev) (type : Nat) (l : List Nat) : (s.tell type l).acc = s.acc := rfl
@[simp] theorem Dev.tell_flt (s : Dev) (type : Nat) (l : List Nat) : (s.tell type l).flt = s.flt := rfl
@[simp] theorem Dev.tell_pmc (s : Dev) (type : Nat) (l : List Nat) : (s.tell type l).pmc = s.pmc := rfl
@[simp] theorem Dev.tell_tugs (s : Dev) (type : Nat) (l : List Nat) : (s.tell type l).tugs = s.tugs := rfl
@[simp] theorem Dev.tell_lanes (s : Dev) (type : Nat) (l : List Nat) : (s.tell type l).lanes = s.lanes := rfl
@[simp] theorem Dev.tell_ports (s : Dev) (type : Nat) (l : List Nat) : (s.tell type l).ports = s.ports := rfl
@[simp] theorem Dev.tell_sel (s : Dev) (type : Nat) (l : List Nat) : (s.tell type l).sel = s.sel := rfl
@[simp] theorem Dev.tell_awl (s : Dev) (type : Nat) (l : List Nat) : (s.tell type l).awl = s.awl := rfl
@[simp] theorem Dev.tell_gnss (s : Dev) (type : Nat) (l : List Nat) : (s.tell type l).gnss = s.gnss := rfl
@[simp] theorem Dev.tell_keep (s : Dev) (type : Nat) (l : List Nat) : (s.tell type l).keep = s.keep := rfl
@[simp] theorem Dev.tell_ebe (s : Dev) (type : Nat) (l : List Nat) : (s.tell type l).ebe = s.ebe := rfl
@[simp] theorem Dev.tell_keys (s : Dev) (type : Nat) (l : List Nat) : (s.tell type l).keys = s.keys := rfl
@[simp] theorem Dev.tell_pair (s : Dev) (type : Nat) (l : List Nat) : (s.tell type l).pair = s.pair := rfl
@[simp] theorem Dev.tell_power (s : Dev) (type : Nat) (l : List Nat) : (s.tell type l).power = s.power := rfl
@[simp] theorem Dev.tell_update (s : Dev) (type : Nat) (l : List Nat) : (s.tell type l).update = s.update := rfl
@[simp] theorem Dev.tell_ageing (s : Dev) (type : Nat) (l : List Nat) : (s.tell type l).ageing = s.ageing := rfl
@[simp] theorem Dev.tell_svc (s : Dev) (type : Nat) (l : List Nat) : (s.tell type l).svc = s.svc := rfl
@[simp] theorem Dev.tell_free (s : Dev) (type : Nat) (l : List Nat) : (s.tell type l).free = s.free := rfl
@[simp] theorem Dev.tell_watch (s : Dev) (type : Nat) (l : List Nat) : (s.tell type l).watch = s.watch := rfl
@[simp] theorem Dev.tell_num (s : Dev) (type : Nat) (l : List Nat) (key : Nat) : (s.tell type l).num key = s.num key := rfl

@[simp] theorem Dev.noteChanges_tick (s : Dev) : (s.noteChanges).tick = s.tick := rfl
@[simp] theorem Dev.noteChanges_cntZero (s : Dev) : (s.noteChanges).cntZero = s.cntZero := rfl
@[simp] theorem Dev.noteChanges_aonTs0 (s : Dev) : (s.noteChanges).aonTs0 = s.aonTs0 := rfl
@[simp] theorem Dev.noteChanges_aonFrom (s : Dev) : (s.noteChanges).aonFrom = s.aonFrom := rfl
@[simp] theorem Dev.noteChanges_od (s : Dev) : (s.noteChanges).od = s.od := rfl
@[simp] theorem Dev.noteChanges_scales (s : Dev) : (s.noteChanges).scales = s.scales := rfl
@[simp] theorem Dev.noteChanges_mode (s : Dev) : (s.noteChanges).mode = s.mode := rfl
@[simp] theorem Dev.noteChanges_acc (s : Dev) : (s.noteChanges).acc = s.acc := rfl
@[simp] theorem Dev.noteChanges_flt (s : Dev) : (s.noteChanges).flt = s.flt := rfl
@[simp] theorem Dev.noteChanges_pmc (s : Dev) : (s.noteChanges).pmc = s.pmc := rfl
@[simp] theorem Dev.noteChanges_tugs (s : Dev) : (s.noteChanges).tugs = s.tugs := rfl
@[simp] theorem Dev.noteChanges_lanes (s : Dev) : (s.noteChanges).lanes = s.lanes := rfl
@[simp] theorem Dev.noteChanges_ports (s : Dev) : (s.noteChanges).ports = s.ports := rfl
@[simp] theorem Dev.noteChanges_sel (s : Dev) : (s.noteChanges).sel = s.sel := rfl
@[simp] theorem Dev.noteChanges_awl (s : Dev) : (s.noteChanges).awl = s.awl := rfl
@[simp] theorem Dev.noteChanges_gnss (s : Dev) : (s.noteChanges).gnss = s.gnss := rfl
@[simp] theorem Dev.noteChanges_keep (s : Dev) : (s.noteChanges).keep = s.keep := rfl
@[simp] theorem Dev.noteChanges_ebe (s : Dev) : (s.noteChanges).ebe = s.ebe := rfl
@[simp] theorem Dev.noteChanges_keys (s : Dev) : (s.noteChanges).keys = s.keys := rfl
@[simp] theorem Dev.noteChanges_pair (s : Dev) : (s.noteChanges).pair = s.pair := rfl
@[simp] theorem Dev.noteChanges_power (s : Dev) : (s.noteChanges).power = s.power := rfl
@[simp] theorem Dev.noteChanges_update (s : Dev) : (s.noteChanges).update = s.update := rfl
@[simp] theorem Dev.noteChanges_ageing (s : Dev) : (s.noteChanges).ageing = s.ageing := rfl
@[simp] theorem Dev.noteChanges_svc (s : Dev) : (s.noteChanges).svc = s.svc := rfl
@[simp] theorem Dev.noteChanges_free (s : Dev) : (s.noteChanges).free = s.free := rfl
@[simp] theorem Dev.noteChanges_out (s : Dev) : (s.noteChanges).out = s.out := rfl
@[simp] theorem Dev.noteChanges_num (s : Dev) (key : Nat) : (s.noteChanges).num key = s.num key := rfl

@[simp] theorem Dev.modSession_tick (s : Dev) (sid : Nat) (f : Session → Session) : (s.modSession sid f).tick = s.tick := rfl
@[simp] theorem Dev.modSession_cntZero (s : Dev) (sid : Nat) (f : Session → Session) : (s.modSession sid f).cntZero = s.cntZero := rfl
@[simp] theorem Dev.modSession_aonTs0 (s : Dev) (sid : Nat) (f : Session → Session) : (s.modSession sid f).aonTs0 = s.aonTs0 := rfl
@[simp] theorem Dev.modSession_aonFrom (s : Dev) (sid : Nat) (f : Session → Session) : (s.modSession sid f).aonFrom = s.aonFrom := rfl
@[simp] theorem Dev.modSession_od (s : Dev) (sid : Nat) (f : Session → Session) : (s.modSession sid f).od = s.od := rfl
@[simp] theorem Dev.modSession_scales (s : Dev) (sid : Nat) (f : Session → Session) : (s.modSession sid f).scales = s.scales := rfl
@[simp] theorem Dev.modSession_mode (s : Dev) (sid : Nat) (f : Session → Session) : (s.modSession sid f).mode = s.mode := rfl
@[simp] theorem Dev.modSession_flt (s : Dev) (sid : Nat) (f : Session → Session) : (s.modSession sid f).flt = s.flt := rfl
@[simp] theorem Dev.modSession_pmc (s : Dev) (sid : Nat) (f : Session → Session) : (s.modSession sid f).pmc = s.pmc := rfl
@[simp] theorem Dev.modSession_tugs (s : Dev) (sid : Nat) (f : Session → Session) : (s.modSession sid f).tugs = s.tugs := rfl
@[simp] theorem Dev.modSession_lanes (s : Dev) (sid : Nat) (f : Session → Session) : (s.modSession sid f).lanes = s.lanes := rfl
@[simp] theorem Dev.modSession_ports (s : Dev) (sid : Nat) (f : Session → Session) : (s.modSession sid f).ports = s.ports := rfl
@[simp] theorem Dev.modSession_sel (s : Dev) (sid : Nat) (f : Session → Session) : (s.modSession sid f).sel = s.sel := rfl
@[simp] theorem Dev.modSession_awl (s : Dev) (sid : Nat) (f : Session → Session) : (s.modSession sid f).awl = s.awl := rfl
@[simp] theorem Dev.modSession_gnss (s : Dev) (sid : Nat) (f : Session → Session) : (s.modSession sid f).gnss = s.gnss := rfl
@[simp] theorem Dev.modSession_keep (s : Dev) (sid : Nat) (f : Session → Session) : (s.modSession sid f).keep = s.keep := rfl
@[simp] theorem Dev.modSession_ebe (s : Dev) (sid : Nat) (f : Session → Session) : (s.modSession sid f).ebe = s.ebe := rfl
@[simp] theorem Dev.modSession_keys (s : Dev) (sid : Nat) (f : Session → Session) : (s.modSession sid f).keys = s.keys := rfl
@[simp] theorem Dev.modSession_pair (s : Dev) (sid : Nat) (f : Session → Session) : (s.modSession sid f).pair = s.pair := rfl
@[simp] theorem Dev.modSession_power (s : Dev) (sid : Nat) (f : Session → Session) : (s.modSession sid f).power = s.power := rfl
@[simp] theorem Dev.modSession_update (s : Dev) (sid : Nat) (f : Session → Session) : (s.modSession sid f).update = s.update := rfl
@[simp] theorem Dev.modSession_ageing (s : Dev) (sid : Nat) (f : Session → Session) : (s.modSession sid f).ageing = s.ageing := rfl
@[simp] theorem Dev.modSession_svc (s : Dev) (sid : Nat) (f : Session → Session) : (s.modSession sid f).svc = s.svc := rfl
@[simp] theorem Dev.modSession_free (s : Dev) (sid : Nat) (f : Session → Session) : (s.modSession sid f).free = s.free := rfl
@[simp] theorem Dev.modSession_out (s : Dev) (sid : Nat) (f : Session → Session) : (s.modSession sid f).out = s.out := rfl
@[simp] theorem Dev.modSession_watch (s : Dev) (sid : Nat) (f : Session → Session) : (s.modSession sid f).watch = s.watch := rfl
@[simp] theorem Dev.modSession_num (s : Dev) (sid : Nat) (f : Session → Session) (key : Nat) : (s.modSession sid f).num key = s.num key := rfl

@[simp] theorem Dev.fresh_fst (s : Dev) : s.fresh.1 = Config.freeValue s.free := rfl
@[simp] theorem Dev.fresh_snd (s : Dev) : s.fresh.2 = { s with free := s.free + 1 } := rfl

@[simp] theorem Dev.reach_cntZero (s : Dev) (t : Nat) : (s.reach t).cntZero = s.cntZero := rfl
@[simp] theorem Dev.reach_aonTs0 (s : Dev) (t : Nat) : (s.reach t).aonTs0 = s.aonTs0 := rfl
@[simp] theorem Dev.reach_aonFrom (s : Dev) (t : Nat) : (s.reach t).aonFrom = s.aonFrom := rfl
@[simp] theorem Dev.reach_od (s : Dev) (t : Nat) : (s.reach t).od = s.od := rfl
@[simp] theorem Dev.reach_scales (s : Dev) (t : Nat) : (s.reach t).scales = s.scales := rfl
@[simp] theorem Dev.reach_mode (s : Dev) (t : Nat) : (s.reach t).mode = s.mode := rfl
@[simp] theorem Dev.reach_acc (s : Dev) (t : Nat) : (s.reach t).acc = s.acc := rfl
@[simp] theorem Dev.reach_flt (s : Dev) (t : Nat) : (s.reach t).flt = s.flt := rfl
@[simp] theorem Dev.reach_pmc (s : Dev) (t : Nat) : (s.reach t).pmc = s.pmc := rfl
@[simp] theorem Dev.reach_tugs (s : Dev) (t : Nat) : (s.reach t).tugs = s.tugs := rfl
@[simp] theorem Dev.reach_lanes (s : Dev) (t : Nat) : (s.reach t).lanes = s.lanes := rfl
@[simp] theorem Dev.reach_ports (s : Dev) (t : Nat) : (s.reach t).ports = s.ports := rfl
@[simp] theorem Dev.reach_sel (s : Dev) (t : Nat) : (s.reach t).sel = s.sel := rfl
@[simp] theorem Dev.reach_awl (s : Dev) (t : Nat) : (s.reach t).awl = s.awl := rfl
@[simp] theorem Dev.reach_gnss (s : Dev) (t : Nat) : (s.reach t).gnss = s.gnss := rfl
@[simp] theorem Dev.reach_keep (s : Dev) (t : Nat) : (s.reach t).keep = s.keep := rfl
@[simp] theorem Dev.reach_ebe (s : Dev) (t : Nat) : (s.reach t).ebe = s.ebe := rfl
@[simp] theorem Dev.reach_keys (s : Dev) (t : Nat) : (s.reach t).keys = s.keys := rfl
@[simp] theorem Dev.reach_pair (s : Dev) (t : Nat) : (s.reach t).pair = s.pair := rfl
@[simp] theorem Dev.reach_power (s : Dev) (t : Nat) : (s.reach t).power = s.power := rfl
@[simp] theorem Dev.reach_update (s : Dev) (t : Nat) : (s.reach t).update = s.update := rfl
@[simp] theorem Dev.reach_ageing (s : Dev) (t : Nat) : (s.reach t).ageing = s.ageing := rfl
@[simp] theorem Dev.reach_svc (s : Dev) (t : Nat) : (s.reach t).svc = s.svc := rfl
@[simp] theorem Dev.reach_free (s : Dev) (t : Nat) : (s.reach t).free = s.free := rfl
@[simp] theorem Dev.reach_watch (s : Dev) (t : Nat) : (s.reach t).watch = s.watch := rfl
@[simp] theorem Dev.reach_num (s : Dev) (t k : Nat) : (s.reach t).num k = s.num k := rfl
@[simp] theorem Dev.reach_tick (s : Dev) (t : Nat) : (s.reach t).tick = max s.tick t := rfl
@[simp] theorem Dev.reach_out (s : Dev) (t : Nat) : (s.reach t).out = [] := rfl
@[simp] theorem Dev.emit_out (s : Dev) (m : Msg) : (s.emit m).out = s.out ++ [m] := rfl

end Sys2Proof.Machine
end

