-- ==== Sys2Proof/Laws/Tab.lean ====
section
/-! SUPPORT. Laws of the sparse tables: a read after a write, the writes of other keys, and the canonical form kept. -/

namespace Sys2Proof.Tab

variable {α : Type}

@[simp] theorem find?_erase_self (t : Tab α) (n : Nat) : find? (erase t n) n = none := by
  induction t with
  | nil => rfl
  | cons p t ih =>
    obtain ⟨k, a⟩ := p
    by_cases h : k = n <;> simp [erase, find?, h, ih]

theorem find?_erase_ne (t : Tab α) {n m : Nat} (h : m ≠ n) : find? (erase t n) m = find? t m := by
  induction t with
  | nil => rfl
  | cons p t ih =>
    obtain ⟨k, a⟩ := p
    by_cases hk : k = n
    · subst hk; simp [erase, find?, ih, Ne.symm h]
    · by_cases hm : k = m
      · subst hm; simp [erase, find?, h]
      · simp [erase, find?, hk, hm, ih]

theorem find?_insert_self (t : Tab α) (n : Nat) (v : α) (h : find? t n = none) : find? (insert t n v) n = some v := by
  induction t with
  | nil => simp [insert, find?]
  | cons p t ih =>
    obtain ⟨k, a⟩ := p
    by_cases hk : k = n
    · simp [find?, hk] at h
    · by_cases hn : n < k
      · simp [insert, find?, hn]
      · simp [insert, find?, hn, hk]
        exact ih (by simpa [find?, hk] using h)

theorem find?_insert_ne (t : Tab α) {n m : Nat} (v : α) (h : m ≠ n) : find? (insert t n v) m = find? t m := by
  induction t with
  | nil => simp [insert, find?, Ne.symm h]
  | cons p t ih =>
    obtain ⟨k, a⟩ := p
    by_cases hn : n < k
    · simp [insert, find?, hn, Ne.symm h]
    · by_cases hm : k = m
      · subst hm; simp [insert, find?, hn]
      · simp [insert, find?, hn, hm, ih]

/-- A table reads back what was set. -/
@[simp] theorem get_set_self [DecidableEq α] (d : Nat → α) (t : Tab α) (n : Nat) (v : α) : get d (set d t n v) n = v := by
  unfold set get
  split
  · simp_all
  · simp [find?_insert_self]

/-- Setting one key leaves the others. -/
theorem get_set_ne [DecidableEq α] (d : Nat → α) (t : Tab α) {n m : Nat} (v : α) (h : m ≠ n) :
    get d (set d t n v) m = get d t m := by
  unfold set get
  split
  · simp [find?_erase_ne _ h]
  · simp [find?_insert_ne _ _ h, find?_erase_ne _ h]

theorem get_set [DecidableEq α] (d : Nat → α) (t : Tab α) (n m : Nat) (v : α) :
    get d (set d t n v) m = if m = n then v else get d t m := by
  split
  · simp_all
  · exact get_set_ne d t v ‹_›

/-- A table from which some keys are left out. -/
theorem find?_filter (q : Nat → Bool) (t : Tab α) (n : Nat) :
    find? (t.filter fun p => q p.1) n = if q n then find? t n else none := by
  induction t with
  | nil => simp [find?]
  | cons p t ih =>
    obtain ⟨k, a⟩ := p
    by_cases hq : q k = true
    · simp only [List.filter_cons, hq, if_true, find?, ih]
      by_cases hk : k = n
      · subst hk; simp [hq]
      · simp [hk]
    · by_cases hk : k = n
      · subst hk; simp [hq, ih]
      · simp [hq, find?, ih, hk]

theorem get_filter (d : Nat → α) (q : Nat → Bool) (t : Tab α) (n : Nat) :
    get d (t.filter fun p => q p.1) n = if q n then get d t n else d n := by
  unfold get
  rw [find?_filter]
  split <;> rfl

/-! ### The rising order -/

theorem rising_tail {p : Nat × α} {t : Tab α} (h : rising (p :: t) = true) : rising t = true := by
  cases t with
  | nil => rfl
  | cons q t => simp [rising] at h; exact h.2

/-- Every key of the table is above k. -/
def above (k : Nat) (t : Tab α) : Prop := ∀ p ∈ t, k < p.1

theorem rising_cons_iff (k : Nat) (a : α) (t : Tab α) :
    rising ((k, a) :: t) = true ↔ above k t ∧ rising t = true := by
  induction t generalizing k a with
  | nil => simp [rising, above]
  | cons p t ih =>
    obtain ⟨j, b⟩ := p
    constructor
    · intro h
      simp [rising] at h
      refine ⟨?_, h.2⟩
      intro p hp
      have hj := (ih j b).1 h.2
      rcases List.mem_cons.1 hp with rfl | hp
      · exact h.1
      · exact Nat.lt_trans h.1 (hj.1 p hp)
    · rintro ⟨h1, h2⟩
      simp [rising, h2]
      exact h1 (j, b) (by simp)

theorem above_erase {k : Nat} {t : Tab α} (n : Nat) (h : above k t) : above k (erase t n) := by
  induction t with
  | nil => exact h
  | cons p t ih =>
    obtain ⟨j, b⟩ := p
    have ht : above k t := fun q hq => h q (by simp [hq])
    unfold erase
    split
    · exact ih ht
    · intro q hq
      rcases List.mem_cons.1 hq with rfl | hq
      · exact h _ (by simp)
      · exact ih ht q hq

theorem rising_erase {t : Tab α} (n : Nat) (h : rising t = true) : rising (erase t n) = true := by
  induction t with
  | nil => rfl
  | cons p t ih =>
    obtain ⟨j, b⟩ := p
    have h' := (rising_cons_iff j b t).1 h
    unfold erase
    split
    · exact ih h'.2
    · exact (rising_cons_iff _ _ _).2 ⟨above_erase n h'.1, ih h'.2⟩

theorem above_insert {k : Nat} {t : Tab α} {n : Nat} (v : α) (hk : k < n) (h : above k t) : above k (insert t n v) := by
  induction t with
  | nil => intro p hp; simp [insert] at hp; simp [hp, hk]
  | cons p t ih =>
    obtain ⟨j, b⟩ := p
    have ht : above k t := fun q hq => h q (by simp [hq])
    unfold insert
    split
    · intro q hq
      rcases List.mem_cons.1 hq with rfl | hq
      · exact hk
      · exact h q hq
    · intro q hq
      rcases List.mem_cons.1 hq with rfl | hq
      · exact h _ (by simp)
      · exact ih ht q hq

theorem rising_insert {t : Tab α} {n : Nat} (v : α) (hn : find? t n = none) (h : rising t = true) :
    rising (insert t n v) = true := by
  induction t with
  | nil => rfl
  | cons p t ih =>
    obtain ⟨j, b⟩ := p
    have h' := (rising_cons_iff j b t).1 h
    have hj : j ≠ n := by intro e; simp [find?, e] at hn
    unfold insert
    split
    · rename_i hlt
      refine (rising_cons_iff _ _ _).2 ⟨?_, h⟩
      intro q hq
      rcases List.mem_cons.1 hq with rfl | hq
      · exact hlt
      · exact Nat.lt_trans hlt (h'.1 q hq)
    · exact (rising_cons_iff _ _ _).2 ⟨above_insert v (by omega) h'.1, ih (by simpa [find?, hj] using hn) h'.2⟩

/-- Setting a key keeps the order. -/
theorem rising_set [DecidableEq α] (d : Nat → α) {t : Tab α} (n : Nat) (v : α) (h : rising t = true) :
    rising (set d t n v) = true := by
  unfold set
  split
  · exact rising_erase n h
  · exact rising_insert v (by simp) (rising_erase n h)

end Sys2Proof.Tab
end

