-- ==== Sys2Proof/Laws/Ops.lean ====
section
/-! SUPPORT. Laws of the shared operations: what each says of the objects, the bits, the memory and the outcome. -/

namespace Sys2Proof.Machine

/-! ### Objects -/

@[simp] theorem Dev.num_put_self (s : Dev) (k : Nat) (v : Int) : (s.put k v).num k = v := Tab.get_set_self ..

theorem Dev.num_put_ne (s : Dev) {k j : Nat} (v : Int) (h : j ≠ k) : (s.put k v).num j = s.num j := Tab.get_set_ne _ _ _ h

theorem Dev.num_put (s : Dev) (k j : Nat) (v : Int) : (s.put k v).num j = if j = k then v else s.num j := Tab.get_set ..

@[simp] theorem Dev.num_putB_self (s : Dev) (k : Nat) (b : Bool) : (s.putB k b).num k = if b then 1 else 0 :=
  Tab.get_set_self ..

theorem Dev.num_putB_ne (s : Dev) {k j : Nat} (b : Bool) (h : j ≠ k) : (s.putB k b).num j = s.num j := s.num_put_ne _ h

@[simp] theorem Dev.num_flag_self (s : Dev) (k i : Nat) : (s.flag k i).num k = (setBit (s.nat k) i : Nat) :=
  Tab.get_set_self ..

theorem Dev.num_flag_ne (s : Dev) {k j : Nat} (i : Nat) (h : j ≠ k) : (s.flag k i).num j = s.num j := s.num_put_ne _ h

@[simp] theorem Dev.num_unflag_self (s : Dev) (k i : Nat) : (s.unflag k i).num k = (clrBit (s.nat k) i : Nat) :=
  Tab.get_set_self ..

theorem Dev.num_unflag_ne (s : Dev) {k j : Nat} (i : Nat) (h : j ≠ k) : (s.unflag k i).num j = s.num j := s.num_put_ne _ h

theorem Dev.num_putBit_ne (s : Dev) {k j : Nat} (i : Nat) (b : Bool) (h : j ≠ k) : (s.putBit k i b).num j = s.num j :=
  s.num_put_ne _ h

@[simp] theorem Dev.num_bumpBy_self (s : Dev) (k n : Nat) :
    (s.bumpBy k n).num k = ((s.nat k + n) % 4294967296 : Nat) := Tab.get_set_self ..

theorem Dev.num_bumpBy_ne (s : Dev) {k j : Nat} (n : Nat) (h : j ≠ k) : (s.bumpBy k n).num j = s.num j :=
  s.num_put_ne _ h

@[simp] theorem Dev.num_bump_self (s : Dev) (k : Nat) : (s.bump k).num k = ((s.nat k + 1) % 4294967296 : Nat) :=
  Tab.get_set_self ..

theorem Dev.num_bump_ne (s : Dev) {k j : Nat} (h : j ≠ k) : (s.bump k).num j = s.num j := s.num_put_ne _ h

@[simp] theorem Dev.num_bump64_self (s : Dev) (k n : Nat) :
    (s.bump64 k n).num k = ((s.nat k + n) % 18446744073709551616 : Nat) := Tab.get_set_self ..

theorem Dev.num_bump64_ne (s : Dev) {k j : Nat} (n : Nat) (h : j ≠ k) : (s.bump64 k n).num j = s.num j :=
  s.num_put_ne _ h

@[simp] theorem Dev.when_true (s : Dev) (f : Dev → Dev) : s.when true f = f s := rfl
@[simp] theorem Dev.when_false (s : Dev) (f : Dev → Dev) : s.when false f = s := rfl
@[simp] theorem Dev.each_nil {α : Type} (s : Dev) (f : Dev → α → Dev) : s.each [] f = s := rfl
@[simp] theorem Dev.each_cons {α : Type} (s : Dev) (a : α) (l : List α) (f : Dev → α → Dev) :
    s.each (a :: l) f = (f s a).each l f := rfl

/-! ### Tables of registers -/

@[simp] theorem Dev.scale_modScale_self (s : Dev) (n : Nat) (f : Scale → Scale) : (s.modScale n f).scale n = f (s.scale n) :=
  Tab.get_set_self ..
theorem Dev.scale_modScale_ne (s : Dev) {n m : Nat} (f : Scale → Scale) (h : m ≠ n) : (s.modScale n f).scale m = s.scale m :=
  Tab.get_set_ne _ _ _ h
@[simp] theorem Dev.lane_modLane_self (s : Dev) (n : Nat) (f : LaneReg → LaneReg) : (s.modLane n f).lane n = f (s.lane n) :=
  Tab.get_set_self ..
theorem Dev.lane_modLane_ne (s : Dev) {n m : Nat} (f : LaneReg → LaneReg) (h : m ≠ n) :
    (s.modLane n f).lane m = s.lane m := Tab.get_set_ne _ _ _ h
@[simp] theorem Dev.port_modPort_self (s : Dev) (n : Nat) (f : PortReg → PortReg) : (s.modPort n f).port n = f (s.port n) :=
  Tab.get_set_self ..
theorem Dev.port_modPort_ne (s : Dev) {n m : Nat} (f : PortReg → PortReg) (h : m ≠ n) :
    (s.modPort n f).port m = s.port m := Tab.get_set_ne _ _ _ h
@[simp] theorem Dev.rr_modRr_self (s : Dev) (n : Nat) (f : RefReg → RefReg) : (s.modRr n f).rr n = f (s.rr n) :=
  Tab.get_set_self ..
theorem Dev.rr_modRr_ne (s : Dev) {n m : Nat} (f : RefReg → RefReg) (h : m ≠ n) : (s.modRr n f).rr m = s.rr m :=
  Tab.get_set_ne _ _ _ h
@[simp] theorem Dev.cap_modCap_self (s : Dev) (n : Nat) (f : Capture → Capture) : (s.modCap n f).cap n = f (s.cap n) :=
  Tab.get_set_self ..
theorem Dev.cap_modCap_ne (s : Dev) {n m : Nat} (f : Capture → Capture) (h : m ≠ n) : (s.modCap n f).cap m = s.cap m :=
  Tab.get_set_ne _ _ _ h
@[simp] theorem Dev.sched_modSched_self (s : Dev) (n : Nat) (f : SchedE → SchedE) :
    (s.modSched n f).sched n = f (s.sched n) := Tab.get_set_self ..
theorem Dev.sched_modSched_ne (s : Dev) {n m : Nat} (f : SchedE → SchedE) (h : m ≠ n) :
    (s.modSched n f).sched m = s.sched m := Tab.get_set_ne _ _ _ h
@[simp] theorem Dev.tio_modTio_self (s : Dev) (n : Nat) (f : Tio → Tio) : (s.modTio n f).tio n = f (s.tio n) :=
  Tab.get_set_self ..
theorem Dev.tio_modTio_ne (s : Dev) {n m : Nat} (f : Tio → Tio) (h : m ≠ n) : (s.modTio n f).tio m = s.tio m :=
  Tab.get_set_ne _ _ _ h
@[simp] theorem Dev.trk_modTrk_self (s : Dev) (n : Nat) (f : Trk → Trk) : (s.modTrk n f).trk n = f (s.trk n) :=
  Tab.get_set_self ..
theorem Dev.trk_modTrk_ne (s : Dev) {n m : Nat} (f : Trk → Trk) (h : m ≠ n) : (s.modTrk n f).trk m = s.trk m :=
  Tab.get_set_ne _ _ _ h
@[simp] theorem Dev.frec_modFrec_self (s : Dev) (n : Nat) (f : FRec → FRec) : (s.modFrec n f).frec n = f (s.frec n) :=
  Tab.get_set_self ..
theorem Dev.frec_modFrec_ne (s : Dev) {n m : Nat} (f : FRec → FRec) (h : m ≠ n) : (s.modFrec n f).frec m = s.frec m :=
  Tab.get_set_ne _ _ _ h

/-! ### Bits -/

theorem testBit_setBit (n i j : Nat) : (setBit n i).testBit j = (n.testBit j || decide (i = j)) := by
  unfold setBit
  rw [Nat.testBit_or, Nat.one_shiftLeft, Nat.testBit_two_pow]

@[simp] theorem testBit_setBit_self (n i : Nat) : (setBit n i).testBit i = true := by simp [testBit_setBit]

/-- A bit cleared reads 0. -/
@[simp] theorem testBit_clrBit_self (n i : Nat) : (clrBit n i).testBit i = false := by
  unfold clrBit
  by_cases h : n.testBit i = true
  · rw [if_pos h, Nat.one_shiftLeft]
    have hle := Nat.ge_two_pow_of_testBit h
    cases hc : (n - 2 ^ i).testBit i with
    | false => rfl
    | true =>
      have e : 2 ^ i + (n - 2 ^ i) = n := by omega
      have := Nat.testBit_two_pow_add_eq (n - 2 ^ i) i
      rw [e, h, hc] at this
      cases this
  · rw [if_neg h]; simpa using h

@[simp] theorem Dev.bit_unflag_self (s : Dev) (k i : Nat) : (s.unflag k i).bit k i = false := by
  simp [Dev.bit, Dev.nat]

@[simp] theorem Dev.bit_flag_self (s : Dev) (k i : Nat) : (s.flag k i).bit k i = true := by
  simp [Dev.bit, Dev.nat]

/-- A flag leaves every bit that is set. -/
theorem Dev.bit_flag_of_bit (s : Dev) (k i j l : Nat) (h : s.bit j l = true) : (s.flag k i).bit j l = true := by
  by_cases e : j = k
  · subst e
    simp only [Dev.bit, Dev.nat, Dev.num_flag_self] at *
    simp [testBit_setBit, h]
  · simpa [Dev.bit, Dev.nat, s.num_flag_ne i e] using h

/-! ### Outcomes -/

@[simp] theorem State.after_dev (s : State) (t : Nat) (f : Dev → Dev) :
    s.after t f = .next { s with dev := (f (s.reached t)).noteChanges } := rfl

/-- Where nothing falls due on the way, time alone goes on. -/
theorem Dev.advance_of_quiet {s : Dev} {t : Nat} (h : s.dueTicks t = []) : s.advance t = s.reach t := by
  simp only [Dev.advance, h, List.foldl_nil]
  rfl

/-- A command completes where its meaning is a change of the device whose result, subscriptions aside, has P. -/
theorem Completes.after {c : Instr} {s : State} {t : Nat} {f : Dev → Dev} {P : Dev → Prop} (h : exec c s = s.after t f)
    (hp : P (f (s.reached t)).noteChanges) : Completes c s P := ⟨_, h, rfl, rfl, hp⟩

/-- What the subscriptions have seen is no part of a frame. -/
theorem OnlyChanges.noteChanges {d d' : Dev} {objects : List Nat} {parts : List Part} (h : OnlyChanges d d' objects parts) :
    OnlyChanges d d'.noteChanges objects parts :=
  ⟨fun k hk => (d'.noteChanges_num k).trans (h.1 k hk), fun p hp => by
    have := h.2 p hp
    cases p <;> simpa [Part.same] using this⟩

@[simp] theorem State.afterIf_true (s : State) (t : Nat) (f : Dev → Dev) : s.afterIf t true f = s.after t f := rfl
@[simp] theorem State.afterIf_false (s : State) (t : Nat) (f : Dev → Dev) : s.afterIf t false f = .fault .noSuchUnit := rfl

theorem State.afterUnit_of_lt (s : State) {t n u : Nat} (f : Dev → Dev) (h : u < n) : s.afterUnit t n u f = s.after t f := by
  simp [State.afterUnit, h]

theorem State.afterUnit_of_ge (s : State) {t n u : Nat} (f : Dev → Dev) (h : n ≤ u) :
    s.afterUnit t n u f = .fault .noSuchUnit := by
  simp [State.afterUnit, Nat.not_lt.2 h]

/-! ### Memory -/

theorem Memory.wf_writeByte {m : List Host.Cell} (a : Nat) (b : Byte) (h : Memory.wf m = true) :
    Memory.wf (writeByte m a b) = true :=
  Tab.rising_insert b (Tab.find?_erase_self m a) (Tab.rising_erase a h)

/-- Memory keeps its canonical form. -/
theorem Memory.wf_writeBytes (bs : List Byte) : ∀ {m : List Host.Cell} (a : Nat), Memory.wf m = true →
    Memory.wf (writeBytes m a bs) = true := by
  induction bs with
  | nil => intro m a h; exact h
  | cons b bs ih => intro m a h; exact ih _ (Memory.wf_writeByte a b h)

@[simp] theorem readByte_writeByte_self (m : List Host.Cell) (a : Nat) (b : Byte) : readByte (writeByte m a b) a = some b :=
  Tab.find?_insert_self _ _ _ (Tab.find?_erase_self m a)

theorem readByte_writeByte_ne (m : List Host.Cell) {a c : Nat} (b : Byte) (h : c ≠ a) :
    readByte (writeByte m a b) c = readByte m c :=
  (Tab.find?_insert_ne _ _ h).trans (Tab.find?_erase_ne _ h)

/-- A write leaves every octet outside it. -/
theorem readByte_writeBytes_of_out (bs : List Byte) : ∀ (m : List Host.Cell) (a c : Nat), c < a ∨ a + bs.length ≤ c →
    readByte (writeBytes m a bs) c = readByte m c := by
  induction bs with
  | nil => intros; rfl
  | cons b bs ih =>
    intro m a c h
    simp only [List.length_cons] at h
    simp only [writeBytes]
    rw [ih _ (a + 1) c (by omega), readByte_writeByte_ne _ _ (by omega)]

/-! ### Writes of objects -/

/-- Of two checks that both hold the second holds. -/
theorem firstBad_two {a b : Status} (h : firstBad [a, b] = .ok) : b = .ok := by
  cases a <;> cases b <;> first | rfl | exact absurd h (by decide)

/-- A write that passes the checks of R48 is one the power state lets through. -/
theorem Dev.reaches_of_ok {s : Dev} {q : Req} {k : Nat} {v : Int} (h : s.writeStatus q k v = .ok) : s.reaches q k = true := by
  unfold Dev.writeStatus Dev.valueStatus at h
  split at h
  · cases h
  · split at h
    · unfold Dev.askStatus at h
      dsimp only at h
      split at h
      · have := firstBad_two h
        unfold Dev.stateStatus need at this
        split at this
        · simp only [Bool.and_eq_true] at *
          exact (by assumption : _ ∧ _).1
        · cases this
      · split at h <;> cases h
      · simp_all
    · split at h
      · cases h
      · split at h <;> cases h

/-- In OFF no write passes the checks. -/
theorem Dev.power_of_ok {s : Dev} {q : Req} {k : Nat} {v : Int} (h : s.writeStatus q k v = .ok) : s.nat Od.powerState ≠ 4 := by
  intro e
  have := Dev.reaches_of_ok h
  simp [Dev.reaches, e] at this

@[simp] theorem Dev.writeObj_ok {s : Dev} {q : Req} {k : Nat} {v : Int} (h : s.writeStatus q k v = .ok) :
    s.writeObj q k v =
      let r := (s.objAct (s.wrOf q (s.levelOf q) [(k, v)]) k v).logWrite q [(k, v)]
      (r.emit (.written 0 r.now0)).afterWrite [(k, v)] := by
  simp [Dev.writeObj, Dev.writeWith, h, Dev.power_of_ok h]

end Sys2Proof.Machine
end

