-- ==== Sys2Proof/Laws/Modes.lean ====
section
/-! SUPPORT. Laws of the mode rows: what entering a mode entails writes no object of area 10, so that OpMode, LastModeCause and
ModeSticky are what the row itself writes. -/

namespace Sys2Proof.Machine

/-- Two object tables agree below area 11, that is, on the objects of area 10. -/
def Low (a b : Tab Int) : Prop := ∀ k < 0x110000, Tab.get Od.dflt b k = Tab.get Od.dflt a k

theorem Low.refl (a : Tab Int) : Low a a := fun _ _ => rfl

theorem Low.put {a : Tab Int} {s : Dev} {j : Nat} (v : Int) (hj : 0x110000 ≤ j) (h : Low a s.od) : Low a (s.put j v).od :=
  fun k hk => (s.num_put_ne v (show k ≠ j by omega)).trans (h k hk)
theorem Low.putB {a : Tab Int} {s : Dev} {j : Nat} (v : Bool) (hj : 0x110000 ≤ j) (h : Low a s.od) :
    Low a (s.putB j v).od := h.put _ hj
theorem Low.putBit {a : Tab Int} {s : Dev} {j : Nat} (i : Nat) (v : Bool) (hj : 0x110000 ≤ j) (h : Low a s.od) :
    Low a (s.putBit j i v).od := h.put _ hj
theorem Low.flag {a : Tab Int} {s : Dev} {j : Nat} (i : Nat) (hj : 0x110000 ≤ j) (h : Low a s.od) :
    Low a (s.flag j i).od := h.put _ hj
theorem Low.unflag {a : Tab Int} {s : Dev} {j : Nat} (i : Nat) (hj : 0x110000 ≤ j) (h : Low a s.od) :
    Low a (s.unflag j i).od := h.put _ hj
theorem Low.bump {a : Tab Int} {s : Dev} {j : Nat} (hj : 0x110000 ≤ j) (h : Low a s.od) : Low a (s.bump j).od := h.put _ hj
theorem Low.bumpBy {a : Tab Int} {s : Dev} {j : Nat} (n : Nat) (hj : 0x110000 ≤ j) (h : Low a s.od) :
    Low a (s.bumpBy j n).od := h.put _ hj
theorem Low.when {a : Tab Int} {s : Dev} (b : Bool) {f : Dev → Dev} (hf : ∀ s : Dev, Low a s.od → Low a (f s).od)
    (h : Low a s.od) : Low a (s.when b f).od := by
  unfold Dev.when; split
  · exact hf s h
  · exact h
theorem Low.each {a : Tab Int} {α : Type} {f : Dev → α → Dev} (hf : ∀ s x, Low a s.od → Low a (f s x).od) (l : List α) :
    ∀ {s : Dev}, Low a s.od → Low a (s.each l f).od := by
  induction l with
  | nil => intro s h; exact h
  | cons x l ih => intro s h; rw [Dev.each_cons]; exact ih (hf s x h)

theorem Low.ite {a : Tab Int} {c : Prop} [Decidable c] {x y : Dev} (hx : Low a x.od) (hy : Low a y.od) :
    Low a (if c then x else y).od := by
  split
  · exact hx
  · exact hy
theorem Low.eachPut {a : Tab Int} (v : Int) (l : List Nat) (hl : ∀ k ∈ l, 0x110000 ≤ k) :
    ∀ {s : Dev}, Low a s.od → Low a (s.each l fun s k => s.put k v).od := by
  induction l with
  | nil => intro s h; exact h
  | cons x l ih =>
    intro s h
    rw [Dev.each_cons]
    exact ih (fun k hk => hl k (List.mem_cons_of_mem _ hk)) (h.put _ (hl x (List.mem_cons_self ..)))

theorem Low.phaseDone {z : Tab Int} {s : Dev} (a : Nat) (h : Low z s.od) : Low z (s.phaseDone a).od := by
  unfold Dev.phaseDone
  repeat' first
    | with_reducible assumption
    | with_reducible refine Low.put _ (by first | decide | exact Nat.le_trans (by decide) (Nat.le_add_right _ _)) ?_
    | with_reducible refine Low.ite ?_ ?_
theorem Low.endHoldover {z : Tab Int} {s : Dev} (h : Low z s.od) : Low z (s.endHoldover).od := by
  unfold Dev.endHoldover
  repeat' first
    | with_reducible assumption
    | with_reducible refine Low.put _ (by decide) ?_
theorem Low.live {z : Tab Int} {s : Dev} (src detail : Nat) (b : Bool) (h : Low z s.od) : Low z (s.live src detail b).od := by
  unfold Dev.live
  repeat' first
    | with_reducible assumption
    | with_reducible refine Low.flag _ (by first | decide | exact Nat.le_trans (by decide) (Nat.le_add_right _ _)) ?_
    | with_reducible refine Low.unflag _ (by first | decide | exact Nat.le_trans (by decide) (Nat.le_add_right _ _)) ?_
    | with_reducible refine Low.ite ?_ ?_
    | split
    | dsimp only
    | simp only [Dev.modFrec_od, Dev.report_od]
theorem Low.leaveHold {z : Tab Int} {s : Dev} (a m : Nat) (fresh : Bool) (h : Low z s.od) : Low z (s.leaveHold a m fresh).od := by
  unfold Dev.leaveHold
  repeat' first
    | with_reducible assumption
    | with_reducible refine Low.live _ _ _ ?_
    | with_reducible refine Low.endHoldover ?_
    | with_reducible refine Low.ite ?_ ?_
    | split
    | dsimp only
    | simp only [Dev.modKeep_od]
theorem Low.forgetPassed {z : Tab Int} {s : Dev} (h : Low z s.od) : Low z (s.forgetPassed).od := by
  unfold Dev.forgetPassed
  repeat' first
    | with_reducible assumption
    | with_reducible refine Low.each (fun s x h => ?_) _ ?_
    | dsimp only
    | simp only [Dev.modAntenna_od]
theorem Low.takeLoSource {z : Tab Int} {s : Dev} (h : Low z s.od) : Low z (s.takeLoSource).od := by
  unfold Dev.takeLoSource
  repeat' first
    | with_reducible assumption
    | with_reducible refine Low.put _ (by first | decide | exact Nat.le_trans (by decide) (Nat.le_add_right _ _)) ?_
    | with_reducible refine Low.flag _ (by first | decide | exact Nat.le_trans (by decide) (Nat.le_add_right _ _)) ?_
    | with_reducible refine Low.when _ (fun s h => ?_) ?_
    | with_reducible refine Low.live _ _ _ ?_
    | with_reducible refine Low.ite ?_ ?_
    | split
    | dsimp only
    | simp only [Dev.modKeep_od]
theorem Low.dropPoints {z : Tab Int} {s : Dev} (h : Low z s.od) : Low z (s.dropPoints).od := by
  unfold Dev.dropPoints
  repeat' first
    | with_reducible assumption
    | with_reducible refine Low.put _ (by first | decide | exact Nat.le_trans (by decide) (Nat.le_add_right _ _)) ?_
    | dsimp only
    | simp only [Dev.modKeep_od]
theorem Low.putUncertainties {z : Tab Int} {s : Dev} (u : Nat × Nat × Nat) (h : Low z s.od) : Low z (s.putUncertainties u).od := by
  unfold Dev.putUncertainties
  repeat' first
    | with_reducible assumption
    | with_reducible refine Low.put _ (by decide) ?_
theorem Low.resetModel {z : Tab Int} {s : Dev} (h : Low z s.od) : Low z (s.resetModel).od := by
  unfold Dev.resetModel
  repeat' first
    | with_reducible assumption
    | with_reducible refine Low.put _ (by first | decide | exact Nat.le_trans (by decide) (Nat.le_add_right _ _)) ?_
    | with_reducible refine Low.flag _ (by first | decide | exact Nat.le_trans (by decide) (Nat.le_add_right _ _)) ?_
    | with_reducible refine Low.eachPut _ _ (by decide) ?_
    | with_reducible refine Low.each (fun s x h => ?_) _ ?_
    | with_reducible refine Low.putUncertainties _ ?_
    | with_reducible refine Low.dropPoints ?_
    | dsimp only
    | simp only [Dev.modKeep_od]
theorem Low.restoreModel {z : Tab Int} {s : Dev} (changed : Bool) (h : Low z s.od) : Low z (s.restoreModel changed).od := by
  unfold Dev.restoreModel
  repeat' first
    | with_reducible assumption
    | with_reducible refine Low.put _ (by first | decide | exact Nat.le_trans (by decide) (Nat.le_add_right _ _)) ?_
    | with_reducible refine Low.flag _ (by first | decide | exact Nat.le_trans (by decide) (Nat.le_add_right _ _)) ?_
    | with_reducible refine Low.resetModel ?_
    | with_reducible refine Low.putUncertainties _ ?_
    | with_reducible refine Low.dropPoints ?_
    | with_reducible refine Low.ite ?_ ?_
    | split
    | dsimp only
    | simp only [Dev.modKeep_od]
theorem Low.showInc {z : Tab Int} {s : Dev} (n inc : Nat) (h : Low z s.od) : Low z (s.showInc n inc).od := by
  unfold Dev.showInc
  repeat' first
    | with_reducible assumption
    | with_reducible refine Low.put _ (by first | decide | exact Nat.le_trans (by decide) (Nat.le_add_right _ _)) ?_
theorem Low.passEntry {z : Tab Int} {s : Dev} (new : Int) (e : Nat) (h : Low z s.od) : Low z (s.passEntry new e).od := by
  unfold Dev.passEntry
  repeat' first
    | with_reducible assumption
    | with_reducible refine Low.flag _ (by first | decide | exact Nat.le_trans (by decide) (Nat.le_add_right _ _)) ?_
    | with_reducible refine Low.when _ (fun s h => ?_) ?_
    | with_reducible refine Low.each (fun s x h => ?_) _ ?_
    | with_reducible refine Low.ite ?_ ?_
    | split
    | dsimp only
    | simp only [Dev.modSched_od]
theorem Low.acrossStep {z : Tab Int} {s : Dev} (n : Nat) (old new : Int) (h : Low z s.od) : Low z (s.acrossStep n old new).od := by
  unfold Dev.acrossStep
  repeat' first
    | with_reducible assumption
    | with_reducible refine Low.each (fun s x h => ?_) _ ?_
    | with_reducible refine Low.passEntry _ _ ?_
    | with_reducible refine Low.ite ?_ ?_
    | split
    | dsimp only
    | simp only [Dev.modTio_od]
theorem Low.startTs {z : Tab Int} {s : Dev} (n val inc : Nat) (h : Low z s.od) : Low z (s.startTs n val inc).od := by
  unfold Dev.startTs
  repeat' first
    | with_reducible assumption
    | with_reducible refine Low.put _ (by first | decide | exact Nat.le_trans (by decide) (Nat.le_add_right _ _)) ?_
    | with_reducible refine Low.acrossStep _ _ _ ?_
    | with_reducible refine Low.showInc _ _ ?_
    | dsimp only
    | simp only [Dev.modScale_od, Dev.mark_od]
theorem Low.startScale {z : Tab Int} {s : Dev} (n : Nat) (h : Low z s.od) : Low z (s.startScale n).od := by
  unfold Dev.startScale
  repeat' first
    | with_reducible assumption
    | with_reducible refine Low.put _ (by first | decide | exact Nat.le_trans (by decide) (Nat.le_add_right _ _)) ?_
    | with_reducible refine Low.flag _ (by first | decide | exact Nat.le_trans (by decide) (Nat.le_add_right _ _)) ?_
    | with_reducible refine Low.startTs _ _ _ ?_
    | with_reducible refine Low.ite ?_ ?_
    | split
    | dsimp only
    | simp only [Dev.modScale_od]
theorem Low.patSettle {z : Tab Int} {s : Dev} (i : Nat) (h : Low z s.od) : Low z (s.patSettle i).od := by
  unfold Dev.patSettle
  repeat' first
    | with_reducible assumption
    | with_reducible refine Low.put _ (by first | decide | exact Nat.le_trans (by decide) (Nat.le_add_right _ _)) ?_
    | with_reducible refine Low.ite ?_ ?_
    | split
    | dsimp only
    | simp only [Dev.modLane_od]
theorem Low.patternsOff {z : Tab Int} {s : Dev} (l : Nat) (h : Low z s.od) : Low z (s.patternsOff l).od := by
  unfold Dev.patternsOff
  repeat' first
    | with_reducible assumption
    | with_reducible refine Low.put _ (by first | decide | exact Nat.le_trans (by decide) (Nat.le_add_right _ _)) ?_
    | with_reducible refine Low.patSettle _ ?_
    | with_reducible refine Low.ite ?_ ?_
theorem Low.eyeAbort {z : Tab Int} {s : Dev} (l : Nat) (h : Low z s.od) : Low z (s.eyeAbort l).od := by
  unfold Dev.eyeAbort
  repeat' first
    | with_reducible assumption
    | with_reducible refine Low.put _ (by first | decide | exact Nat.le_trans (by decide) (Nat.le_add_right _ _)) ?_
    | with_reducible refine Low.ite ?_ ?_
    | split
    | dsimp only
    | simp only [Dev.modLane_od]
theorem Low.laneTo {z : Tab Int} {s : Dev} (l st : Nat) (h : Low z s.od) : Low z (s.laneTo l st).od := by
  unfold Dev.laneTo
  repeat' first
    | with_reducible assumption
    | with_reducible refine Low.put _ (by first | decide | exact Nat.le_trans (by decide) (Nat.le_add_right _ _)) ?_
    | with_reducible refine Low.eyeAbort _ ?_
    | with_reducible refine Low.patternsOff _ ?_
    | with_reducible refine Low.live _ _ _ ?_
    | with_reducible refine Low.ite ?_ ?_
theorem Low.portFollows {z : Tab Int} {s : Dev} (l : Nat) (h : Low z s.od) : Low z (s.portFollows l).od := by
  unfold Dev.portFollows
  repeat' first
    | with_reducible assumption
    | with_reducible refine Low.put _ (by first | decide | exact Nat.le_trans (by decide) (Nat.le_add_right _ _)) ?_
    | with_reducible refine Low.ite ?_ ?_
    | split
theorem Low.eqPending {z : Tab Int} {s : Dev} (l : Nat) (h : Low z s.od) : Low z (s.eqPending l).od := by
  unfold Dev.eqPending
  repeat' first
    | with_reducible assumption
    | with_reducible refine Low.putBit _ _ (by first | decide | exact Nat.le_trans (by decide) (Nat.le_add_right _ _)) ?_
    | with_reducible refine Low.flag _ (by first | decide | exact Nat.le_trans (by decide) (Nat.le_add_right _ _)) ?_
    | with_reducible refine Low.when _ (fun s h => ?_) ?_
theorem Low.laneCalibrate {z : Tab Int} {s : Dev} (l : Nat) (h : Low z s.od) : Low z (s.laneCalibrate l).od := by
  unfold Dev.laneCalibrate
  repeat' first
    | with_reducible assumption
    | with_reducible refine Low.put _ (by first | decide | exact Nat.le_trans (by decide) (Nat.le_add_right _ _)) ?_
    | with_reducible refine Low.each (fun s x h => ?_) _ ?_
    | with_reducible refine Low.eqPending _ ?_
    | with_reducible refine Low.portFollows _ ?_
    | with_reducible refine Low.laneTo _ _ ?_
    | dsimp only
    | simp only [Dev.modLane_od]
theorem Low.startLanes {z : Tab Int} {s : Dev} (h : Low z s.od) : Low z (s.startLanes).od := by
  unfold Dev.startLanes
  repeat' first
    | with_reducible assumption
    | with_reducible refine Low.each (fun s x h => ?_) _ ?_
    | with_reducible refine Low.laneCalibrate _ ?_
    | with_reducible refine Low.ite ?_ ?_
theorem Low.dropSearches {z : Tab Int} {s : Dev} (f : Nat → Bool) (h : Low z s.od) : Low z (s.dropSearches f).od := by
  unfold Dev.dropSearches
  repeat' first
    | with_reducible assumption
    | with_reducible refine Low.ite ?_ ?_
    | split
    | dsimp only
    | simp only [Dev.modGnss_od]
theorem Low.queueSearch {z : Tab Int} {s : Dev} (q : Search) (h : Low z s.od) : Low z (s.queueSearch q).od := by
  unfold Dev.queueSearch
  repeat' first
    | with_reducible assumption
    | with_reducible refine Low.put _ (by first | decide | exact Nat.le_trans (by decide) (Nat.le_add_right _ _)) ?_
    | with_reducible refine Low.ite ?_ ?_
    | split
    | dsimp only
    | simp only [Dev.modGnss_od]
theorem Low.searchAgain {z : Tab Int} {s : Dev} (c : Nat) (h : Low z s.od) : Low z (s.searchAgain c).od := by
  unfold Dev.searchAgain
  repeat' first
    | with_reducible assumption
    | with_reducible refine Low.queueSearch _ ?_
theorem Low.countTracking {z : Tab Int} {s : Dev} (k : Nat) (h : Low z s.od) : Low z (s.countTracking k).od := by
  unfold Dev.countTracking
  repeat' first
    | with_reducible assumption
    | with_reducible refine Low.put _ (by first | decide | exact Nat.le_trans (by decide) (Nat.le_add_right _ _)) ?_
theorem Low.stopChannels {z : Tab Int} {s : Dev} (k st : Nat) (h : Low z s.od) : Low z (s.stopChannels k st).od := by
  unfold Dev.stopChannels
  repeat' first
    | with_reducible assumption
    | with_reducible refine Low.put _ (by first | decide | exact Nat.le_trans (by decide) (Nat.le_add_right _ _)) ?_
    | with_reducible refine Low.each (fun s x h => ?_) _ ?_
    | with_reducible refine Low.countTracking _ ?_
    | with_reducible refine Low.searchAgain _ ?_
    | with_reducible refine Low.dropSearches _ ?_
    | with_reducible refine Low.ite ?_ ?_
theorem Low.gfeSend {z : Tab Int} {s : Dev} (sel : Nat) (bs : List Byte) (h : Low z s.od) : Low z (s.gfeSend sel bs).od := by
  unfold Dev.gfeSend
  repeat' first
    | with_reducible assumption
    | with_reducible refine Low.bump (by first | decide | exact Nat.le_trans (by decide) (Nat.le_add_right _ _)) ?_
    | dsimp only
    | simp only [Dev.emit_od]
theorem Low.playScript {z : Tab Int} {s : Dev} (k : Nat) (h : Low z s.od) : Low z (s.playScript k).od := by
  unfold Dev.playScript
  repeat' first
    | with_reducible assumption
    | with_reducible refine Low.each (fun s x h => ?_) _ ?_
    | with_reducible refine Low.gfeSend _ _ ?_
    | with_reducible refine Low.stopChannels _ _ ?_
theorem Low.playScripts {z : Tab Int} {s : Dev} (h : Low z s.od) : Low z (s.playScripts).od := by
  unfold Dev.playScripts
  repeat' first
    | with_reducible assumption
    | with_reducible refine Low.each (fun s x h => ?_) _ ?_
    | with_reducible refine Low.playScript _ ?_
theorem Low.enterCalibrate {z : Tab Int} {s : Dev} (h : Low z s.od) : Low z (s.enterCalibrate).od := by
  unfold Dev.enterCalibrate
  repeat' first
    | with_reducible assumption
    | with_reducible refine Low.put _ (by first | decide | exact Nat.le_trans (by decide) (Nat.le_add_right _ _)) ?_
    | with_reducible refine Low.each (fun s x h => ?_) _ ?_
    | with_reducible refine Low.playScripts ?_
    | with_reducible refine Low.startLanes ?_
    | with_reducible refine Low.startScale _ ?_
    | with_reducible refine Low.restoreModel _ ?_
    | with_reducible refine Low.takeLoSource ?_
    | with_reducible refine Low.ite ?_ ?_
theorem Low.beginMode {z : Tab Int} {s : Dev} (m : Nat) (h : Low z s.od) : Low z (s.beginMode m).od := by
  unfold Dev.beginMode
  repeat' first
    | with_reducible assumption
    | with_reducible refine Low.enterCalibrate ?_
    | with_reducible refine Low.forgetPassed ?_
    | with_reducible refine Low.ite ?_ ?_
    | split
    | dsimp only
    | simp only [Dev.modEbe_od, Dev.modScale_od]
theorem Low.noSlew {z : Tab Int} {s : Dev} (n : Nat) (h : Low z s.od) : Low z (s.noSlew n).od := by
  unfold Dev.noSlew
  repeat' first
    | with_reducible assumption
    | with_reducible refine Low.put _ (by first | decide | exact Nat.le_trans (by decide) (Nat.le_add_right _ _)) ?_
    | dsimp only
    | simp only [Dev.modScale_od]
theorem Low.showServo {z : Tab Int} {s : Dev} (n : Nat) (h : Low z s.od) : Low z (s.showServo n).od := by
  unfold Dev.showServo
  repeat' first
    | with_reducible assumption
    | with_reducible refine Low.put _ (by first | decide | exact Nat.le_trans (by decide) (Nat.le_add_right _ _)) ?_
theorem Low.endLock {z : Tab Int} {s : Dev} (n : Nat) (h : Low z s.od) : Low z (s.endLock n).od := by
  unfold Dev.endLock
  repeat' first
    | with_reducible assumption
    | with_reducible refine Low.showServo _ ?_
    | dsimp only
    | simp only [Dev.modScale_od]
theorem Low.latchBound {z : Tab Int} {s : Dev} (n : Nat) (h : Low z s.od) : Low z (s.latchBound n).od := by
  unfold Dev.latchBound
  repeat' first
    | with_reducible assumption
    | dsimp only
    | simp only [Dev.modEbr_od]
theorem Low.reanchor {z : Tab Int} {s : Dev} (h : Low z s.od) : Low z (s.reanchor).od := by
  unfold Dev.reanchor
  repeat' first
    | with_reducible assumption
    | with_reducible refine Low.put _ (by first | decide | exact Nat.le_trans (by decide) (Nat.le_add_right _ _)) ?_
    | with_reducible refine Low.flag _ (by first | decide | exact Nat.le_trans (by decide) (Nat.le_add_right _ _)) ?_
    | with_reducible refine Low.ite ?_ ?_
theorem Low.startGrowth {z : Tab Int} {s : Dev} (h : Low z s.od) : Low z (s.startGrowth).od := by
  unfold Dev.startGrowth
  repeat' first
    | with_reducible assumption
    | with_reducible refine Low.put _ (by first | decide | exact Nat.le_trans (by decide) (Nat.le_add_right _ _)) ?_
    | dsimp only
    | simp only [Dev.modKeep_od]
theorem Low.setOwner {z : Tab Int} {s : Dev} (n o : Nat) (h : Low z s.od) : Low z (s.setOwner n o).od := by
  unfold Dev.setOwner
  repeat' first
    | with_reducible assumption
    | with_reducible refine Low.put _ (by first | decide | exact Nat.le_trans (by decide) (Nat.le_add_right _ _)) ?_
    | with_reducible refine Low.startGrowth ?_
    | with_reducible refine Low.reanchor ?_
    | with_reducible refine Low.latchBound _ ?_
    | with_reducible refine Low.endLock _ ?_
    | with_reducible refine Low.showServo _ ?_
    | with_reducible refine Low.noSlew _ ?_
    | with_reducible refine Low.live _ _ _ ?_
    | with_reducible refine Low.ite ?_ ?_
    | split
    | dsimp only
    | simp only [Dev.modEbe_od, Dev.modScale_od, Dev.modKeep_od]
theorem Low.ownersFor {z : Tab Int} {s : Dev} (m : Nat) (h : Low z s.od) : Low z (s.ownersFor m).od := by
  unfold Dev.ownersFor
  repeat' first
    | with_reducible assumption
    | with_reducible refine Low.each (fun s x h => ?_) _ ?_
    | with_reducible refine Low.setOwner _ _ ?_
    | with_reducible refine Low.ite ?_ ?_
    | split
theorem Low.startHoldover {z : Tab Int} {s : Dev} (h : Low z s.od) : Low z (s.startHoldover).od := by
  unfold Dev.startHoldover
  repeat' first
    | with_reducible assumption
    | with_reducible refine Low.put _ (by first | decide | exact Nat.le_trans (by decide) (Nat.le_add_right _ _)) ?_
    | with_reducible refine Low.bump (by first | decide | exact Nat.le_trans (by decide) (Nat.le_add_right _ _)) ?_
    | with_reducible refine Low.startGrowth ?_
theorem Low.enterHold {z : Tab Int} {s : Dev} (m : Nat) (fresh kept : Bool) (h : Low z s.od) : Low z (s.enterHold m fresh kept).od := by
  unfold Dev.enterHold
  repeat' first
    | with_reducible assumption
    | with_reducible refine Low.startHoldover ?_
    | with_reducible refine Low.latchBound _ ?_
    | with_reducible refine Low.ite ?_ ?_
theorem Low.cutPulse {z : Tab Int} {s : Dev} (n : Nat) (h : Low z s.od) : Low z (s.cutPulse n).od := by
  unfold Dev.cutPulse
  repeat' first
    | with_reducible assumption
    | with_reducible refine Low.flag _ (by first | decide | exact Nat.le_trans (by decide) (Nat.le_add_right _ _)) ?_
    | with_reducible refine Low.bump (by first | decide | exact Nat.le_trans (by decide) (Nat.le_add_right _ _)) ?_
    | with_reducible refine Low.ite ?_ ?_
    | split
    | dsimp only
    | simp only [Dev.modTio_od]
theorem Low.holdOutputs {z : Tab Int} {s : Dev} (m : Nat) (h : Low z s.od) : Low z (s.holdOutputs m).od := by
  unfold Dev.holdOutputs
  repeat' first
    | with_reducible assumption
    | with_reducible refine Low.put _ (by first | decide | exact Nat.le_trans (by decide) (Nat.le_add_right _ _)) ?_
    | with_reducible refine Low.each (fun s x h => ?_) _ ?_
    | with_reducible refine Low.cutPulse _ ?_
theorem Low.startOsyn {z : Tab Int} {s : Dev} (i : Nat) (h : Low z s.od) : Low z (s.startOsyn i).od := by
  unfold Dev.startOsyn
  repeat' first
    | with_reducible assumption
    | with_reducible refine Low.put _ (by first | decide | exact Nat.le_trans (by decide) (Nat.le_add_right _ _)) ?_
    | with_reducible refine Low.ite ?_ ?_
theorem Low.resumeOutputs {z : Tab Int} {s : Dev} (m : Nat) (h : Low z s.od) : Low z (s.resumeOutputs m).od := by
  unfold Dev.resumeOutputs
  repeat' first
    | with_reducible assumption
    | with_reducible refine Low.put _ (by first | decide | exact Nat.le_trans (by decide) (Nat.le_add_right _ _)) ?_
    | with_reducible refine Low.each (fun s x h => ?_) _ ?_
    | with_reducible refine Low.startOsyn _ ?_
    | dsimp only
    | simp only [Dev.modTio_od]
theorem Low.outputsBetween {z : Tab Int} {s : Dev} (a m : Nat) (h : Low z s.od) : Low z (s.outputsBetween a m).od := by
  unfold Dev.outputsBetween
  repeat' first
    | with_reducible assumption
    | with_reducible refine Low.put _ (by first | decide | exact Nat.le_trans (by decide) (Nat.le_add_right _ _)) ?_
    | with_reducible refine Low.each (fun s x h => ?_) _ ?_
    | with_reducible refine Low.resumeOutputs _ ?_
    | with_reducible refine Low.holdOutputs _ ?_
    | with_reducible refine Low.ite ?_ ?_
theorem Low.noteBoot {z : Tab Int} {s : Dev} (m : Nat) (h : Low z s.od) : Low z (s.noteBoot m).od := by
  unfold Dev.noteBoot
  repeat' first
    | with_reducible assumption
    | with_reducible refine Low.put _ (by first | decide | exact Nat.le_trans (by decide) (Nat.le_add_right _ _)) ?_
    | with_reducible refine Low.ite ?_ ?_
theorem Low.runTimers {z : Tab Int} {s : Dev} (run : Bool) (h : Low z s.od) : Low z (s.runTimers run).od := by
  unfold Dev.runTimers
  repeat' first
    | with_reducible assumption
    | with_reducible refine Low.each (fun s x h => ?_) _ ?_
    | with_reducible refine Low.ite ?_ ?_
    | split
    | dsimp only
    | simp only [Dev.modRr_od]
theorem Low.cinchChange {z : Tab Int} {s : Dev} (ran : Bool) (h : Low z s.od) : Low z (s.cinchChange ran).od := by
  unfold Dev.cinchChange
  repeat' first
    | with_reducible assumption
    | with_reducible refine Low.runTimers _ ?_
    | with_reducible refine Low.ite ?_ ?_
theorem Low.serviceUpdate {z : Tab Int} {s : Dev} (h : Low z s.od) : Low z (s.serviceUpdate).od := by
  unfold Dev.serviceUpdate
  repeat' first
    | with_reducible assumption
    | with_reducible refine Low.put _ (by first | decide | exact Nat.le_trans (by decide) (Nat.le_add_right _ _)) ?_
    | with_reducible refine Low.flag _ (by first | decide | exact Nat.le_trans (by decide) (Nat.le_add_right _ _)) ?_
    | with_reducible refine Low.ite ?_ ?_
theorem Low.aliveUpdate {z : Tab Int} {s : Dev} (h : Low z s.od) : Low z (s.aliveUpdate).od := by
  unfold Dev.aliveUpdate
  repeat' first
    | with_reducible assumption
    | with_reducible refine Low.put _ (by first | decide | exact Nat.le_trans (by decide) (Nat.le_add_right _ _)) ?_
    | with_reducible refine Low.flag _ (by first | decide | exact Nat.le_trans (by decide) (Nat.le_add_right _ _)) ?_
    | with_reducible refine Low.ite ?_ ?_
theorem Low.setSlot {z : Tab Int} {s : Dev} (n : Nat) (x : Slot) (h : Low z s.od) : Low z (s.setSlot n x).od := by
  unfold Dev.setSlot
  repeat' first
    | with_reducible assumption
    | with_reducible refine Low.put _ (by decide) ?_
theorem Low.emptySlot {z : Tab Int} {s : Dev} (n : Nat) (h : Low z s.od) : Low z (s.emptySlot n).od := by
  unfold Dev.emptySlot
  repeat' first
    | with_reducible assumption
    | with_reducible refine Low.setSlot _ _ ?_
theorem Low.journalObjects {z : Tab Int} {s : Dev} (last : Nat) (h : Low z s.od) : Low z (s.journalObjects last).od := by
  unfold Dev.journalObjects
  repeat' first
    | with_reducible assumption
    | with_reducible refine Low.put _ (by decide) ?_
theorem Low.jMod {z : Tab Int} {s : Dev} (id : Nat) (f : JRec → JRec) (h : Low z s.od) : Low z (s.jMod id f).od := by
  unfold Dev.jMod
  repeat' first
    | with_reducible assumption
    | with_reducible refine Low.journalObjects _ ?_
    | with_reducible refine Low.ite ?_ ?_
theorem Low.jStep {z : Tab Int} {s : Dev} (id n : Nat) (h : Low z s.od) : Low z (s.jStep id n).od := by
  unfold Dev.jStep
  repeat' first
    | with_reducible assumption
    | with_reducible refine Low.jMod _ _ ?_
theorem Low.jEnd {z : Tab Int} {s : Dev} (id outcome : Nat) (h : Low z s.od) : Low z (s.jEnd id outcome).od := by
  unfold Dev.jEnd
  repeat' first
    | with_reducible assumption
    | with_reducible refine Low.jMod _ _ ?_
theorem Low.completeResets {z : Tab Int} {s : Dev} (h : Low z s.od) : Low z (s.completeResets).od := by
  unfold Dev.completeResets
  repeat' first
    | with_reducible assumption
    | with_reducible refine Low.each (fun s x h => ?_) _ ?_
    | with_reducible refine Low.jEnd _ _ ?_
    | with_reducible refine Low.jStep _ _ ?_
    | dsimp only
    | simp only [Dev.modFlt_od]
theorem Low.lifeDone {z : Tab Int} {s : Dev} (h : Low z s.od) : Low z (s.lifeDone).od := by
  unfold Dev.lifeDone
  repeat' first
    | with_reducible assumption
    | with_reducible refine Low.put _ (by first | decide | exact Nat.le_trans (by decide) (Nat.le_add_right _ _)) ?_
    | with_reducible refine Low.jEnd _ _ ?_
    | with_reducible refine Low.jStep _ _ ?_
    | split
theorem Low.updateDone {z : Tab Int} {s : Dev} (id : Nat) (h : Low z s.od) : Low z (s.updateDone id).od := by
  unfold Dev.updateDone
  repeat' first
    | with_reducible assumption
    | with_reducible refine Low.put _ (by first | decide | exact Nat.le_trans (by decide) (Nat.le_add_right _ _)) ?_
    | with_reducible refine Low.jEnd _ _ ?_
    | dsimp only
    | simp only [Dev.modUpdate_od]
theorem Low.updateResume {z : Tab Int} {s : Dev} (ids : List Nat) (h : Low z s.od) : Low z (s.updateResume ids).od := by
  unfold Dev.updateResume Dev.jOpen
  dsimp only
  repeat' first
    | with_reducible assumption
    | with_reducible refine Low.put _ (by first | decide | exact Nat.le_trans (by decide) (Nat.le_add_right _ _)) ?_
    | with_reducible refine Low.updateDone _ ?_
    | with_reducible refine Low.jStep _ _ ?_
    | with_reducible refine Low.journalObjects _ ?_
    | with_reducible refine Low.ite ?_ ?_
    | split
    | dsimp only
    | simp only [Dev.modUpdate_od]
theorem Low.normaliseJournal {z : Tab Int} {s : Dev} (h : Low z s.od) : Low z (s.normaliseJournal).od := by
  unfold Dev.normaliseJournal
  repeat' first
    | with_reducible assumption
    | with_reducible refine Low.each (fun s x h => ?_) _ ?_
    | with_reducible refine Low.updateResume _ ?_
    | with_reducible refine Low.jEnd _ _ ?_
    | with_reducible refine Low.journalObjects _ ?_
theorem Low.beginConfigure {z : Tab Int} {s : Dev} (mirrorOk : Bool) (h : Low z s.od) : Low z (s.beginConfigure mirrorOk).od := by
  unfold Dev.beginConfigure
  repeat' first
    | with_reducible assumption
    | with_reducible refine Low.flag _ (by first | decide | exact Nat.le_trans (by decide) (Nat.le_add_right _ _)) ?_
    | with_reducible refine Low.each (fun s x h => ?_) _ ?_
    | with_reducible refine Low.normaliseJournal ?_
    | with_reducible refine Low.lifeDone ?_
    | with_reducible refine Low.completeResets ?_
    | with_reducible refine Low.emptySlot _ ?_
    | with_reducible refine Low.ite ?_ ?_
    | split
    | dsimp only
    | simp only [Dev.report_od]
theorem Low.gateStart {z : Tab Int} {s : Dev} (n : Nat) (h : Low z s.od) : Low z (s.gateStart n).od := by
  unfold Dev.gateStart
  repeat' first
    | with_reducible assumption
    | dsimp only
    | simp only [Dev.modCap_od]
theorem Low.awlShow {z : Tab Int} {s : Dev} (n : Nat) (h : Low z s.od) : Low z (s.awlShow n).od := by
  unfold Dev.awlShow
  repeat' first
    | with_reducible assumption
    | with_reducible refine Low.put _ (by first | decide | exact Nat.le_trans (by decide) (Nat.le_add_right _ _)) ?_
    | with_reducible refine Low.ite ?_ ?_
theorem Low.awlStart {z : Tab Int} {s : Dev} (n : Nat) (h : Low z s.od) : Low z (s.awlStart n).od := by
  unfold Dev.awlStart
  repeat' first
    | with_reducible assumption
    | with_reducible refine Low.awlShow _ ?_
    | with_reducible refine Low.gateStart _ ?_
    | dsimp only
    | simp only [Dev.modCap_od]
theorem Low.awlStick {z : Tab Int} {s : Dev} (d b : Nat) (h : Low z s.od) : Low z (s.awlStick d b).od := by
  unfold Dev.awlStick
  repeat' first
    | with_reducible assumption
    | with_reducible refine Low.flag _ (by first | decide | exact Nat.le_trans (by decide) (Nat.le_add_right _ _)) ?_
    | with_reducible refine Low.ite ?_ ?_
theorem Low.reuseSkew {z : Tab Int} {s : Dev} (n : Nat) (h : Low z s.od) : Low z (s.reuseSkew n).od := by
  unfold Dev.reuseSkew
  repeat' first
    | with_reducible assumption
    | with_reducible refine Low.put _ (by first | decide | exact Nat.le_trans (by decide) (Nat.le_add_right _ _)) ?_
    | with_reducible refine Low.awlStick _ _ ?_
    | dsimp only
    | simp only [Dev.modEbe_od]
theorem Low.showNext {z : Tab Int} {s : Dev} (h : Low z s.od) : Low z (s.showNext).od := by
  unfold Dev.showNext
  repeat' first
    | with_reducible assumption
    | with_reducible refine Low.put _ (by decide) ?_
theorem Low.awlReady {z : Tab Int} {s : Dev} (h : Low z s.od) : Low z (s.awlReady).od := by
  unfold Dev.awlReady
  repeat' first
    | with_reducible assumption
    | with_reducible refine Low.put _ (by first | decide | exact Nat.le_trans (by decide) (Nat.le_add_right _ _)) ?_
    | with_reducible refine Low.each (fun s x h => ?_) _ ?_
    | with_reducible refine Low.showNext ?_
    | with_reducible refine Low.reuseSkew _ ?_
    | with_reducible refine Low.awlStart _ ?_
    | with_reducible refine Low.ite ?_ ?_
    | split
theorem Low.pmcAdd {z : Tab Int} {s : Dev} (k n : Nat) (h : Low z s.od) : Low z (s.pmcAdd k n).od := by
  unfold Dev.pmcAdd
  repeat' first
    | with_reducible assumption
    | with_reducible refine Low.put _ (by first | decide | exact Nat.le_trans (by decide) (Nat.le_add_right _ _)) ?_
    | with_reducible refine Low.flag _ (by first | decide | exact Nat.le_trans (by decide) (Nat.le_add_right _ _) | (unfold pmcWord; split <;> decide)) ?_
    | with_reducible refine Low.when _ (fun s h => ?_) ?_
    | with_reducible refine Low.ite ?_ ?_
theorem Low.pmcQueue {z : Tab Int} {s : Dev} (e occ : Nat) (h : Low z s.od) : Low z (s.pmcQueue e occ).od := by
  unfold Dev.pmcQueue
  repeat' first
    | with_reducible assumption
    | with_reducible refine Low.each (fun s x h => ?_) _ ?_
    | with_reducible refine Low.pmcAdd _ _ ?_
    | with_reducible refine Low.ite ?_ ?_
    | split
    | dsimp only
    | simp only [Dev.pmcMark_od]
theorem Low.buckle {z : Tab Int} {s : Dev} (type : Nat) (fields : List Nat) (flags seq : Nat) (payload : List Byte) (h : Low z s.od) : Low z (s.buckle type fields flags seq payload).od := by
  unfold Dev.buckle
  repeat' first
    | with_reducible assumption
    | dsimp only
    | simp only [Dev.emit_od]
theorem Low.sendSeq {z : Tab Int} {s : Dev} (type : Nat) (fields : List Nat) (h : Low z s.od) : Low z (s.sendSeq type fields).od := by
  unfold Dev.sendSeq
  repeat' first
    | with_reducible assumption
    | with_reducible refine Low.put _ (by first | decide | exact Nat.le_trans (by decide) (Nat.le_add_right _ _)) ?_
    | with_reducible refine Low.buckle _ _ _ _ _ ?_
    | with_reducible refine Low.pmcQueue _ _ ?_
theorem Low.logInput {z : Tab Int} {s : Dev} (kind : Nat) (fields : List Nat) (h : Low z s.od) : Low z (s.logInput kind fields).od := by
  unfold Dev.logInput
  repeat' first
    | with_reducible assumption
    | with_reducible refine Low.sendSeq _ _ ?_
    | with_reducible refine Low.ite ?_ ?_
theorem Low.removeLoops {z : Tab Int} {s : Dev} (h : Low z s.od) : Low z (s.removeLoops).od := by
  unfold Dev.removeLoops
  repeat' first
    | with_reducible assumption
    | with_reducible refine Low.put _ (by first | decide | exact Nat.le_trans (by decide) (Nat.le_add_right _ _)) ?_
    | with_reducible refine Low.each (fun s x h => ?_) _ ?_
    | with_reducible refine Low.laneTo _ _ ?_
    | with_reducible refine Low.patternsOff _ ?_
    | with_reducible refine Low.ite ?_ ?_
theorem Low.startResync {z : Tab Int} {s : Dev} (h : Low z s.od) : Low z (s.startResync).od := by
  unfold Dev.startResync Dev.jOpen
  dsimp only
  repeat' first
    | with_reducible assumption
    | with_reducible refine Low.put _ (by first | decide | exact Nat.le_trans (by decide) (Nat.le_add_right _ _)) ?_
    | with_reducible refine Low.journalObjects _ ?_
    | with_reducible refine Low.ite ?_ ?_
    | split
/-! ### Rows -/

theorem Low.enterMode {s : Dev} (m cause : Nat) (bits : List Nat) (fresh : Bool) :
    Low (s.rowOf m cause bits).od (s.enterMode m cause bits fresh).od := by
  unfold Dev.enterMode
  dsimp only
  split
  · exact Low.refl _
  · exact .aliveUpdate (.serviceUpdate (.cinchChange _ (.noteBoot _ (.outputsBetween _ _ (.enterHold _ _ _ (.ownersFor _
      (.beginMode _ (.leaveHold _ _ _ (.refl _)))))))))

theorem each_flag_num_ne (bits : List Nat) {k j : Nat} (h : j ≠ k) :
    ∀ s : Dev, (s.each bits fun s b => s.flag k b).num j = s.num j := by
  induction bits with
  | nil => intro s; rfl
  | cons b l ih => intro s; rw [Dev.each_cons, ih, s.num_flag_ne _ h]

theorem each_flag_bit (bits : List Nat) (k i : Nat) :
    ∀ s : Dev, (s.each bits fun s b => s.flag k b).bit k i = (s.bit k i || bits.contains i) := by
  induction bits with
  | nil => intro s; simp
  | cons b l ih =>
    intro s
    rw [Dev.each_cons, ih]
    simp only [Dev.bit, Dev.nat, Dev.num_flag_self, Int.toNat_natCast, testBit_setBit, List.contains_cons]
    by_cases h : b = i
    · simp [h]
    · simp [h, beq_eq_false_iff_ne.2 (Ne.symm h)]

/-- The mode after a row is the mode it names. -/
@[simp] theorem Dev.enterMode_md (s : Dev) (m cause : Nat) (bits : List Nat) (fresh : Bool) :
    (s.enterMode m cause bits fresh).md = m := by
  have h := Low.enterMode (s := s) m cause bits fresh Od.opMode (by decide)
  have e : (s.rowOf m cause bits).num Od.opMode = m := by
    unfold Dev.rowOf
    rw [each_flag_num_ne _ (by decide)]
    simp only [Dev.modeRow, Dev.emit_num]
    show ((((_ : Dev).put Od.opMode m).put Od.modeSince _).put Od.lastModeCause _).num Od.opMode = m
    rw [Dev.num_put_ne _ _ (by decide), Dev.num_put_ne _ _ (by decide), Dev.num_put_self]
  show ((s.enterMode m cause bits fresh).num Od.opMode).toNat = m
  rw [show (s.enterMode m cause bits fresh).num Od.opMode = m from h.trans e]
  rfl

/-- LastModeCause after a row is the row's cause. -/
theorem Dev.enterMode_cause (s : Dev) (m cause : Nat) (bits : List Nat) (fresh : Bool) :
    (s.enterMode m cause bits fresh).num Od.lastModeCause = cause := by
  refine (Low.enterMode (s := s) m cause bits fresh Od.lastModeCause (by decide)).trans ?_
  show (s.rowOf m cause bits).num Od.lastModeCause = cause
  unfold Dev.rowOf
  rw [each_flag_num_ne _ (by decide)]
  simp only [Dev.modeRow, Dev.emit_num]
  exact Dev.num_put_self _ _ _

/-- ModeSticky after a row has the bits it had and those the row names. -/
theorem Dev.enterMode_sticky (s : Dev) (m cause : Nat) (bits : List Nat) (fresh : Bool) (i : Nat) :
    (s.enterMode m cause bits fresh).bit Od.modeSticky i = (s.bit Od.modeSticky i || bits.contains i) := by
  have h : (s.enterMode m cause bits fresh).num Od.modeSticky = (s.rowOf m cause bits).num Od.modeSticky :=
    Low.enterMode (s := s) m cause bits fresh Od.modeSticky (by decide)
  have e : (s.rowOf m cause bits).bit Od.modeSticky i = (s.bit Od.modeSticky i || bits.contains i) := by
    unfold Dev.rowOf
    rw [each_flag_bit]
    congr 1
    simp only [Dev.bit, Dev.nat, Dev.modeRow, Dev.emit_num]
    show (((((_ : Dev).put Od.opMode m).put Od.modeSince _).put Od.lastModeCause _).num Od.modeSticky).toNat.testBit i = _
    rw [Dev.num_put_ne _ _ (by decide), Dev.num_put_ne _ _ (by decide), Dev.num_put_ne _ _ (by decide)]
    split
    · rfl
    · rw [show (s.phaseDone s.md).num Od.modeSticky = s.num Od.modeSticky from
        Low.phaseDone s.md (Low.refl s.od) Od.modeSticky (by decide)]
  simp only [Dev.bit, Dev.nat] at e ⊢
  rw [h, e]

end Sys2Proof.Machine
end

