-- ==== Sys2Proof/Laws/Writes.lean ====
section
/-! SUPPORT. Laws of an accepted write: its entry in the input log and what follows its response leave everything but the
pair's log, the performance counters and what is put out. -/

namespace Sys2Proof.Machine

/-- A counter that is added to changes no object but the counters and their overflow words. -/
theorem Dev.pmcAdd_num (s : Dev) {k n j : Nat} (hk : k < 64) (h : j ∉ logObjects) : (s.pmcAdd k n).num j = s.num j := by
  have h1 : j ≠ Od.pmcValue k := by
    rintro rfl
    exact h (by simp only [logObjects, List.mem_cons, List.mem_map, List.mem_range]; exact .inr (.inr (.inr ⟨k, hk, rfl⟩)))
  have h2 : j ≠ pmcWord k := by
    rintro rfl
    refine h ?_
    unfold pmcWord
    split <;> simp [logObjects]
  unfold Dev.pmcAdd
  split
  · rfl
  · dsimp only
    unfold Dev.when
    split
    · rw [Dev.num_flag_ne _ _ h2, Dev.num_put_ne _ _ h1]
    · rw [Dev.num_put_ne _ _ h1]

/-- The counters of an event are among the 64. -/
theorem Dev.pmcOf_lt (s : Dev) {e k : Nat} (h : k ∈ s.pmcOf e) : k < 64 := by
  simp only [Dev.pmcOf, List.mem_filter, List.mem_map, Bool.and_eq_true, decide_eq_true_eq] at h
  obtain ⟨⟨p, ⟨_, ⟨⟨_, h1⟩, h2⟩, _⟩, rfl⟩, _⟩ := h
  omega

/-- Queue events change nothing but objects and the counters' registers. -/
theorem Dev.pmcQueue_keeps {α : Type} (s : Dev) (g : Dev → α) (hp : ∀ (d : Dev) (k : Nat) (v : Int), g (d.put k v) = g d)
    (hm : ∀ (d : Dev) (k t : Nat), g (d.pmcMark k t) = g d) (e occ : Nat) : g (s.pmcQueue e occ) = g s := by
  have hadd : ∀ (d : Dev) (k n : Nat), g (d.pmcAdd k n) = g d := by
    intro d k n
    unfold Dev.pmcAdd Dev.when
    split
    · rfl
    · dsimp only
      split
      · exact (hp _ _ _).trans (hp _ _ _)
      · exact hp _ _ _
  unfold Dev.pmcQueue Dev.each
  generalize s.pmcOf e = l
  induction l generalizing s with
  | nil => rfl
  | cons k l ih =>
    rw [List.foldl_cons, ih]
    dsimp only
    rw [hm]
    split
    · exact hadd _ _ _
    · rfl

/-- Of the objects they change the counters and their overflow words. -/
theorem Dev.pmcQueue_num (s : Dev) (e occ : Nat) {j : Nat} (h : j ∉ logObjects) : (s.pmcQueue e occ).num j = s.num j := by
  have key : ∀ (l : List Nat), (∀ k ∈ l, k < 64) → ∀ d : Dev, (d.each l fun s k =>
      let from' := s.pmcSince k
      let s := if s.nat (Od.pmcThreshold k) < occ then s.pmcAdd k (pmcCycles e (s.tick - from')) else s
      s.pmcMark k s.tick).num j = d.num j := by
    intro l
    induction l with
    | nil => intros; rfl
    | cons k l ih =>
      intro hl d
      rw [Dev.each_cons, ih fun i hi => hl i (List.mem_cons_of_mem _ hi)]
      dsimp only
      rw [Dev.pmcMark_num]
      split
      · exact Dev.pmcAdd_num _ (hl k (List.mem_cons_self ..)) h
      · rfl
  exact key _ (fun k hk => s.pmcOf_lt hk) s

theorem Dev.sendSeq_num (s : Dev) (t : Nat) (l : List Nat) {j : Nat} (h : j ∉ logObjects) :
    (s.sendSeq t l).num j = s.num j := by
  have h1 : j ≠ Od.retransmitBufferUse := by rintro rfl; simp [logObjects] at h
  simp only [Dev.sendSeq, Dev.buckle, Dev.emit_num]
  rw [Dev.num_put_ne _ _ h1]
  exact s.pmcQueue_num _ _ h

theorem Dev.logInput_num (s : Dev) (t : Nat) (l : List Nat) {j : Nat} (h : j ∉ logObjects) :
    (s.logInput t l).num j = s.num j := by
  unfold Dev.logInput
  split
  · exact Dev.sendSeq_num _ _ _ h
  · rfl

theorem Dev.logWrite_num (s : Dev) (q : Req) (l : List (Nat × Int)) {j : Nat} (h : j ∉ logObjects) :
    (s.logWrite q l).num j = s.num j := by
  simp only [Dev.logWrite]
  repeat' split
  all_goals first | rfl | exact s.logInput_num _ _ h

@[simp] theorem Dev.pmcQueue_tick (s : Dev) (e n : Nat) : (s.pmcQueue e n).tick = s.tick := s.pmcQueue_keeps (fun d => d.tick) (fun _ _ _ => rfl) (fun _ _ _ => rfl) e n
@[simp] theorem Dev.pmcQueue_cntZero (s : Dev) (e n : Nat) : (s.pmcQueue e n).cntZero = s.cntZero := s.pmcQueue_keeps (fun d => d.cntZero) (fun _ _ _ => rfl) (fun _ _ _ => rfl) e n
@[simp] theorem Dev.pmcQueue_aonTs0 (s : Dev) (e n : Nat) : (s.pmcQueue e n).aonTs0 = s.aonTs0 := s.pmcQueue_keeps (fun d => d.aonTs0) (fun _ _ _ => rfl) (fun _ _ _ => rfl) e n
@[simp] theorem Dev.pmcQueue_aonFrom (s : Dev) (e n : Nat) : (s.pmcQueue e n).aonFrom = s.aonFrom := s.pmcQueue_keeps (fun d => d.aonFrom) (fun _ _ _ => rfl) (fun _ _ _ => rfl) e n
@[simp] theorem Dev.pmcQueue_scales (s : Dev) (e n : Nat) : (s.pmcQueue e n).scales = s.scales := s.pmcQueue_keeps (fun d => d.scales) (fun _ _ _ => rfl) (fun _ _ _ => rfl) e n
@[simp] theorem Dev.pmcQueue_mode (s : Dev) (e n : Nat) : (s.pmcQueue e n).mode = s.mode := s.pmcQueue_keeps (fun d => d.mode) (fun _ _ _ => rfl) (fun _ _ _ => rfl) e n
@[simp] theorem Dev.pmcQueue_acc (s : Dev) (e n : Nat) : (s.pmcQueue e n).acc = s.acc := s.pmcQueue_keeps (fun d => d.acc) (fun _ _ _ => rfl) (fun _ _ _ => rfl) e n
@[simp] theorem Dev.pmcQueue_flt (s : Dev) (e n : Nat) : (s.pmcQueue e n).flt = s.flt := s.pmcQueue_keeps (fun d => d.flt) (fun _ _ _ => rfl) (fun _ _ _ => rfl) e n
@[simp] theorem Dev.pmcQueue_tugs (s : Dev) (e n : Nat) : (s.pmcQueue e n).tugs = s.tugs := s.pmcQueue_keeps (fun d => d.tugs) (fun _ _ _ => rfl) (fun _ _ _ => rfl) e n
@[simp] theorem Dev.pmcQueue_lanes (s : Dev) (e n : Nat) : (s.pmcQueue e n).lanes = s.lanes := s.pmcQueue_keeps (fun d => d.lanes) (fun _ _ _ => rfl) (fun _ _ _ => rfl) e n
@[simp] theorem Dev.pmcQueue_ports (s : Dev) (e n : Nat) : (s.pmcQueue e n).ports = s.ports := s.pmcQueue_keeps (fun d => d.ports) (fun _ _ _ => rfl) (fun _ _ _ => rfl) e n
@[simp] theorem Dev.pmcQueue_sel (s : Dev) (e n : Nat) : (s.pmcQueue e n).sel = s.sel := s.pmcQueue_keeps (fun d => d.sel) (fun _ _ _ => rfl) (fun _ _ _ => rfl) e n
@[simp] theorem Dev.pmcQueue_awl (s : Dev) (e n : Nat) : (s.pmcQueue e n).awl = s.awl := s.pmcQueue_keeps (fun d => d.awl) (fun _ _ _ => rfl) (fun _ _ _ => rfl) e n
@[simp] theorem Dev.pmcQueue_gnss (s : Dev) (e n : Nat) : (s.pmcQueue e n).gnss = s.gnss := s.pmcQueue_keeps (fun d => d.gnss) (fun _ _ _ => rfl) (fun _ _ _ => rfl) e n
@[simp] theorem Dev.pmcQueue_keep (s : Dev) (e n : Nat) : (s.pmcQueue e n).keep = s.keep := s.pmcQueue_keeps (fun d => d.keep) (fun _ _ _ => rfl) (fun _ _ _ => rfl) e n
@[simp] theorem Dev.pmcQueue_ebe (s : Dev) (e n : Nat) : (s.pmcQueue e n).ebe = s.ebe := s.pmcQueue_keeps (fun d => d.ebe) (fun _ _ _ => rfl) (fun _ _ _ => rfl) e n
@[simp] theorem Dev.pmcQueue_keys (s : Dev) (e n : Nat) : (s.pmcQueue e n).keys = s.keys := s.pmcQueue_keeps (fun d => d.keys) (fun _ _ _ => rfl) (fun _ _ _ => rfl) e n
@[simp] theorem Dev.pmcQueue_power (s : Dev) (e n : Nat) : (s.pmcQueue e n).power = s.power := s.pmcQueue_keeps (fun d => d.power) (fun _ _ _ => rfl) (fun _ _ _ => rfl) e n
@[simp] theorem Dev.pmcQueue_update (s : Dev) (e n : Nat) : (s.pmcQueue e n).update = s.update := s.pmcQueue_keeps (fun d => d.update) (fun _ _ _ => rfl) (fun _ _ _ => rfl) e n
@[simp] theorem Dev.pmcQueue_ageing (s : Dev) (e n : Nat) : (s.pmcQueue e n).ageing = s.ageing := s.pmcQueue_keeps (fun d => d.ageing) (fun _ _ _ => rfl) (fun _ _ _ => rfl) e n
@[simp] theorem Dev.pmcQueue_svc (s : Dev) (e n : Nat) : (s.pmcQueue e n).svc = s.svc := s.pmcQueue_keeps (fun d => d.svc) (fun _ _ _ => rfl) (fun _ _ _ => rfl) e n
@[simp] theorem Dev.pmcQueue_free (s : Dev) (e n : Nat) : (s.pmcQueue e n).free = s.free := s.pmcQueue_keeps (fun d => d.free) (fun _ _ _ => rfl) (fun _ _ _ => rfl) e n
@[simp] theorem Dev.pmcQueue_watch (s : Dev) (e n : Nat) : (s.pmcQueue e n).watch = s.watch := s.pmcQueue_keeps (fun d => d.watch) (fun _ _ _ => rfl) (fun _ _ _ => rfl) e n
@[simp] theorem Dev.pmcQueue_pair (s : Dev) (e n : Nat) : (s.pmcQueue e n).pair = s.pair := s.pmcQueue_keeps (fun d => d.pair) (fun _ _ _ => rfl) (fun _ _ _ => rfl) e n
@[simp] theorem Dev.pmcQueue_out (s : Dev) (e n : Nat) : (s.pmcQueue e n).out = s.out := s.pmcQueue_keeps (fun d => d.out) (fun _ _ _ => rfl) (fun _ _ _ => rfl) e n

@[simp] theorem Dev.sendSeq_tick (s : Dev) (t : Nat) (l : List Nat) : (s.sendSeq t l).tick = s.tick := by
  simp [Dev.sendSeq, Dev.buckle]
@[simp] theorem Dev.sendSeq_cntZero (s : Dev) (t : Nat) (l : List Nat) : (s.sendSeq t l).cntZero = s.cntZero := by
  simp [Dev.sendSeq, Dev.buckle]
@[simp] theorem Dev.sendSeq_aonTs0 (s : Dev) (t : Nat) (l : List Nat) : (s.sendSeq t l).aonTs0 = s.aonTs0 := by
  simp [Dev.sendSeq, Dev.buckle]
@[simp] theorem Dev.sendSeq_aonFrom (s : Dev) (t : Nat) (l : List Nat) : (s.sendSeq t l).aonFrom = s.aonFrom := by
  simp [Dev.sendSeq, Dev.buckle]
@[simp] theorem Dev.sendSeq_scales (s : Dev) (t : Nat) (l : List Nat) : (s.sendSeq t l).scales = s.scales := by
  simp [Dev.sendSeq, Dev.buckle]
@[simp] theorem Dev.sendSeq_mode (s : Dev) (t : Nat) (l : List Nat) : (s.sendSeq t l).mode = s.mode := by
  simp [Dev.sendSeq, Dev.buckle]
@[simp] theorem Dev.sendSeq_acc (s : Dev) (t : Nat) (l : List Nat) : (s.sendSeq t l).acc = s.acc := by
  simp [Dev.sendSeq, Dev.buckle]
@[simp] theorem Dev.sendSeq_flt (s : Dev) (t : Nat) (l : List Nat) : (s.sendSeq t l).flt = s.flt := by
  simp [Dev.sendSeq, Dev.buckle]
@[simp] theorem Dev.sendSeq_tugs (s : Dev) (t : Nat) (l : List Nat) : (s.sendSeq t l).tugs = s.tugs := by
  simp [Dev.sendSeq, Dev.buckle]
@[simp] theorem Dev.sendSeq_lanes (s : Dev) (t : Nat) (l : List Nat) : (s.sendSeq t l).lanes = s.lanes := by
  simp [Dev.sendSeq, Dev.buckle]
@[simp] theorem Dev.sendSeq_ports (s : Dev) (t : Nat) (l : List Nat) : (s.sendSeq t l).ports = s.ports := by
  simp [Dev.sendSeq, Dev.buckle]
@[simp] theorem Dev.sendSeq_sel (s : Dev) (t : Nat) (l : List Nat) : (s.sendSeq t l).sel = s.sel := by
  simp [Dev.sendSeq, Dev.buckle]
@[simp] theorem Dev.sendSeq_awl (s : Dev) (t : Nat) (l : List Nat) : (s.sendSeq t l).awl = s.awl := by
  simp [Dev.sendSeq, Dev.buckle]
@[simp] theorem Dev.sendSeq_gnss (s : Dev) (t : Nat) (l : List Nat) : (s.sendSeq t l).gnss = s.gnss := by
  simp [Dev.sendSeq, Dev.buckle]
@[simp] theorem Dev.sendSeq_keep (s : Dev) (t : Nat) (l : List Nat) : (s.sendSeq t l).keep = s.keep := by
  simp [Dev.sendSeq, Dev.buckle]
@[simp] theorem Dev.sendSeq_ebe (s : Dev) (t : Nat) (l : List Nat) : (s.sendSeq t l).ebe = s.ebe := by
  simp [Dev.sendSeq, Dev.buckle]
@[simp] theorem Dev.sendSeq_keys (s : Dev) (t : Nat) (l : List Nat) : (s.sendSeq t l).keys = s.keys := by
  simp [Dev.sendSeq, Dev.buckle]
@[simp] theorem Dev.sendSeq_power (s : Dev) (t : Nat) (l : List Nat) : (s.sendSeq t l).power = s.power := by
  simp [Dev.sendSeq, Dev.buckle]
@[simp] theorem Dev.sendSeq_update (s : Dev) (t : Nat) (l : List Nat) : (s.sendSeq t l).update = s.update := by
  simp [Dev.sendSeq, Dev.buckle]
@[simp] theorem Dev.sendSeq_ageing (s : Dev) (t : Nat) (l : List Nat) : (s.sendSeq t l).ageing = s.ageing := by
  simp [Dev.sendSeq, Dev.buckle]
@[simp] theorem Dev.sendSeq_svc (s : Dev) (t : Nat) (l : List Nat) : (s.sendSeq t l).svc = s.svc := by
  simp [Dev.sendSeq, Dev.buckle]
@[simp] theorem Dev.sendSeq_free (s : Dev) (t : Nat) (l : List Nat) : (s.sendSeq t l).free = s.free := by
  simp [Dev.sendSeq, Dev.buckle]
@[simp] theorem Dev.sendSeq_watch (s : Dev) (t : Nat) (l : List Nat) : (s.sendSeq t l).watch = s.watch := by
  simp [Dev.sendSeq, Dev.buckle]

@[simp] theorem Dev.logInput_tick (s : Dev) (t : Nat) (l : List Nat) : (s.logInput t l).tick = s.tick := by
  unfold Dev.logInput; split <;> simp
@[simp] theorem Dev.logInput_cntZero (s : Dev) (t : Nat) (l : List Nat) : (s.logInput t l).cntZero = s.cntZero := by
  unfold Dev.logInput; split <;> simp
@[simp] theorem Dev.logInput_aonTs0 (s : Dev) (t : Nat) (l : List Nat) : (s.logInput t l).aonTs0 = s.aonTs0 := by
  unfold Dev.logInput; split <;> simp
@[simp] theorem Dev.logInput_aonFrom (s : Dev) (t : Nat) (l : List Nat) : (s.logInput t l).aonFrom = s.aonFrom := by
  unfold Dev.logInput; split <;> simp
@[simp] theorem Dev.logInput_scales (s : Dev) (t : Nat) (l : List Nat) : (s.logInput t l).scales = s.scales := by
  unfold Dev.logInput; split <;> simp
@[simp] theorem Dev.logInput_mode (s : Dev) (t : Nat) (l : List Nat) : (s.logInput t l).mode = s.mode := by
  unfold Dev.logInput; split <;> simp
@[simp] theorem Dev.logInput_acc (s : Dev) (t : Nat) (l : List Nat) : (s.logInput t l).acc = s.acc := by
  unfold Dev.logInput; split <;> simp
@[simp] theorem Dev.logInput_flt (s : Dev) (t : Nat) (l : List Nat) : (s.logInput t l).flt = s.flt := by
  unfold Dev.logInput; split <;> simp
@[simp] theorem Dev.logInput_tugs (s : Dev) (t : Nat) (l : List Nat) : (s.logInput t l).tugs = s.tugs := by
  unfold Dev.logInput; split <;> simp
@[simp] theorem Dev.logInput_lanes (s : Dev) (t : Nat) (l : List Nat) : (s.logInput t l).lanes = s.lanes := by
  unfold Dev.logInput; split <;> simp
@[simp] theorem Dev.logInput_ports (s : Dev) (t : Nat) (l : List Nat) : (s.logInput t l).ports = s.ports := by
  unfold Dev.logInput; split <;> simp
@[simp] theorem Dev.logInput_sel (s : Dev) (t : Nat) (l : List Nat) : (s.logInput t l).sel = s.sel := by
  unfold Dev.logInput; split <;> simp
@[simp] theorem Dev.logInput_awl (s : Dev) (t : Nat) (l : List Nat) : (s.logInput t l).awl = s.awl := by
  unfold Dev.logInput; split <;> simp
@[simp] theorem Dev.logInput_gnss (s : Dev) (t : Nat) (l : List Nat) : (s.logInput t l).gnss = s.gnss := by
  unfold Dev.logInput; split <;> simp
@[simp] theorem Dev.logInput_keep (s : Dev) (t : Nat) (l : List Nat) : (s.logInput t l).keep = s.keep := by
  unfold Dev.logInput; split <;> simp
@[simp] theorem Dev.logInput_ebe (s : Dev) (t : Nat) (l : List Nat) : (s.logInput t l).ebe = s.ebe := by
  unfold Dev.logInput; split <;> simp
@[simp] theorem Dev.logInput_keys (s : Dev) (t : Nat) (l : List Nat) : (s.logInput t l).keys = s.keys := by
  unfold Dev.logInput; split <;> simp
@[simp] theorem Dev.logInput_power (s : Dev) (t : Nat) (l : List Nat) : (s.logInput t l).power = s.power := by
  unfold Dev.logInput; split <;> simp
@[simp] theorem Dev.logInput_update (s : Dev) (t : Nat) (l : List Nat) : (s.logInput t l).update = s.update := by
  unfold Dev.logInput; split <;> simp
@[simp] theorem Dev.logInput_ageing (s : Dev) (t : Nat) (l : List Nat) : (s.logInput t l).ageing = s.ageing := by
  unfold Dev.logInput; split <;> simp
@[simp] theorem Dev.logInput_svc (s : Dev) (t : Nat) (l : List Nat) : (s.logInput t l).svc = s.svc := by
  unfold Dev.logInput; split <;> simp
@[simp] theorem Dev.logInput_free (s : Dev) (t : Nat) (l : List Nat) : (s.logInput t l).free = s.free := by
  unfold Dev.logInput; split <;> simp
@[simp] theorem Dev.logInput_watch (s : Dev) (t : Nat) (l : List Nat) : (s.logInput t l).watch = s.watch := by
  unfold Dev.logInput; split <;> simp

@[simp] theorem Dev.logWrite_tick (s : Dev) (q : Req) (l : List (Nat × Int)) : (s.logWrite q l).tick = s.tick := by
  simp only [Dev.logWrite]; repeat' split
  all_goals simp
@[simp] theorem Dev.logWrite_cntZero (s : Dev) (q : Req) (l : List (Nat × Int)) : (s.logWrite q l).cntZero = s.cntZero := by
  simp only [Dev.logWrite]; repeat' split
  all_goals simp
@[simp] theorem Dev.logWrite_aonTs0 (s : Dev) (q : Req) (l : List (Nat × Int)) : (s.logWrite q l).aonTs0 = s.aonTs0 := by
  simp only [Dev.logWrite]; repeat' split
  all_goals simp
@[simp] theorem Dev.logWrite_aonFrom (s : Dev) (q : Req) (l : List (Nat × Int)) : (s.logWrite q l).aonFrom = s.aonFrom := by
  simp only [Dev.logWrite]; repeat' split
  all_goals simp
@[simp] theorem Dev.logWrite_scales (s : Dev) (q : Req) (l : List (Nat × Int)) : (s.logWrite q l).scales = s.scales := by
  simp only [Dev.logWrite]; repeat' split
  all_goals simp
@[simp] theorem Dev.logWrite_mode (s : Dev) (q : Req) (l : List (Nat × Int)) : (s.logWrite q l).mode = s.mode := by
  simp only [Dev.logWrite]; repeat' split
  all_goals simp
@[simp] theorem Dev.logWrite_acc (s : Dev) (q : Req) (l : List (Nat × Int)) : (s.logWrite q l).acc = s.acc := by
  simp only [Dev.logWrite]; repeat' split
  all_goals simp
@[simp] theorem Dev.logWrite_flt (s : Dev) (q : Req) (l : List (Nat × Int)) : (s.logWrite q l).flt = s.flt := by
  simp only [Dev.logWrite]; repeat' split
  all_goals simp
@[simp] theorem Dev.logWrite_tugs (s : Dev) (q : Req) (l : List (Nat × Int)) : (s.logWrite q l).tugs = s.tugs := by
  simp only [Dev.logWrite]; repeat' split
  all_goals simp
@[simp] theorem Dev.logWrite_lanes (s : Dev) (q : Req) (l : List (Nat × Int)) : (s.logWrite q l).lanes = s.lanes := by
  simp only [Dev.logWrite]; repeat' split
  all_goals simp
@[simp] theorem Dev.logWrite_ports (s : Dev) (q : Req) (l : List (Nat × Int)) : (s.logWrite q l).ports = s.ports := by
  simp only [Dev.logWrite]; repeat' split
  all_goals simp
@[simp] theorem Dev.logWrite_sel (s : Dev) (q : Req) (l : List (Nat × Int)) : (s.logWrite q l).sel = s.sel := by
  simp only [Dev.logWrite]; repeat' split
  all_goals simp
@[simp] theorem Dev.logWrite_awl (s : Dev) (q : Req) (l : List (Nat × Int)) : (s.logWrite q l).awl = s.awl := by
  simp only [Dev.logWrite]; repeat' split
  all_goals simp
@[simp] theorem Dev.logWrite_gnss (s : Dev) (q : Req) (l : List (Nat × Int)) : (s.logWrite q l).gnss = s.gnss := by
  simp only [Dev.logWrite]; repeat' split
  all_goals simp
@[simp] theorem Dev.logWrite_keep (s : Dev) (q : Req) (l : List (Nat × Int)) : (s.logWrite q l).keep = s.keep := by
  simp only [Dev.logWrite]; repeat' split
  all_goals simp
@[simp] theorem Dev.logWrite_ebe (s : Dev) (q : Req) (l : List (Nat × Int)) : (s.logWrite q l).ebe = s.ebe := by
  simp only [Dev.logWrite]; repeat' split
  all_goals simp
@[simp] theorem Dev.logWrite_keys (s : Dev) (q : Req) (l : List (Nat × Int)) : (s.logWrite q l).keys = s.keys := by
  simp only [Dev.logWrite]; repeat' split
  all_goals simp
@[simp] theorem Dev.logWrite_power (s : Dev) (q : Req) (l : List (Nat × Int)) : (s.logWrite q l).power = s.power := by
  simp only [Dev.logWrite]; repeat' split
  all_goals simp
@[simp] theorem Dev.logWrite_update (s : Dev) (q : Req) (l : List (Nat × Int)) : (s.logWrite q l).update = s.update := by
  simp only [Dev.logWrite]; repeat' split
  all_goals simp
@[simp] theorem Dev.logWrite_ageing (s : Dev) (q : Req) (l : List (Nat × Int)) : (s.logWrite q l).ageing = s.ageing := by
  simp only [Dev.logWrite]; repeat' split
  all_goals simp
@[simp] theorem Dev.logWrite_svc (s : Dev) (q : Req) (l : List (Nat × Int)) : (s.logWrite q l).svc = s.svc := by
  simp only [Dev.logWrite]; repeat' split
  all_goals simp
@[simp] theorem Dev.logWrite_free (s : Dev) (q : Req) (l : List (Nat × Int)) : (s.logWrite q l).free = s.free := by
  simp only [Dev.logWrite]; repeat' split
  all_goals simp
@[simp] theorem Dev.logWrite_watch (s : Dev) (q : Req) (l : List (Nat × Int)) : (s.logWrite q l).watch = s.watch := by
  simp only [Dev.logWrite]; repeat' split
  all_goals simp

/-- Nothing follows the response to a write of an object that is neither a key of a session level, OapPorts, EngineReset
nor LifeCycleRequest. -/
theorem Dev.afterWrite_plain (s : Dev) {k : Nat} (v : Int) (h : k / 256 ≠ 0x1201) (h1 : k ≠ Od.oapPorts)
    (h2 : k ≠ Od.engineReset) (h3 : k ≠ Od.lifeCycleRequest) : s.afterWrite [(k, v)] = s := by
  have e1 : (k == Od.oapPorts) = false := by simpa using h1
  have e2 : (k == Od.engineReset) = false := by simpa using h2
  have e3 : (k == Od.lifeCycleRequest) = false := by simpa using h3
  simp only [Dev.afterWrite, Dev.each_cons, Dev.each_nil, List.any_cons, List.any_nil, e1, e2, e3, h, if_false,
    Bool.or_false, Bool.false_and, Bool.false_eq_true, false_and]
  split <;> rfl

/-- An accepted write of such an object. -/
theorem Dev.writeObj_plain {s : Dev} {q : Req} {k : Nat} {v : Int} (hs : s.writeStatus q k v = .ok) (h : k / 256 ≠ 0x1201)
    (h1 : k ≠ Od.oapPorts) (h2 : k ≠ Od.engineReset) (h3 : k ≠ Od.lifeCycleRequest) :
    s.writeObj q k v =
      let r := (s.objAct (s.wrOf q (s.levelOf q) [(k, v)]) k v).logWrite q [(k, v)]
      r.emit (.written 0 r.now0) := by
  rw [Dev.writeObj_ok hs]
  exact Dev.afterWrite_plain _ _ h h1 h2 h3

/-- The answer of a write that a check refuses. -/
theorem Dev.writeObj_refused {s : Dev} {q : Req} {k : Nat} {v : Int} (hp : s.nat Od.powerState ≠ 4)
    (h : s.writeStatus q k v ≠ .ok) :
    s.writeObj q k v = (s.refusalNote q k (s.writeStatus q k v)).emit (.written (s.writeStatus q k v).code 0) := by
  unfold Dev.writeObj Dev.writeWith
  rw [if_neg hp]
  generalize s.writeStatus q k v = st at h
  cases st <;> first | rfl | exact absurd rfl h

/-- In OFF a write does nothing, and nothing answers it (R54). -/
theorem Dev.writeObj_off {s : Dev} (q : Req) (k : Nat) (v : Int) (hp : s.nat Od.powerState = 4) : s.writeObj q k v = s := by
  unfold Dev.writeObj Dev.writeWith
  rw [if_pos hp]

end Sys2Proof.Machine
end

