-- ==== Sys2Proof/Tests/Slice0.lean ====
section
/-! SUPPORT. Tests: the checks of WellFormed refuse ill-formed commands; for every statement, states and operands that meet the
hypotheses of each of its clauses, with what the command then leaves. Expected values follow the rules the statements cite. -/

namespace Sys2Proof.Tests

-- one thread at a time: the kernel evaluations would otherwise each hold a thread and its stack
set_option Elab.async false

open Sys2Proof Sys2Proof.Machine

/-- The state after reset, objects put and the device changed as said, at tick 10^10. -/
def st (l : List (Nat × Int)) (f : Dev → Dev := id) : State :=
  State.reset.onDev fun d => f { d.each l fun d p => d.put p.1 p.2 with tick := 10000000000 }

/-- A command completes, leaving queue and memory, with p of the device after it. -/
def after (c : Instr) (s : State) (p : Dev → Bool) : Bool :=
  match exec c s with
  | .next s' => s'.pending == s.pending && s'.mem == s.mem && p s'.dev
  | _ => false

/-- A command changes nothing but the time. -/
def idles (c : Instr) (s : State) : Bool :=
  match exec c s with
  | .next s' => decide (s' = { s with dev := (s.reached s'.dev.tick).noteChanges })
  | _ => false

/-- OnlyChanges, as a test. -/
def only (a b : Dev) (objects : List Nat) (parts : List Part) : Bool :=
  (a.od ++ b.od).all (fun p => objects.contains p.1 || a.num p.1 == b.num p.1) &&
  ([(Part.cnt, decide (b.cntZero = a.cntZero)), (.aon, decide (b.aonTs0 = a.aonTs0 ∧ b.aonFrom = a.aonFrom)),
    (.scales, decide (b.scales = a.scales)), (.mode, decide (b.mode = a.mode)), (.acc, decide (b.acc = a.acc)),
    (.flt, decide (b.flt = a.flt)), (.pmc, decide (b.pmc = a.pmc)), (.tugs, decide (b.tugs = a.tugs)), (.lanes, decide (b.lanes = a.lanes)),
    (.ports, decide (b.ports = a.ports)), (.sel, decide (b.sel = a.sel)), (.awl, decide (b.awl = a.awl)),
    (.gnss, decide (b.gnss = a.gnss)), (.keep, decide (b.keep = a.keep)), (.ebe, decide (b.ebe = a.ebe)),
    (.keys, decide (b.keys = a.keys)), (.pair, decide (b.pair = a.pair)), (.power, decide (b.power = a.power)),
    (.update, decide (b.update = a.update)), (.ageing, decide (b.ageing = a.ageing)), (.svc, decide (b.svc = a.svc))]).all
      fun p => parts.contains p.1 || p.2

/-- Time scale n runs from tick 0 at the nominal increment: 1.6 ns a tick. -/
def runTs (n : Nat) (d : Dev) : Dev :=
  { (d.put (Od.tsState n) 1).modScale n (fun c => { c with marks := [⟨0, 0, incNom⟩] }) with cntZero := some 0 }

/-- The tick of most tests: one above the state's. -/
def T : Nat := 10000000001

/-- The state a command leaves, none where it stops. -/
def next? : Host.Outcome State Fault Refusal → Option State
  | .next s => some s
  | _ => none

/-- An engine in service: TS_0 runs, the mode and further objects as said. -/
def srv (m : Nat) (l : List (Nat × Int) := []) (f : Dev → Dev := id) : State :=
  st ([(Od.opMode, (m : Int)), (Od.coreState 0, 1), (Od.coreState 1, 1), (Od.coreState 2, 1), (Od.coreState 3, 1)] ++ l)
    fun d => f (runTs 0 d)

/-- States and operands that meet the hypotheses of every clause of StepTakesFront, and what follows. -/
theorem witness_StepTakesFront :
    (next? (step { st [] with pending := [.hspiPoll T, .aliveToggle T] }) = next? (exec (.hspiPoll T) { st [] with pending := [.aliveToggle T] })) := by decide +kernel

/-- States and operands that meet the hypotheses of every clause of IdleStepIsOneTick, and what follows. -/
theorem witness_IdleStepIsOneTick :
    (next? (step (st [])) = some ((st []).onDev fun d => { d with tick := 10000000001 })) := by decide +kernel

/-- States and operands that meet the hypotheses of every clause of StepKeepsMemoryForm, and what follows. -/
theorem witness_StepKeepsMemoryForm :
    (Memory.wf [(3, 7), (9, 1)] = true ∧ Memory.wf [(9, 7), (3, 1)] = false ∧ (match step { st [] with pending := [.awlDmaWrite T] } with | .next s => Memory.wf s.mem | _ => false) = true) := by decide +kernel

/-- States and operands that meet the hypotheses of every clause of ResetMeetsInvariants, and what follows. -/
theorem witness_ResetMeetsInvariants :
    (Memory.wf State.reset.mem = true ∧ State.reset.pending = [] ∧ State.reset.dev.md = Mode.powerup ∧ State.reset.dev.cntZero = none) := by decide +kernel

/-- States and operands that meet the hypotheses of every clause of WellFormedQueueNeverStops, and what follows. -/
theorem witness_WellFormedQueueNeverStops :
    (∀ c ∈ [Instr.laneRestart T .spi 21 0, .hspiPoll T], c.wf = true) ∧
    ((match step { st [] with pending := [.laneRestart T .spi 21 0] } with | .next s => s.pending == [] | _ => false) = true) := by decide +kernel

/-- States and operands that meet the hypotheses of every clause of CommandsLeaveTheQueue, and what follows. -/
theorem witness_CommandsLeaveTheQueue :
    ((match exec (.aliveToggle T) { st [] with pending := [.hspiPoll T] } with | .next s => s.pending == [.hspiPoll T] | _ => false) = true) := by decide +kernel

/-- States and operands that meet the hypotheses of every clause of UnknownUnitStops, and what follows. -/
theorem witness_UnknownUnitStops :
    (Instr.wf (.laneRestart T .spi 22 0) = false ∧ next? (exec (.laneRestart T .spi 22 0) (st [])) = none) ∧
    (Instr.wf (.laneRestart T .spi 21 0) = true ∧ after (.laneRestart T .spi 21 0) (st []) (fun _ => true)) := by decide +kernel

/-- States and operands that meet the hypotheses of every clause of MemoryWrittenByTwo, and what follows. -/
theorem witness_MemoryWrittenByTwo :
    (after (.hspiPoll T) { st [] with mem := [(3, 7)] } (fun _ => true)) := by decide +kernel

/-- States and operands that meet the hypotheses of every clause of ResetsRecorded, and what follows. -/
theorem witness_ResetsRecorded :
    (after (.backupPor T) (st [(Od.resetCount, 4294967295), (Od.opMode, 5)]) (fun d => d.md == 0 && d.nat Od.lastResetCause == 0 && d.nat Od.resetCount == 0 && d.mode.held == some 1 && d.scales == [])) ∧
    (after (.porst T) (srv 5 [(Od.resetCount, 7)]) (fun d => d.md == 0 && d.nat Od.lastResetCause == 1 && d.nat Od.resetCount == 8 && d.scales == [] && d.mode.held == some 1)) ∧
    ((st []).dev.nat Od.powerState ≤ 2 ∧ (st [] fun d => d.modMode fun m => { m with held := none }).dev.mode.held ≠ some 1 ∧ after (.resetN T) (st [] fun d => d.modMode fun m => { m with held := none }) (fun d => d.nat Od.lastResetCause == 2 && d.mode.held == some 2)) ∧
    (idles (.resetN T) (st [(Od.powerState, 3)])) ∧
    (Accepted ((st []).reached T) .spi Od.engineReset 1 ∧ after (.engineReset T .spi 1) (srv 5) (fun d => d.md == 0 && d.nat Od.lastResetCause == 4 && d.nat Od.resetCount == 1 && d.mode.held == none && d.scales == [])) ∧
    ((st []).dev.railsWatched = true ∧ after (.brownout T 5) (st []) (fun d => d.mode.held == some 3 && d.power.railsOut == [5] && d.nat Od.lastResetCause == 1)) ∧
    ((st [(Od.powerState, 3)]).dev.railsWatched = false ∧ idles (.brownout T 5) (st [(Od.powerState, 3)])) ∧
    (Accepted ((srv 5).reached T) .spi Od.engineReset 0 ∧ after (.engineReset T .spi 0) (srv 5) (fun d => only ((srv 5).reached T) d logObjects [.pair, .pmc] && d.out == [.written 0 ((srv 5).reached T).now0])) := by decide +kernel

/-- States and operands that meet the hypotheses of every clause of SuppliesAndRelease, and what follows. -/
theorem witness_SuppliesAndRelease :
    ((st []).dev.railsWatched = true ∧ after (.supplyOutOfRange T 5) (st []) (fun d => d.isLive 218 && d.power.railsOut == [5] && (d.flt.queue.map fun r => (r.src, r.detail)) == [(218, 5)] && only (st []).dev d [Od.faultLive] [.power, .flt])) ∧
    (idles (.supplyOutOfRange T 0) (st [(Od.powerState, 3)])) ∧
    (after (.supplyInRange T 5) (st [] fun d => d.supplyOut 5) (fun d => d.power.railsOut == [] && !d.isLive 218 && d.power.railsOkAt == some T)) ∧
    (after (.resetRelease T) (st [] fun d => d.modMode fun m => { m with held := some 1 }) (fun d => d.mode.held == none && d.mode.since == T && d.keep.ovenFrom == some T && only (st []).dev d [] [.mode, .keep])) ∧
    (after (.resetRelease T) (st [] fun d => (d.modMode fun m => { m with held := some 3 }).modPower fun p => { p with railsOkAt := some (T - 2 * ticksPerMs) }) (fun d => d.mode.held == none && d.mode.bootFrom == T)) ∧
    (after (.resetRelease T) (st [] fun d => d.modMode fun m => { m with held := some 2 }) (fun d => d.mode.held == none && d.keep.ovenFrom == (st []).dev.keep.ovenFrom)) ∧
    ((st [] fun d => d.modMode fun m => { m with held := none }).dev.mode.held = none ∧ idles (.resetRelease T) (st [] fun d => d.modMode fun m => { m with held := none })) ∧
    (idles (.resetRelease T) (st [] fun d => (d.modMode fun m => { m with held := some 3 }).modPower fun p => { p with railsOut := [5], railsOkAt := none })) := by decide +kernel

def slotBad : SlotF := { dirOk := false, seq := 0, boxes := [] }
def slotOk : SlotF := { dirOk := true, seq := 0, boxes := [0, 1, 2, 3, 4].map fun k => { formatOk := true, kind := k, signerClass := signerOf k, signerIndex := 0, security := 9, version := 256, signerHash := 0, sigOk := true, digestOk := true } }
def warm : State := srv 3 [(Od.loState, 1), (Od.loSourceActive, 0)]
def boots : State := srv 0 [] fun d => d.modMode fun m => { m with held := none }
def badEnt : Ent := { index := 0xFFFF, sub := 1, typ := 0, value := [] }

/-- States and operands that meet the hypotheses of every clause of StartUpRows, and what follows. -/
theorem witness_StartUpRows :
    (slotOk.dirOk = true ∧ (srv 0 [] fun d => d.modMode fun m => { m with held := none }).dev.slotValid slotOk = true ∧ after (.bootImageVerified T slotOk slotBad true) (srv 0 [] fun d => d.modMode fun m => { m with held := none }) (fun d => d.nat Od.lastModeCause == 1 && d.md == 1)) ∧
    (after (.bootImageVerified T slotBad slotOk true) (srv 0 [] fun d => d.modMode fun m => { m with held := none }) (fun d => d.md == 1 && d.bit Od.modeSticky Bit.modeSticky_BootSlotFallback)) ∧
    (after (.bootImageVerified T slotBad slotBad true) (srv 0 [] fun d => d.modMode fun m => { m with held := none }) (fun d => d.nat Od.lastModeCause == 1 && d.md == 0 && d.mode.loader)) ∧
    ((srv 1).dev.mode.restoreFailed = false ∧ after (.dictionaryRestored T none) (srv 1) (fun d => d.md == 2 && d.nat Od.lastModeCause == 2 && d.acc.appLevel == (srv 1).dev.nat Od.appOdLevel && d.cntZero == some 0)) ∧
    (after (.calibrationDone T [] [] []) (srv 2) (fun d => d.md == 3 && d.nat Od.lastModeCause == 3)) ∧
    (after (.calibrationDone T [] [] []) (srv 2 [(Od.lifeCycleState, 3)]) (fun d => d.md == 10)) ∧
    (((((warm).reached T).putB Od.tsynLocked true).ovenStep).loCond 65535 = true ∧ (warm.reached T).cycleTaken = false ∧ warm.dev.mode.ready = false ∧ after (.oscillatorReady T 65535 true) warm (fun d => d.md == 4 && d.nat Od.lastModeCause == 4)) ∧
    (boots.dev.booting = true ∧ (srv 1).dev.booting = false ∧ idles (.bootImageVerified T slotOk slotOk true) (srv 1)) ∧
    (after (.bootImageVerified T slotOk slotOk true) (srv 0 [(Od.lifeCycleState, 4)] fun d => d.modMode fun m => { m with held := none }) (fun d => d.md == 0 && !d.mode.loader)) ∧
    (((srv 1).dev.restoreImage [badEnt]).1 = false ∧ after (.dictionaryRestored T (some [badEnt])) (srv 1) (fun d => d.md == 1 && d.mode.restoreFailed && d.bit Od.modeSticky Bit.modeSticky_ConfigDefaults && d.nat Od.lastModeCause == 2)) ∧
    (idles (.dictionaryRestored T none) (srv 5) ∧ idles (.calibrationDone T [] [] []) (srv 5)) ∧
    (after (.oscillatorReady T 65535 true) (srv 3 [(Od.loState, 1), (Od.loSourceActive, 0), (Od.pairEnable, 1)]) (fun d => d.md == 3 && d.mode.ready && d.nat Od.pairState == 1 && d.pair.waiting == some T)) := by decide +kernel

/-- States and operands that meet the hypotheses of every clause of ModeRequestRows, and what follows. -/
theorem witness_ModeRequestRows :
    ((srv 3).dev.mode.ready = false ∧ (srv 3).dev.nat Od.warmupTimeout * ticksPerSec ≤ 10 ^ 13 ∧ ((srv 3).reached (10 ^ 13)).cycleTaken = false ∧ after (.warmupTimeout (10 ^ 13)) (srv 3) (fun d => d.md == 3 && d.bit Od.modeSticky Bit.modeSticky_WarmupTimeout && d.nat Od.lastModeCause == 4 && d.scales == (srv 3).dev.scales)) ∧
    ((srv 4).dev.selected = none ∧ (srv 4).dev.nat Od.acquireTimeout * ticksPerSec ≤ 10 ^ 13 ∧ ((srv 4).reached (10 ^ 13)).cycleTaken = false ∧ after (.acquireTimeout (10 ^ 13)) (srv 4) (fun d => d.md == 7 && d.bit Od.modeSticky Bit.modeSticky_EnteredFreerun && d.nat Od.lastModeCause == 6)) ∧
    (after (.pendingModeEvent T) (srv 1 [] fun d => d.modMode fun m => { m with queue := [.request 1 0] }) (fun d => d.md == 2 && d.mode.queue == [] && d.nat Od.modeRequestResult == 0)) ∧
    (Accepted ((srv 1).reached T) .spi Od.modeRequest 1 ∧ after (.modeRequestProceed T .spi) (srv 1) (fun d => d.md == 2 && d.nat Od.modeRequestResult == 0)) ∧
    (Accepted ((srv 5).reached T) .spi Od.modeRequest 1 ∧ after (.modeRequestProceed T .spi) (srv 5) (fun d => d.md == 5 && d.nat Od.modeRequestResult == 2)) ∧
    (Accepted ((srv 1).reached T) .spi Od.modeRequest 2 ∧ after (.modeRequestEnterTest T .spi) (srv 1) (fun d => d.md == 10 && d.nat Od.modeRequestResult == 0 && d.bit Od.modeSticky Bit.modeSticky_TestEntered)) ∧
    (Accepted ((srv 10).reached T) .spi Od.modeRequest 3 ∧ after (.modeRequestLeaveTest T .spi) (srv 10) (fun d => d.md == 2 && d.nat Od.modeRequestResult == 0)) ∧
    (after (.modeRequestLeaveTest T .spi) (srv 5) (fun d => d.md == 5 && d.nat Od.modeRequestResult == 2)) ∧
    (Accepted ((srv 11).reached T) .spi Od.modeRequest 4 ∧ (srv 11).dev.on Od.pairEnable = false ∧ after (.modeRequestLeaveSafe T .spi) (srv 11) (fun d => d.md == (srv 11).dev.safeExit && d.nat Od.modeRequestResult == 0 && d.nat Od.lastModeCause == 10)) ∧
    (after (.modeRequestLeaveSafe T .spi) (srv 11 [(Od.girthLevel, 4)]) (fun d => d.md == 11 && d.nat Od.modeRequestResult == 2)) ∧
    (idles (.warmupTimeout T) (srv 5) ∧ idles (.acquireTimeout T) (srv 4) ∧ ((srv 4).reached T).modeLasted ((srv 4).dev.nat Od.acquireTimeout) = false ∧ idles (.pendingModeEvent T) (srv 5)) ∧
    (Accepted ((srv 5 [(Od.modeArm, (2 ^ Bit.modeArm_TestFromService : Nat))]).reached T) .spi Od.modeRequest 2 ∧ after (.modeRequestEnterTest T .spi) (srv 5 [(Od.modeArm, (2 ^ Bit.modeArm_TestFromService : Nat))]) (fun d => d.md == 10 && d.nat Od.modeRequestResult == 0)) ∧
    (after (.modeRequestEnterTest T .spi) (srv 5) (fun d => d.md == 5 && d.nat Od.modeRequestResult == 3)) ∧
    (after (.modeRequestProceed T .spi) (srv 1 [(Od.lifeCycleState, 4)]) (fun d => d.md == 1 && d.nat Od.modeRequestResult == 4)) ∧
    (after (.modeRequestLeaveSafe T .spi) (srv 11 [(Od.pairEnable, 1)]) (fun d => d.md == 9 && d.nat Od.pairRole == 2 && d.nat Od.lastModeCause == 12 && d.nat Od.modeRequestResult == 0)) := by decide +kernel

/-- A plain object: PmcObserverRead. -/
def K : Nat := Od.pmcObserverRead
theorem test_plain_object : PlainObject K 1 := ⟨fun _ _ => rfl, by decide, by decide, by decide, by decide⟩
theorem test_plain_checks : ∀ (d : Dev) (w : Wr), d.chapterCheck w true K 1 = .ok := fun _ _ => rfl
/-- A session of level 4, a datagram of it, and the device once it is taken. -/
def ses : State := srv 5 [(Od.sessionsOpen, 1)] fun d =>
  d.modAcc fun a => { a with sessions := [{ sid := 5, level := 4, port := 17, clientNonce := 0, engineNonce := 0, last := 10000000000 }] }
def dg : Dg := { sid := 5, seq := 1, tagOk := true, unanswered := 7 }
def sesE : Dev := ((ses.reached T).takeDg dg).2
/-- An entry of K with value 1, and a body of one with a RequestId. -/
def askK : Ask := { key := K, typ := 1, bytes := [1] }
def bodyK : List Byte := [0, 1, 2] ++ beBytes 3 K ++ [1, 0, 1, 1]
def blockK : List Byte := [0, 1, 2, 1, 0] ++ beBytes 3 K ++ [1, 0, 1, 1]
/-- A request on the host SPI: CRC of R71 over what precedes it. -/
def reqSpi (body : List Byte) : List Byte :=
  let bs := beBytes 2 body.length ++ body
  bs ++ beBytes 2 (crc16 bs)
/-- K staged by the session. -/
def staged : State := { ses with dev := (ses.dev.put Od.stageState 1).modAcc fun a => { a with
  staged := [{ key := K, val := 1, len := 1 }], stageOwner := some (.oap 5), stageLevel := 4 } }
/-- A subscription of the host SPI to K, with 0 sent last. -/
def sub1 (trigger : Nat) : State := srv 5 [(K, 1)] fun d => d.modAcc fun a => { a with subs :=
  [{ id := 9, owner := .spi, key := K, trigger, period := 10, seq := 4294967295, sent := some (T - 10 * ticksPerMs) }] }
def hel : State := srv 5 [(Od.oapPorts, 2 ^ 18 - 1)] fun d => d.fillSlot 5 3 2 true 1
def rspWaits : State := st [] fun d => d.modAcc fun a => { a with rsp := some [7] }
def jnl : State := { ses with dev := ses.dev.modAcc fun a => { a with journal := [{ id := 3, kind := 6, outcome := 2, total := 4, done := 4, detail := 8 }] } }
/-- What an open session has sent: a response that begins as said. -/
def sent5 (d : Dev) (b : List Byte) : Bool := d.out.any fun m => match m with | .response 5 _ x _ => x.take b.length == b | _ => false
def offSt : State := srv 5 [(Od.powerState, 4)]
/-- The set of `staged` scheduled for 17 s of TS_0: CommitAt at 16 s + 1 s. -/
def instant17 : List Byte := beBytes 8 17 ++ List.replicate 8 0
def waits17 : State := { staged with dev := ((staged.dev.put Od.stageState 2).put Od.stageAt (17 * 2 ^ 64 : Nat)).put Od.stageOpId 3 }
/-- Psk of level 0 absent. -/
def noteWaits : State := st [] fun d => d.modAcc fun a => { a with notes := [[7], [8]] }

/-- States and operands that meet the hypotheses of every clause of WriteAnswersInOrder, and what follows. -/
theorem witness_WriteAnswersInOrder :
    (NothingDue (st []).dev ∧ Dict.row? 0xFFFFFF = none ∧ (st []).dev.writeStatus .spi 0xFFFFFF 1 = .noObject ∧ after (.objectWrite T .spi 0xFFFFFF 1) (st []) (fun d => d.out.contains (.written 1 0) && only (st []).dev d [] [])) ∧
    ((Dict.row? Od.serialNumber).map (fun r => (r.typ.fits 1, r.wr)) = some (true, none) ∧ (st []).dev.writeStatus .spi Od.serialNumber 1 = .accessMode ∧ after (.objectWrite T .spi Od.serialNumber 1) (st []) (fun d => d.out.contains (.written Status.accessMode.code 0))) ∧
    ((Dict.row? K).map (fun r => (r.typ.fits 1, r.wr.isSome)) = some (true, true) ∧ (st []).dev.levelOf (.oap 77) = 0 ∧ (st []).dev.writeStatus (.oap 77) K 1 = .accessDenied) ∧
    (offSt.dev.writeStatus .spi K 1 ≠ .ok ∧ NothingDue (offSt.reached T) ∧ idles (.objectWrite T .spi K 1) offSt) ∧
    (after (.objectWrite T (.oap 77) K 1) (st []) (fun d => d.out == [.written Status.accessDenied.code 0] && only ((st []).reached T) d [] [])) := by decide +kernel

/-- States and operands that meet the hypotheses of every clause of ObjectWritten, and what follows. -/
theorem witness_ObjectWritten :
    (NothingDue (st []).dev ∧ Accepted ((st []).reached T) .spi K 1 ∧ K ≠ Od.stageState ∧ K ≠ Od.retransmitBufferUse ∧ after (.objectWrite T .spi K 1) (st []) (fun d => d.num K == 1 && d.out.contains (.written 0 0) && only (st []).dev d [K] [])) := by decide +kernel

/-- States and operands that meet the hypotheses of every clause of SessionsOpenAndClose, and what follows. -/
theorem witness_SessionsOpenAndClose :
    (after (.oapDatagramDropped T .fragment) (st []) (fun d => d.nat Od.malformedDatagrams == 1 && d.out == [] && only (st []).dev d [Od.malformedDatagrams] [])) ∧
    (hel.dev.oapPort 17 = true ∧ (hel.dev.slot 5).typ = 3 ∧ hel.dev.acc.sessions.length < hel.dev.nat Od.sessionMax ∧ 0 < hel.dev.nat Od.helloRateLimit ∧ after (.oapHello T 17 4 99) hel (fun d => (d.acc.sessions.map fun x => (x.level, x.port, x.clientNonce)) == [(4, 17, 99)] && d.nat Od.sessionsOpen == 1 && only hel.dev d [Od.sessionsOpen, Od.slotsUsed] [.acc, .keys])) ∧
    (((ses.reached T).takeDg dg).1 = true ∧ after (.oapClose T dg) ses (fun d => d.acc.sessions == [] && d.nat Od.sessionsOpen == 0)) ∧
    (after (.sessionIdle (T + 10 ^ 13) 5) ses (fun d => d.acc.sessions == [] && d.nat Od.sessionsClosed == 1 && d.out.any (fun m => match m with | .close 5 1 _ => true | _ => false))) ∧
    (idles (.oapHello T 17 4 99) (srv 5 [(Od.powerState, 3)])) ∧
    (after (.oapHello T 17 5 99) hel (fun d => d.nat Od.helloDropped == 1 && d.acc.sessions == [] && only hel.dev d [Od.helloDropped] [])) ∧
    (¬KeyServes (hel.reached T) 4 1 [3] ∧ after (.oapHello T 17 3 99) hel (fun d => d.nat Od.helloDropped == 1 && d.nat Od.keyUseDenied == 1 && only hel.dev d [Od.helloDropped, Od.keyUseDenied, Od.keySticky] [.flt])) ∧
    (idles (.oapClose T dg) (srv 5) ∧ idles (.sessionIdle T 5) ses) := by decide +kernel

/-- States and operands that meet the hypotheses of every clause of SessionReadsAndWrites, and what follows. -/
theorem witness_SessionReadsAndWrites :
    (Taken (ses.reached T) dg sesE ∧ sesE.readStatus (.oap 5) K = .ok ∧ after (.oapRead T dg ([0, 1, 2] ++ beBytes 3 K ++ [0])) ses (fun d => d.out.any (fun m => match m with | .response 5 1 b _ => b == [0x81, 0, 1, 2, 1, 0, 0, 1, 0] | _ => false))) ∧
    (after (.oapReadBlock T dg ([0, 1, 2, 1, 0] ++ beBytes 3 K ++ [0])) ses (fun d => d.out.any (fun m => match m with | .response 5 1 b _ => b == [0x83, 0, 1, 2, 1, 0, 0, 1, 0, 1, 0] | _ => false))) ∧
    (parseAsks 1 (bodyK.drop 3) = some [askK] ∧ askK.value? = some 1 ∧ sesE.askStatus (sesE.wrOf (.oap 5) (sesE.levelOf (.oap 5)) [(K, 1)]) 0 askK = .ok ∧ fld bodyK 0 1 = 0 ∧ after (.oapWrite T dg bodyK) ses (fun d => d.num K == 1 && d.out.any (fun m => match m with | .response 5 _ b _ => b.take 4 == [0x82, 0, 1, 2] | _ => false) && only ses.dev d [K] [.acc])) ∧
    (blockAsks (blockK.drop 3) = .inr [askK] ∧ after (.oapWriteBlock T dg blockK) ses (fun d => d.num K == 1 && d.out.any (fun m => match m with | .response 5 _ b _ => b.take 4 == [0x84, 0, 1, 2] && b.drop 20 == [0xFF, 0, 0, 0] | _ => false) && only ses.dev d [K] [.acc])) ∧
    (after (.oapWrite T dg ([0, 1, 2] ++ beBytes 3 Od.serialNumber ++ [1, 0, 1, 1])) ses (fun d => sent5 d [0x82, BitVec.ofNat 8 Status.accessMode.code, 1, 2] && only ses.dev d [] [.acc])) := by decide +kernel

/-- States and operands that meet the hypotheses of every clause of StagedSets, and what follows. -/
theorem witness_StagedSets :
    (askK.status 4 = .ok ∧ ses.dev.acc.stageOwner = none ∧ after (.oapStage T dg blockK) ses (fun d => d.acc.staged == [{ key := K, val := 1, len := 1 }] && d.acc.stageOwner == some (.oap 5) && d.nat Od.stageState == 1 && d.nat Od.stageEntries == 1 && d.nat Od.stageSession == 5 && only ses.dev d [Od.stageState, Od.stageEntries, Od.stageSession, Od.stageBytes] [.acc])) ∧
    (staged.dev.journalFree = true ∧ staged.dev.stateStatus (.oap 5) K = .ok ∧ Taken (staged.reached T) dg ((staged.reached T).takeDg dg).2 ∧ after (.oapCommit T dg ([0, 1, 2, 0, 0, 0, 0] ++ List.replicate 16 0)) staged (fun d => d.num K == 1 && d.acc.staged == [] && d.acc.stageOwner == none && d.nat Od.stageState == 0)) ∧
    (after (.oapAbort T dg [0, 1, 2, 0, 0, 0, 0]) staged (fun d => d.num K == 0 && d.acc.staged == [] && d.nat Od.stageState == 0 && d.nat Od.stageEntries == 0)) ∧
    ((staged.reached T).freeEntry 4096 ≠ none ∧ NothingDue (staged.reached T) ∧ tsTime (beNat instant17) = 17 * second ∧ (staged.reached T).tsNow 0 + ((staged.reached T).nat Od.commitMinLead * 1000 * 2 ^ 32 : Nat) ≤ 17 * second ∧ 17 * second ≤ (staged.reached T).tsNow 0 + (staged.reached T).nat Od.commitMaxAhead * second ∧ after (.oapCommit T dg ([0, 1, 2, 1, 0, 0, 0] ++ instant17)) staged (fun d => d.nat Od.stageState == 2 && d.nat Od.stageAt == beNat instant17 && d.acc.staged == staged.dev.acc.staged && (d.acc.journal.map fun r => (r.kind, r.outcome)) == [(1, 1)])) ∧
    (waits17.dev.commitTick.isSome = true ∧ waits17.dev.commitTick.toList = waits17.dev.dueTicks (2 * T) ∧ (waits17.reached (2 * T)).num K = 1 ∧ (waits17.reached (2 * T)).acc.staged = [] ∧ (waits17.reached (2 * T)).nat Od.stageState = 0 ∧ (waits17.reached T).nat Od.stageState = 2) := by decide +kernel

/-- States and operands that meet the hypotheses of every clause of Subscriptions, and what follows. -/
theorem witness_Subscriptions :
    (after (.oapSubscribe T dg ([0, 1, 2] ++ beBytes 3 K ++ beBytes 1 1 ++ beBytes 4 10)) ses (fun d => (d.acc.subs.map fun x => (x.key, x.trigger, x.period, x.owner)) == [(K, 1, 10, .oap 5)])) ∧
    (after (.oapSubscribe T dg ([0, 1, 2] ++ beBytes 3 K ++ beBytes 1 2 ++ beBytes 4 3600000)) ses (fun d => (d.acc.subs.map fun x => (x.key, x.trigger, x.period)) == [(K, 2, 3600000)])) ∧
    ((((sub1 1).reached T).readObj .spi K).1 ≠ 0 ∧ (((sub1 1).reached T).readObj .spi K).2.readStatus .spi K = .ok ∧ after (.notifyOnChange T 9) (sub1 1) (fun d => d.acc.notes.length == 1 && (d.acc.subs.map fun y => (y.id, y.seq, y.last, y.sent)) == [(9, 0, 1, some T)])) ∧
    ((sub1 2).dev.running 0 = true ∧ after (.notifyPeriodic T 9) (sub1 2) (fun d => d.acc.notes.length == 1 && (d.acc.subs.map fun y => (y.id, y.seq, y.last)) == [(9, 0, 1)])) ∧
    (idles (.notifyOnChange T 9) (sub1 2) ∧ idles (.notifyPeriodic T 9) (sub1 1)) ∧
    (after (.notifyOnChange T 9) { sub1 1 with dev := ({ (sub1 1).dev with watch := [(9, 0, true)] } : Dev).put K 0 } (fun d => d.acc.notes.length == 1)) := by decide +kernel

/-- States and operands that meet the hypotheses of every clause of HostSpi, and what follows. -/
theorem witness_HostSpi :
    (NothingDue (st []).dev ∧ after (.hspiReq T (reqSpi (1 :: [0, 1, 2]))) (st []) (fun d => d.acc.rsp.isSome && !d.acc.crcError && !d.acc.overrun)) ∧
    (after (.hspiReq T []) rspWaits (fun d => d.acc.overrun && d.acc.rsp == some [7] && only rspWaits.dev d [] [.acc])) ∧
    (crc16 ([0, 1, 1, 9, 9].take 3) ≠ fld [0, 1, 1, 9, 9] 3 2 ∧ after (.hspiReq T [0, 1, 1, 9, 9]) (st []) (fun d => d.acc.crcError && d.nat Od.hspiCrcErrors == 1 && only (st []).dev d [Od.hspiCrcErrors] [.acc])) ∧
    (after (.hspiPoll T) rspWaits (fun d => d.out == [.spi (beBytes 1 rspWaits.dev.spiStatus ++ beBytes 2 1)] && only rspWaits.dev d [] [])) ∧
    (after (.hspiFetch T) rspWaits (fun d => d.acc.rsp == none && (d.out.map fun m => match m with | .spi b => b.take 4 | _ => []) == [[0x11, 0, 1, 7]] && only rspWaits.dev d [] [.acc])) ∧
    (Accepted ((srv 5).reached T) .spi (Od.pskL0 + 4) 77 ∧ after (.pskWrite T .spi 4 77) ses (fun d => (d.slot 5).typ == 3 && (d.slot 5).key == 77 && d.acc.sessions == [] && d.slot 4 == ses.dev.slot 4)) ∧
    (NothingDue (offSt.reached T) ∧ idles (.hspiReq T (reqSpi [1, 0, 1, 2])) offSt ∧ idles (.hspiPoll T) offSt ∧ idles (.hspiFetch T) offSt) ∧
    (idles (.hspiReq T (reqSpi [1, 0, 1, 2])) (st [] fun d => d.modMode fun m => { m with loader := true })) ∧
    (after (.hspiFetch T) noteWaits (fun d => d.acc.rsp == none && d.acc.notes == [[8]])) ∧
    (after (.pskWrite T .spi 4 0) ses (fun d => (d.slot 5).typ == 0 && d.acc.sessions == [])) := by decide +kernel

/-- States and operands that meet the hypotheses of every clause of JournalQueried, and what follows. -/
theorem witness_JournalQueried :
    (Accepted (jnl.reached T) (.oap 5) Od.journalQueryId 3 ∧ after (.journalQuery T (.oap 5) 3) jnl (fun d => d.mine (.oap 5) Od.jqKind == 6 && d.mine (.oap 5) Od.jqDetail == 8 && d.mine .spi Od.jqKind == 0 && only jnl.dev d [] [.acc])) ∧
    (Accepted (jnl.reached T) .spi Od.journalQueryId 4 ∧ after (.journalQuery T .spi 4) jnl (fun d => d.mine .spi Od.jqOutcome == 255)) := by decide +kernel

/-- A DERIVED scale 3 that runs, SOFTWARE's scale 4. -/
def der : State := srv 5 [(Od.tsSource 3, 2), (Od.tsSource 4, 4), (Od.incOwner 3, 5), (Od.incOwner 4, 1), (Od.incOwner 0, 2)] fun d => runTs 3 (runTs 4 d)
def derP : State := { der with dev := der.dev.put Od.stepPermit 255 }
def lp (p x : Int) : State := srv 5 [(Od.leapPending, p), (Od.leapTime, x)]
/-- 16 s and 17 s on TS_0, as objects carry times. -/
def s16 : Int := tsNum (16 * second)
def s90 : Int := tsNum (1000 * second)
def s38 : Int := tsNum (38 * second)
def sFar : Int := tsNum (10000000 * second)
def incV : Int := (incNom / 16777216 : Nat)
def der0 : State := srv 5 [(Od.incOwner 0, 2)]
def lpH : State := srv 5 [(Od.leapSourceMode, 1), (Od.leapPending, 1), (Od.leapTime, s90)]

/-- States and operands that meet the hypotheses of every clause of ServoUpdates, and what follows. -/
theorem witness_ServoUpdates :
    (NothingWaits (srv 5).dev ∧ after (.servoUpdate T 45000 77) (srv 5) (fun d => d.flt.lastUpdate == T && d.num Od.tempOnChip == 45000 && d.num Od.loMeasuredOffset == 77)) ∧
    (idles (.servoUpdate T 45000 77) (st [])) := by decide +kernel

/-- States and operands that meet the hypotheses of every clause of SteeringBySoftware, and what follows. -/
theorem witness_SteeringBySoftware :
    (Accepted ((srv 10).reached T) .spi (Od.incOwnerRequest 0) 1 ∧ after (.incOwnerTake T .spi 0) (srv 10) (fun d => d.nat (Od.incOwner 0) == 1 && (d.scale 0).marks == ((srv 10).dev.scale 0).marks)) ∧
    (Accepted (der.reached T) .spi (Od.incOwnerRequest 4) 0 ∧ after (.incOwnerRelease T .spi 4) der (fun d => d.nat (Od.incOwner 4) == der.dev.ownerByTable 4 && (d.scale 4).marks == (der.dev.scale 4).marks)) ∧
    (Accepted (der.reached T) .spi (Od.freqSteer 4) 1000 ∧ after (.freqSteerWrite T .spi 4 1000) der (fun d => d.num (Od.freqSteer 4) == 1000 && d.num (Od.freqNow 4) == 1000 && d.nat (Od.incNow 4) == incOf 1000 / 16777216)) ∧
    (Accepted (der.reached T) .spi (Od.incWrite 4) incV ∧ after (.incWrite T .spi 4 incV) der (fun d => d.num (Od.freqSteer 4) == steerOf (incFrom incV.toNat (der.dev.nat (Od.incWriteFrac 4))) && d.num (Od.freqNow 4) == d.num (Od.freqSteer 4))) ∧
    (Accepted (der.reached T) .spi (Od.phaseAdjust 4) (-65536) ∧ after (.phaseAdjustWrite T .spi 4 (-65536)) der (fun d => d.num (Od.slewRemaining 4) == -65536 && (d.scale 4).slew == -8192000 && only der.dev d [Od.slewRemaining 4] [.scales])) ∧
    (NothingWaits derP.dev ∧ Accepted (derP.reached T) .spi (Od.timeSet 4) s16 ∧ after (.timeSet T .spi 4 s16) derP (fun d => d.num (Od.timeOrigin 4) == 2 && d.num (Od.slewRemaining 4) == 0 && d.bit (Od.tsSticky 4) Bit.tsSticky_HostTimeSet && valAt (d.scale 4).marks T == some (16000000000 * 2 ^ 72))) ∧
    ((derP.reached T).timeSetStep 4 = true ∧ after (.timeSet T .spi 4 s16) derP (fun d => d.nat (Od.stepCount 4) == 1 && d.bit (Od.tsSticky 4) Bit.tsSticky_Stepped)) := by decide +kernel

/-- States and operands that meet the hypotheses of every clause of ScalesAndTheirSources, and what follows. -/
theorem witness_ScalesAndTheirSources :
    (Accepted (der.reached T) .spi (Od.tsSource 4) 0 ∧ after (.tsSourceWrite T .spi 4 0) der (fun d => d.nat (Od.tsSource 4) == 0 && d.nat (Od.tsState 4) == 0 && (d.scale 4).marks == [])) ∧
    (Accepted (der.reached T) .spi (Od.tsSource 7) 4 ∧ der.dev.running 7 = false ∧ after (.tsSourceWrite T .spi 7 4) der (fun d => d.nat (Od.tsState 7) == 1 && valAt (d.scale 7).marks T == some ((der.reached T).val72 0) && incAt (d.scale 7).marks T == incNom)) ∧
    (AcceptedAll (der.reached T) .spi (given [(Od.derivedRate 4, some 5), (Od.derivedAnchor 4, none), (Od.derivedStart 4, some s16)]) ∧ after (.derivedWrite T .spi 4 (some 5) none (some s16)) der (fun d => d.num (Od.derivedRate 4) == 5 && d.num (Od.derivedStart 4) == s16 && d.num (Od.derivedAnchor 4) == der.dev.num (Od.derivedAnchor 4) && d.scales == der.dev.scales)) ∧
    (3 ∈ der.dev.derivedScales ∧ after (.derivedRealign T 3) der (fun d => (d.scale 3).marks.head? == some ⟨T, der.dev.derivedValue 3 ((der.reached T).val72 0), der.dev.derivedInc 3 ((der.reached T).inc 0)⟩ && d.scale 4 == der.dev.scale 4 && only der.dev d [Od.incNow 3, Od.incNowFrac 3] [.scales])) ∧
    (4 ∉ der.dev.derivedScales ∧ idles (.derivedRealign T 4) der) ∧
    (Accepted (der.reached T) .spi (Od.tsSource 0) 1 ∧ after (.tsSourceWrite T .spi 0 1) der (fun d => only der.dev d logObjects [.pair, .pmc])) ∧
    (Accepted (der0.reached T) .spi (Od.tsSource 7) 2 ∧ after (.tsSourceWrite T .spi 7 2) der0 (fun d => d.nat (Od.tsState 7) == 1 && valAt (d.scale 7).marks T == some ((der0.reached T).derivedValue 7 ((der0.reached T).val72 0)) && incAt (d.scale 7).marks T == incNom)) ∧
    (Accepted (der0.reached T) .spi (Od.tsSource 7) 3 ∧ after (.tsSourceWrite T .spi 7 3) der0 (fun d => d.nat (Od.tsState 7) == 0 && (d.scale 7).await == some T)) ∧
    ((der.reached T).follows 3 = true ∧ AcceptedAll (der.reached T) .spi [(Od.derivedRate 3, 5)] ∧ after (.derivedWrite T .spi 3 (some 5) none none) der (fun d => d.num (Od.derivedRate 3) == 5 && d.nat (Od.derivedAnchor 3) == (der.reached T).now0 && d.nat (Od.derivedStart 3) == tsNum ((der.reached T).tsNow 3) && d.val72 3 == (der.reached T).val72 3 && d.bit (Od.tsSticky 3) Bit.tsSticky_DerivedReanchored)) := by decide +kernel

/-- States and operands that meet the hypotheses of every clause of LeapSeconds, and what follows. -/
theorem witness_LeapSeconds :
    (AcceptedAll ((srv 5 [(Od.leapSourceMode, 1)]).reached T) .spi (given [(Od.leapPending, some 1), (Od.leapTime, some s38)]) ∧ after (.leapPendingWrite T .spi (some 1) (some s38)) (srv 5 [(Od.leapSourceMode, 1)]) (fun d => d.nat Od.leapPending == 1 && d.num Od.leapTime == s38 && d.nat Od.leapSource == 1 && d.bit Od.utcSticky Bit.utcSticky_LeapAnnounced)) ∧
    ((lp 1 s90).dev.nat Od.leapPending ≠ 0 ∧ tsTime ((lp 1 s90).dev.nat Od.leapTime) - (lp 1 s90).dev.num Od.leapFlagLead * second ≤ ((lp 1 s90).reached T).tsNow 0 ∧ idles (.leapFlagStart T) (lp 1 s90) ∧ ((lp 1 s90).reached T).leapAt (((lp 1 s90).reached T).tsNow 0) = 1) ∧
    (((lp 1 sFar).reached T).tsNow 0 < tsTime ((lp 1 sFar).dev.nat Od.leapTime) - (lp 1 sFar).dev.num Od.leapFlagLead * second ∧ ((lp 1 sFar).reached T).leapAt (((lp 1 sFar).reached T).tsNow 0) = 0) ∧
    (after (.leapApplied T) (lp 1 s16) (fun d => d.num Od.utcOffset == (lp 1 s16).dev.num Od.utcOffset + 1 && d.nat Od.leapPending == 0 && d.nat Od.leapsApplied == 1 && d.bit Od.utcSticky Bit.utcSticky_LeapApplied && only (lp 1 s16).dev d [Od.utcOffset, Od.leapPending, Od.leapSource, Od.leapsApplied, Od.utcSticky] [.svc])) ∧
    (after (.leapApplied T) (lp 2 s16) (fun d => d.num Od.utcOffset == (lp 2 s16).dev.num Od.utcOffset - 1)) ∧
    (idles (.leapApplied T) (lp 2 s90)) ∧
    (AcceptedAll ((lpH).reached T) .spi (given [(Od.leapPending, some 0), (Od.leapTime, none)]) ∧ after (.leapPendingWrite T .spi (some 0) none) lpH (fun d => d.nat Od.leapPending == 0 && d.nat Od.leapSource == 0 && d.bit Od.utcSticky Bit.utcSticky_LeapCancelled && d.num Od.leapTime == s90)) ∧
    (idles (.leapApplied T) (lp 0 s16) ∧ idles (.leapFlagStart T) (lp 0 s16)) := by decide +kernel

/-- Reference 12 (GNSS antenna or PTP), enabled and in a state, with its registers changed. -/
def rf (n state : Nat) (l : List (Nat × Int) := []) (f : RefReg → RefReg := id) : State :=
  srv 5 ([(Od.refEnable n, 1), (Od.refState n, (state : Int)), (Od.selectedRef, 255)] ++ l) fun d => d.modRr n f
def todBytes : List Byte :=
  let bs := beBytes 4 0xC57A011A ++ beBytes 8 100 ++ beBytes 2 37 ++ [0, 2] ++ beBytes 8 0 ++ beBytes 4 1000 ++ [1, 0]
  bs ++ beBytes 2 (crc16 (bs.drop 2))
def todS : State := rf 7 1 [(Od.refinFreq 7, 1), (Od.todEnable 7, 1)]
def m0 : State := srv 5 [(Od.learnInterval, 10)]
def m1 : State := { m0 with dev := ((((m0.dev.put Od.learnHoldoff 10).put (Od.incOwner 0) 2).put Od.loState 2).modScale 0 fun c => { c with locked := true }).modKeep fun k => { k with n := 2, sumTemp := 90, sumInteg := 70, barred := false } }
def atm : State := srv 5 [(Od.loState, 2), (Od.loSourceActive, 2)] fun d => d.modKeep fun k => { k with atomlock := { raw := some false, since := 0, taken := some true } }
def m3 : State := srv 5 [(Od.modelState, 3), (Od.modelOffset, 12)]
def lost : State := rf 8 2 [(Od.refLive 8, (setBit 0 Bit.refLive_SignalLoss : Nat))] fun r => { r with lossAt := some 0 }
def qual : State := rf 8 1 [] fun r => { r with timer := 5, timerFrom := some 0 }
def TS : Nat := 10 ^ 12
/-- Three measurements of reference 8 on a line of slope 0. -/
def scl : State := rf 8 5 [(Od.refLive 8, (setBit (setBit 0 Bit.refLive_FreqHalf) Bit.refLive_FreqFull : Nat))] fun r =>
  { r with firstAt := some 0, below := [(0, some 0)], meas := [⟨TS - 1, 0, 0⟩, ⟨TS - ticksPerSec, 0, 0⟩] }
def ovn : State := srv 5 [(Od.loState, 2), (Od.loSourceActive, 1), (Od.ovenReadyMode, 0)] fun d => d.modKeep fun k => { k with ovenrdy := { raw := some false, since := 0, taken := some true } }
def stal : State := srv 5 [(Od.tempSource, 1), (Od.tempExternal, 33)] fun d => d.modKeep fun k => { k with extAt := some 0, stale := false }

/-- States and operands that meet the hypotheses of every clause of ReferencesEnabledAndLost, and what follows. -/
theorem witness_ReferencesEnabledAndLost :
    (Accepted ((srv 5).reached T) .spi (Od.refEnable 15) 1 ∧ after (.refEnableWrite T .spi 15 1) (srv 5) (fun d => d.nat (Od.refEnable 15) == 1 && d.nat (Od.refState 15) == 1 && d.bit (Od.refSticky 15) Bit.refSticky_MonitorEntered && (d.rr 15).loaded == (srv 5).dev.nat (Od.qualifyTime 15) * ticksPerSec)) ∧
    (Accepted ((rf 15 2).reached T) .spi (Od.refEnable 15) 0 ∧ after (.refEnableWrite T .spi 15 0) (rf 15 2 [(Od.refLive 15, 3)]) (fun d => d.nat (Od.refEnable 15) == 0 && d.nat (Od.refState 15) == 0 && d.nat (Od.refLive 15) == 0)) ∧
    (((rf 8 2).reached (10 ^ 12)).lossDue 8 = true ∧ after (.signalLoss (10 ^ 12) 8) (rf 8 2) (fun d => d.bit (Od.refLive 8) Bit.refLive_SignalLoss && (d.rr 8).lossAt == some (10 ^ 12) && only (rf 8 2).dev d [Od.refLive 8] [.sel])) ∧
    (lost.dev.cinchOn = true ∧ (lost.reached T).rowTaken 8 = false ∧ lost.dev.bit (Od.refLive 8) Bit.refLive_SignalLoss = true ∧ lost.dev.nat Od.holdOff * ticksPerMs ≤ T - 0 ∧ after (.holdoffElapsed T 8) lost (fun d => d.nat (Od.refState 8) == 6 && d.bit (Od.refSticky 8) Bit.refSticky_Lost && d.nat (Od.lossCount 8) == 1 && (d.flt.queue.map fun r => (r.src, r.detail)) == [(24, 0)])) ∧
    ((qual.reached T).mayQualify 8 = true ∧ (qual.dev.rr 8).rose = false ∧ after (.qualifyTimeElapsed T 8) qual (fun d => d.nat (Od.refState 8) == 2 && d.bit (Od.refSticky 8) Bit.refSticky_Qualified && d.num (Od.stateSince 8) == (qual.reached T).now0)) ∧
    ((scl.reached TS).freqCovers 8 TS = true ∧ 10 * (toI64 ((scl.reached TS).freqOffsetOf 8)).natAbs < 4 * scl.dev.nat (Od.freqTolerance 8) ∧ Tab.get (fun _ => none) (scl.dev.rr 8).below 0 = some 0 ∧ scl.dev.nat Od.suspectClearTime * ticksPerSec ≤ TS - 0 ∧ after (.suspectClearTimeElapsed TS 8) scl (fun d => !d.bit (Od.refLive 8) Bit.refLive_FreqHalf && !d.bit (Od.refLive 8) Bit.refLive_FreqFull && only scl.dev d [Od.refLive 8, Od.freqOffset 8, Od.phaseDeviation 8, Od.wander 8] [.sel])) ∧
    ((srv 5).dev.num (Od.refEnable 15) = 0 ∧ Accepted ((srv 5).reached T) .spi (Od.refEnable 15) 0 ∧ after (.refEnableWrite T .spi 15 0) (srv 5) (fun d => only (srv 5).dev d logObjects [.pair, .pmc])) ∧
    (idles (.signalLoss T 8) (srv 5) ∧ idles (.holdoffElapsed T 8) (srv 5) ∧ idles (.qualifyTimeElapsed T 8) (rf 8 1 [(Od.opMode, 1)]) ∧ idles (.suspectClearTimeElapsed T 8) (srv 5)) := by decide +kernel

/-- States and operands that meet the hypotheses of every clause of ReferenceMessages, and what follows. -/
theorem witness_ReferenceMessages :
    ((srv 5).dev.cinchOn = true ∧ (srv 5).dev.nat Od.disagreeInterval * ticksPerSec ≤ 10 ^ 12 - (srv 5).dev.sel.interval ∧ after (.disagreeIntervalEnd (10 ^ 12)) (srv 5) (fun d => d.sel.interval == 10 ^ 12)) ∧
    (idles (.disagreeIntervalEnd T) (srv 1)) ∧
    (todS.dev.isTimeRef 7 = true ∧ todS.dev.fromLog = false ∧ todValid todBytes = true ∧ after (.todMessage T 7 todBytes) todS (fun d => (d.rr 7).tod == [todRead todBytes T])) ∧
    (todValid (0 :: todBytes.drop 1) = false ∧ after (.todMessage T 7 (0 :: todBytes.drop 1)) todS (fun d => (d.rr 7).tod == [] && d.bit (Od.refSticky 7) Bit.refSticky_TodCrcError && d.nat (Od.todCrcErrors 7) == 1)) ∧
    ((srv 8).dev.fromLog = true ∧ idles (.todMessage T 7 todBytes) (srv 8)) ∧
    ((rf 15 1).dev.fromLog = false ∧ after (.esmcPdu T 15 2 255) (rf 15 1) (fun d => d.nat (Od.ssmLast 15) == 2 && d.nat (Od.essmLast 15) == 255 && d.nat (Od.qlReceived 15) == esmcQl 2 255 && (d.rr 15).announceAt == T)) ∧
    (5 * ticksPerSec ≤ T - ((rf 14 1).dev.rr 14).announceAt ∧ after (.esmcTimeout T 14) (rf 14 1) (fun d => d.nat (Od.qlReceived 14) == 15 && only (rf 14 1).dev d [Od.qlReceived 14, Od.qlEffective 14, Od.refSticky 14] [])) ∧
    (Accepted ((srv 5).reached T) .spi (Od.alignEnable 7) 1 ∧ after (.alignEnableWrite T .spi 7 1) (srv 5) (fun d => d.num (Od.alignEnable 7) == 1 && d.nat (Od.alignState 7) == 3 && only (srv 5).dev d [Od.alignEnable 7, Od.alignState 7] [.sel])) ∧
    (after (.todMessage T 7 todBytes) (srv 5) (fun d => only (srv 5).dev d logObjects [.pair, .pmc]) ∧ after (.esmcPdu T 15 2 255) (srv 5) (fun d => only (srv 5).dev d logObjects [.pair, .pmc])) ∧
    (idles (.esmcPdu T 15 2 255) (srv 8) ∧ idles (.esmcTimeout T 14) (srv 5)) := by decide +kernel

/-- States and operands that meet the hypotheses of every clause of OscillatorEvents, and what follows. -/
theorem witness_OscillatorEvents :
    (ovn.dev.ovenWatched = true ∧ ovn.dev.loInService = true ∧ ovn.dev.ovenPin = true ∧ (ovn.reached T).ovenSampleFrom 0 + ovn.dev.nat Od.ovenReadyDebounce ≤ (ovn.reached T).ovenSampleLast ∧ after (.ovenrdyChange T false) ovn (fun d => d.keep.ovenrdy == { raw := some false, since := 0, taken := some false } && !d.ovenPin && d.nat Od.loState == 3 && d.nat Od.ovenState == 3 && d.bit Od.loSticky Bit.loSticky_OvenUnready && d.nat Od.ovenUnreadyCount == 1 && d.isLive 1)) ∧
    (after (.ovenrdyChange T true) ovn (fun d => d.keep.ovenrdy.raw == some true && d.keep.ovenrdy.since == T)) ∧
    (atm.dev.loClass = 2 ∧ atm.dev.atomPin = true ∧ after (.atomlockChange T false) atm (fun d => d.keep.atomlock == { raw := some false, since := 0, taken := some false } && !d.atomPin && d.nat Od.atomLocked == 0 && d.nat Od.loState == 3 && d.bit Od.loSticky Bit.loSticky_AtomUnlocked && d.nat Od.atomUnlockCount == 1 && d.isLive 1)) ∧
    (after (.loFail T 2 0) (srv 5) (fun d => d.nat Od.loState == 4 && d.bit Od.loSticky Bit.loSticky_LoFail && d.nat Od.holdoverGrowth == sat64 && d.isLive 0 && d.nat Od.tsynLocked == 0 && d.bit Od.loSticky Bit.loSticky_TsynLockLost && only (srv 5).dev d [Od.loState, Od.loSticky, Od.tsynLocked, Od.holdoverGrowth, Od.faultLive] [.flt])) ∧
    (after (.loFail T 0 1000000000001) (srv 5) (fun d => d.nat Od.loState == 4 && d.num Od.loMeasuredOffset == 1000000000001)) ∧
    (after (.loFail T 0 1000000000000) (srv 5) (fun d => d.nat Od.loState == (srv 5).dev.nat Od.loState && d.num Od.loMeasuredOffset == 1000000000000 && only (srv 5).dev d [Od.loMeasuredOffset] [])) ∧
    (after (.ovenSettleEnd T) (srv 5) (fun d => d.nat Od.ovenState == 0 && only (srv 5).dev d [Od.ovenState] [.keep])) ∧
    (stal.dev.nat Od.tempStaleLimit < min sat32 ((10 ^ 12 - 0) / ticksPerMs) ∧ after (.tempStale (10 ^ 12)) stal (fun d => d.keep.stale && d.bit Od.keeperSticky Bit.keeperSticky_TempStale && d.num Od.tempInUse == 33 && only stal.dev d [Od.tempExternalAge, Od.tempInUse, Od.keeperSticky] [.keep])) ∧
    (after (.tempStale T) (srv 5 [(Od.tempOnChip, 44)]) (fun d => d.num Od.tempInUse == 44 && !d.keep.stale)) := by decide +kernel

/-- States and operands that meet the hypotheses of every clause of ModelLearnedAndStored, and what follows. -/
theorem witness_ModelLearnedAndStored :
    (m0.dev.running 0 = true ∧ m0.dev.keep.start + m0.dev.num Od.learnInterval * second ≤ (m0.reached T).tsNow 0 ∧ after (.learnInterval T) m0 (fun d => d.keep.start == (m0.reached T).tsNow 0 && d.keep.points == m0.dev.keep.points && d.bit Od.keeperSticky Bit.keeperSticky_LearningPaused && only m0.dev d [Od.keeperSticky] [.keep])) ∧
    (m1.dev.keep.barred = false ∧ (m1.reached T).mayLearn = true ∧ after (.learnInterval T) m1 (fun d => d.keep.points.head? == some ⟨(m1.reached T).tsNow 0 / 2, 45, rdiv 70 (2 * fine)⟩ && d.keep.n == 0 && (d.nat Od.modelState == 2 || d.nat Od.modelState == 3))) ∧
    (after (.modelStore (10 ^ 13)) m3 (fun d => (d.keep.stored.map fun m => (m.offset, m.storedAt)) == some (12, 10 ^ 13) && d.bit Od.keeperSticky Bit.keeperSticky_ModelStored && only m3.dev d [Od.keeperSticky] [.keep])) ∧
    (Accepted (m3.reached T) .spi Od.modelReset 1 ∧ after (.modelReset T .spi 1) m3 (fun d => d.nat Od.modelState == 0 && d.num Od.modelOffset == 0 && d.nat Od.modelPoints == 0 && d.keep.points == [] && d.keep.stored == m3.dev.keep.stored && d.bit Od.keeperSticky Bit.keeperSticky_ModelDiscarded)) ∧
    (idles (.learnInterval T) (srv 5) ∧ idles (.modelStore T) m3) ∧
    (Accepted (m3.reached T) .spi Od.modelReset 0 ∧ after (.modelReset T .spi 0) m3 (fun d => only m3.dev d logObjects [.pair, .pmc])) := by decide +kernel

/-- Awl channel 5 enabled on TS_0, on duty. -/
def ch5 (l : List (Nat × Int) := []) (f : Dev → Dev := id) : State :=
  srv 5 ([(Od.awlEnable 5, 1), (Od.awlState 5, 1), (Od.tioFunction 5, 1)] ++ l) f
def aT : Nat := fineOf [] T 3 255
def evA : AwlEv := { at' := 5 * 65536, start := true, delay := 2, flags := 0 }
def evZ : AwlEv := { at' := 9 * 65536, start := false, delay := 1, flags := 0 }
def recA : AwlRec := { tick := 7, fine := 1, chan := 5, kind := 0, flags := 0, seq := 3, value := 9 }
def ring (w : Nat) : State := ch5 [(Od.dmaRun, 1), (Od.dmaBase, 4096), (Od.dmaSize, 64), (Od.dmaWriteIndex, (w : Int)), (Od.dmaReadIndex, 0)] fun d =>
  d.modCap 5 fun c => { c with queue := [recA], lossRing := true }
def hist : List Nat := List.replicate 256 ((st []).dev.nat Od.burnishSamples / 256)
def burn (stage : Nat) (l : List (Nat × Int) := []) : State := ch5 l fun d =>
  d.modAwl fun a => { a with run := some { item := 5, stage, opId := 1, from' := 0, boundary := 0, spare := true } }
def ch5b : State := ch5 [] fun d => d.modCap 5 fun c => { c with lastAt := some (aT - 65535) }
def iv : State := ch5 [(Od.awlMode 5, 1)] fun d => d.modCap 5 fun c => { c with inbox := [evA, evZ], held := none }
def gA : AwlGate := { index := 0, t0 := 0, t1 := second / 100, c0 := 0, c1 := 1000, at' := 0, flags := 0, edges := 2 }
def gt : State := ch5 [(Od.awlMode 5, 2), (Od.freqGate 5, 10), (Od.nominalFreq 5, 100000)] fun d => d.modCap 5 fun c => { c with gate := some gA }
def ringOff : State := srv 5 [(Od.dmaBase, 4096), (Od.dmaSize, 4096), (Od.dmaWriteIndex, 1)]
def bst : State := ch5 [] fun d => d.modAwl fun a => { a with queued := some 40 }
def lpd : State := srv 5 [(Od.refEnable 15, 1), (Od.refState 15, 1), (Od.synceLane 15, 3), (Od.lpdState 3, 1), (Od.laneLinkUp 3, 1)]
def burnD (stage : Nat) (ds : List Int) : State := { burn stage with dev := (burn stage).dev.modAwl fun a => { a with run := a.run.map fun r => { r with diffs := ds } } }
def rD1 : BurnRun := { item := 5, stage := 1, opId := 1, from' := 0, boundary := 0, spare := true, diffs := [-3] }
def tolD : Int := ((st []).dev.nat Od.handoverTolerance * 65536 / 1600000 : Nat)
def pre : State := ch5 [(Od.prescale 5, 2)] fun d => d.modCap 5 fun c => { c with seen := 3 }
def full5 : State := ch5 [] fun d => d.modCap 5 fun c => { c with frontAt := aT + 3 * 204800 + 1 }
def second' : State := { burn 3 with dev := (burn 3).dev.modAwl fun a => { a with run := some { item := 7, stage := 3, opId := 1, from' := 0, boundary := 0, spare := false }, second := some { item := 5, stage := 2, opId := 2, from' := 0, boundary := 0, spare := true } } }
def blk : State := ch5 [(Od.burnishBlocked, 1), (Od.spareFor, 5)] fun d => d.modAwl fun a => { a with blockedBy := some 5 }
def histBad : List Nat := (st []).dev.nat Od.burnishSamples :: List.replicate 255 0
def rdy : State := ch5 [(Od.spareAuto, 1)]

/-- States and operands that meet the hypotheses of every clause of EdgesStamped, and what follows. -/
theorem witness_EdgesStamped :
    ((srv 5).dev.onDuty 39 = none ∧ idles (.awlEdge T 39 3 255 false none) (srv 5)) ∧
    (ch5.dev.onDuty 5 = some 5 ∧ ch5.dev.awlRuns = true ∧ ch5.dev.inputOpen 5 = true ∧ ch5.dev.edgeSelected 5 false = true ∧ (ch5.dev.cap 5).seen % max 1 (ch5.dev.nat (Od.prescale 5)) = 0 ∧ aT = fineOf (ch5.dev.cap 5).table (ch5.reached T).cnt (3 % 4) (255 % 256) ∧ ch5.dev.refChannel 5 = false ∧ ch5.dev.nat (Od.awlMode 5) = 0 ∧ ch5.dev.running (ch5.dev.nat (Od.awlTimeScale 5)) = true ∧ (ch5.dev.cap 5).frontAt ≤ aT ∧ (ch5.dev.cap 5).fifoAt ≤ aT ∧ after (.awlEdge T 5 3 255 false none) ch5 (fun d => d.nat (Od.events 5) == 1 && d.num (Od.lastStamp 5) == tsNum (((ch5.reached T).convert 0 (aT / 65536 + ((ch5.reached T).tick - (ch5.reached T).cnt)) (aT % 65536)).1 - fine16 (ch5.dev.num (Od.awlDelay 5))) && (d.cap 5).lastAt == some aT && only ch5.dev d [Od.events 5, Od.lastStamp 5, Od.lastResult 5, Od.lastFlags 5, Od.dmaDropped 5, Od.awlSticky 5, Od.convTooOld 0, Od.tsSticky 0] [.awl])) ∧
    (ch5b.dev.onDuty 5 = some 5 ∧ (ch5b.dev.cap 5).lastAt.any (fun l => aT < l + 65536) = true ∧ after (.awlEdge T 5 3 255 false none) ch5b (fun d => d.nat (Od.deadTimeLosses 5) == 1 && d.bit (Od.awlSticky 5) Bit.awlSticky_DeadTimeLoss && (d.cap 5).lossNext && only ch5b.dev d [Od.deadTimeLosses 5, Od.awlSticky 5] [.awl])) ∧
    ((pre.dev.cap 5).seen % max 1 (pre.dev.nat (Od.prescale 5)) ≠ 0 ∧ after (.awlEdge T 5 3 255 false none) pre (fun d => (d.cap 5).seen == 4 && only pre.dev d [] [.awl])) ∧
    (aT + 4 * 204800 < max aT (full5.dev.cap 5).frontAt + 204800 ∧ after (.awlEdge T 5 3 255 false none) full5 (fun d => d.nat (Od.overrunLosses 5) == 1 && d.bit (Od.awlSticky 5) Bit.awlSticky_OverrunLoss && (d.cap 5).lossNext && (d.cap 5).lastAt == some aT && (d.flt.queue.map fun r => (r.src, r.detail)) == [(95, 1)] && only full5.dev d [Od.overrunLosses 5, Od.awlSticky 5] [.awl, .flt])) := by decide +kernel

/-- States and operands that meet the hypotheses of every clause of IntervalsAndGates, and what follows. -/
theorem witness_IntervalsAndGates :
    ((iv.dev.cap 5).inbox = [evA, evZ] ∧ (iv.dev.cap 5).held = none ∧ evZ.at' + 256 * 65536 ≤ (iv.reached T).cnt * 65536 ∧ ((evZ.at' : Int) - evA.at').natAbs * 16 ≤ iv.dev.nat (Od.intervalWindow 5) * 655360 ∧ after (.intervalEventRelease T 5) iv (fun d => d.num (Od.lastResult 5) == toI64 (rdiv (((evZ.at' : Int) - evA.at') * (16 * incNom : Nat)) (10 * incNom : Nat) - 1 + 2) && (d.cap 5).held == none && (d.cap 5).inbox == [] && only iv.dev d [Od.lastResult 5, Od.lastFlags 5, Od.awlSticky 5, Od.dmaDropped 5] [.awl])) ∧
    (after (.intervalEventRelease T 5) ch5 (fun d => (d.cap 5).inbox == [] && only ch5.dev d [] [.awl])) ∧
    ((gt.dev.cap 5).gate = some gA ∧ gA.index < (gt.reached T).tsNow 0 / gt.dev.gateLen 5 ∧ gt.dev.running (gt.dev.nat (Od.awlTimeScale 5)) = true ∧ after (.freqGateEnd T 5) gt (fun d => d.num (Od.lastResult 5) == toI64 (rdiv ((1000 * second - gt.dev.num (Od.nominalFreq 5) * (second / 100)) * 1000000000000000) (gt.dev.num (Od.nominalFreq 5) * (second / 100))) && (d.cap 5).gate == none && only gt.dev d [Od.lastResult 5, Od.lastFlags 5, Od.awlSticky 5, Od.dmaDropped 5] [.awl])) ∧
    ((ch5.dev.cap 5).gate = none ∧ idles (.freqGateEnd T 5) ch5) ∧
    (after (.freqGateEnd T 5) { gt with dev := gt.dev.modCap 5 fun c => { c with gate := some { gA with edges := 1 } } } (fun d => d.num (Od.lastResult 5) == 0 && (d.cap 5).noFreq && (d.cap 5).gate == none)) := by decide +kernel

/-- States and operands that meet the hypotheses of every clause of EventRing, and what follows. -/
theorem witness_EventRing :
    ((ring 0).dev.awlRuns = true ∧ (ring 0).dev.dmaNext = some 5 ∧ ((ring 0).dev.cap 5).queue = [recA] ∧ ((next? (exec (.awlDmaWrite T) (ring 0))).map fun s => (s.mem == writeBytes [] 4096 ({ recA with flags := withFlag 0 Bit.awlFlags_LossBefore true } : AwlRec).bytes && s.dev.nat Od.dmaWriteIndex == 1 && s.dev.nat Od.dmaRecords == 1 && (s.dev.cap 5).queue == [] && only (ring 0).dev s.dev [Od.dmaWriteIndex, Od.dmaRecords] [.awl, .power])) = some true) ∧
    (((ring 1).dev.nat Od.dmaWriteIndex + 1) % max 1 ((ring 1).dev.nat Od.dmaSize / 32) = (ring 1).dev.nat Od.dmaReadIndex ∧ ((next? (exec (.awlDmaWrite T) (ring 1))).map fun s => (s.mem == [] && s.dev.nat (Od.dmaDropped 5) == 1 && s.dev.nat Od.ringFull == 1 && s.dev.nat Od.dmaWriteIndex == 1 && only (ring 1).dev s.dev [Od.dmaDropped 5, Od.ringFull, Od.awlSticky 5] [.awl])) = some true) ∧
    ((srv 5).dev.on Od.dmaRun = false ∧ idles (.awlDmaWrite T) (srv 5)) ∧
    (Accepted (ringOff.reached T) .spi Od.dmaRun 1 ∧ after (.dmaRunWrite T .spi 1) ringOff (fun d => d.num Od.dmaRun == 1 && d.nat Od.dmaWriteIndex == 0 && only ringOff.dev d [Od.dmaRun, Od.dmaWriteIndex, Od.dmaReadIndex] [])) := by decide +kernel

/-- States and operands that meet the hypotheses of every clause of BurnishRotation, and what follows. -/
theorem witness_BurnishRotation :
    (bst.dev.awl.queued = some 40 ∧ bst.dev.nat Od.spareState = 0 ∧ bst.dev.on Od.burnishBlocked = false ∧ after (.burnishStart T) bst (fun d => d.nat Od.burnishCurrent == 40 && d.nat Od.spareState == 2 && (d.awl.run.map fun r => (r.item, r.spare)) == some (40, false) && (d.acc.journal.map fun j => (j.kind, j.detail, j.outcome)) == [(4, 40, 0)])) ∧
    (Accepted (ch5.reached T) .spi Od.burnishNow 5 ∧ ch5.dev.awl.blockedBy ≠ some 5 ∧ after (.burnishNow T .spi 5) ch5 (fun d => d.awl.queued == some 5 && d.nat Od.burnishNext == 5 && only ch5.dev d [Od.burnishNext] [.awl])) ∧
    ((burn 1).dev.nat Od.overlapTime * ticksPerMs ≤ T - 0 ∧ ((burnD 1 [-3]).reached T).overlapped rD1 = true ∧ rD1.skew = -5 ∧ after (.skewMeasured T) (burnD 1 [-3]) (fun d => d.num Od.spareSkew == -5 && (d.awl.run.map fun r => (r.stage, r.item, r.from')) == some (2, 5, T))) ∧
    ((burn 1).dev.nat Od.overlapMax * ticksPerSec ≤ 10 ^ 13 ∧ after (.overlapMaxExpiry (10 ^ 13)) (burn 1) (fun d => d.bit (Od.awlSticky 5) Bit.awlSticky_SkewReused && d.ebe.skewLive.contains 5 && (d.awl.run.map (·.stage)) == some 2)) ∧
    (after (.overlapMaxExpiry (10 ^ 13)) (burn 5) (fun d => d.bit (Od.awlSticky 5) Bit.awlSticky_HandbackUnchecked && (d.awl.run.map (·.stage)) == some 6)) ∧
    (0 < ((burn 2).reached T).boundaryNow ∧ after (.spareOnDuty T) (burn 2) (fun d => d.nat Od.spareState == 1 && d.nat Od.spareFor == 5 && d.nat (Od.awlState 5) == 2 && (d.awl.run.map (·.stage)) == some 3)) ∧
    ((burn 3).dev.isHistogram hist = true ∧ histogramOk hist (sumN hist) = true ∧ ((burn 3).dev.cap 5).unlocked = false ∧ after (.histogramDone T 5 hist) (burn 3) (fun d => (d.cap 5).table == hist && (d.awl.run.map (·.stage)) == some 5)) ∧
    (((burnD 5 [tolD]).reached T).handbackGood { rD1 with stage := 5, diffs := [tolD] } = true ∧ after (.handbackChecked T) (burnD 5 [tolD]) (fun d => (d.awl.run.map (·.stage)) == some 6)) ∧
    (after (.handbackChecked T) (burnD 5 [tolD + 1]) (fun d => d.awl.run == none && d.nat (Od.awlState 5) == 3 && d.on Od.burnishBlocked && d.awl.blockedBy == some 5 && d.bit (Od.awlSticky 5) Bit.awlSticky_HandoverFault && d.nat Od.burnishFailures == 1)) ∧
    (after (.channelOnDuty T) (burn 6 [(Od.spareState, 1), (Od.spareFor, 5)]) (fun d => d.awl.run == none && d.nat Od.spareState == 0 && d.nat Od.spareFor == 0xFF && d.nat (Od.awlState 5) == 1 && d.nat Od.burnishRuns == 1)) ∧
    (ch5.dev.awl.run = none ∧ idles (.skewMeasured T) ch5 ∧ idles (.overlapMaxExpiry T) ch5 ∧ idles (.spareOnDuty T) ch5 ∧ idles (.handbackChecked T) ch5 ∧ idles (.histogramDone T 5 hist) ch5 ∧ idles (.channelOnDuty T) ch5) ∧
    (idles (.burnishStart T) (burn 1) ∧ idles (.burnishStart T) (ch5 [(Od.burnishBlocked, 1)])) ∧
    (Accepted (blk.reached T) .spi Od.burnishNow 5 ∧ after (.burnishNow T .spi 5) blk (fun d => d.awl.blockedBy == none && !d.on Od.burnishBlocked && d.nat Od.spareFor == 0xFF && d.awl.queued == some 5)) ∧
    (idles (.skewMeasured T) (burn 1) ∧ idles (.overlapMaxExpiry T) (burn 3) ∧ idles (.handbackChecked T) (burn 5) ∧ idles (.channelOnDuty T) (burn 5) ∧ idles (.spareOnDuty T) (burn 3) ∧ idles (.histogramDone T 5 hist) (burn 1) ∧ idles (.histogramDone T 6 hist) (burn 3)) ∧
    (0 < (second'.reached T).boundaryNow ∧ after (.spareOnDuty T) second' (fun d => d.nat Od.spareState == 1 && (d.awl.run.map (·.item)) == some 7 && (d.awl.second.map fun r => (r.item, r.stage)) == some (5, 3) && d.nat Od.spareFor == 5)) ∧
    ((burn 3).dev.isHistogram histBad = true ∧ histogramOk histBad (sumN histBad) = false ∧ after (.histogramDone T 5 histBad) (burn 3) (fun d => d.awl.run == none && d.nat (Od.awlState 5) == 3 && d.on Od.burnishBlocked && d.awl.blockedBy == some 5 && d.bit (Od.awlSticky 5) Bit.awlSticky_BinFault && d.nat Od.burnishFailures == 1)) := by decide +kernel

/-- States and operands that meet the hypotheses of every clause of DelayLines, and what follows. -/
theorem witness_DelayLines :
    (after (.dllUnlock T 39) (srv 5) (fun d => (d.cap 39).unlocked && d.bit (Od.awlSticky 39) Bit.awlSticky_DllUnlock && d.isLive 71)) ∧
    (after (.dllUnlock T 85) (srv 5) (fun d => (d.cap 85).unlocked && d.nat (Od.lpdState 21) == 2 && d.isLive 94 && only (srv 5).dev d [Od.lpdState 21, Od.faultLive] [.awl, .flt])) ∧
    (after (.dllRelock T 39) (srv 5) (fun d => !(d.cap 39).unlocked && d.awl.next == 39 && only (srv 5).dev d [Od.burnishNext, Od.faultLive] [.awl, .flt])) ∧
    (after (.dllRelock T 85) (srv 5 [(Od.lpdState 21, 2)]) (fun d => d.nat (Od.lpdState 21) == 1 && !d.isLive 94)) ∧
    (Accepted ((srv 5 [(Od.lpdState 21, 1), (Od.laneState 21, 4)]).reached T) .spi (Od.lpdBurnishNow 21) 1 ∧ after (.lpdBurnishNow T .spi 21 1) (srv 5 [(Od.lpdState 21, 1), (Od.laneState 21, 4)]) (fun d => d.nat (Od.lpdState 21) == 3 && only (srv 5 [(Od.lpdState 21, 1), (Od.laneState 21, 4)]).dev d [Od.lpdState 21, Od.faultLive] [.flt])) ∧
    (after (.histogramDone T 85 hist) (srv 5 [(Od.lpdState 21, 3)]) (fun d => (d.cap 85).table == hist && d.nat (Od.lpdState 21) == 1 && d.nat (Od.lpdBinSpread 21) == binSpreadOf hist (sumN hist) && d.num (Od.lpdLastBurnish 21) == ((srv 5).reached T).now0)) ∧
    (lpd.dev.fromLog = false ∧ after (.syncePhaseStamp T 1 3 255) lpd (fun d => (d.rr 15).meas.head?.map (·.x) == some ((lpd.reached T).edgeOffset 15 (fineOf [] T 3 255 / 65536) (fineOf [] T 3 255 % 65536) 0).1)) ∧
    (idles (.syncePhaseStamp T 1 3 255) (srv 5)) ∧
    (rdy.dev.awlUsed 5 = true ∧ rdy.dev.journalFree = true ∧ after (.dllUnlock T 5) rdy (fun d => (d.cap 5).unlocked && d.num Od.spareSkew == (rdy.dev.cap 5).skew && (d.awl.run.map fun r => (r.item, r.stage, r.spare)) == some (5, 2, true))) ∧
    (after (.dllRelock T 85) (srv 5) (fun d => !(d.cap 85).unlocked && only (srv 5).dev d [] [.awl])) ∧
    (Accepted ((srv 5 [(Od.lpdState 21, 1), (Od.laneState 21, 4)]).reached T) .spi (Od.lpdBurnishNow 21) 0 ∧ after (.lpdBurnishNow T .spi 21 0) (srv 5 [(Od.lpdState 21, 1), (Od.laneState 21, 4)]) (fun d => only (srv 5 [(Od.lpdState 21, 1), (Od.laneState 21, 4)]).dev d logObjects [.pair, .pmc])) ∧
    (after (.histogramDone T 85 histBad) (srv 5 [(Od.lpdState 21, 3)]) (fun d => d.nat (Od.lpdState 21) == 2 && d.isLive 94) ∧ idles (.histogramDone T 85 hist) (srv 5 [(Od.lpdState 21, 1)])) := by decide +kernel

/-- The baseband in service, its sample clock good, antenna 1 enabled. -/
def gn (l : List (Nat × Int) := []) (f : Dev → Dev := id) : State :=
  srv 5 ([(Od.gnssEnable, 1), (Od.gifClockState, 1), (Od.ifEnable 2, 1), (Od.ifEnable 3, 1)] ++ l) f
def tr : State := gn [(Od.chState 191, 3), (Od.chSignal 191, 3), (Od.navCopyRun, 1), (Od.navCopyBase, 4096), (Od.navCopyRecords, 4), (Od.navCopyWriteIndex, 2)]
def trOff : State := gn [(Od.chState 191, 3), (Od.chSignal 191, 3), (Od.navCopyRun, 1), (Od.navCopyBase, 4096), (Od.navCopyRecords, 4), (Od.navCopyWriteIndex, 3)]
def mk0 : EpochMark := { number := 1000, tick := 625, fine := 0 }
/-- Four satellites of GPS on L1, channels 96 to 99, and what M1 has of them. -/
def satN (n : Nat) : GSat := { c1 := some (96 + n), c5 := none, elevation := 900, healthy := true, ephemeris := true, p1 := 10, p5 := 0, iono1 := 0, iono5 := 0, geo := 0, carrier := 0, weight := 1 }
def sol (n : Nat) : GSol := { sats := (List.range n).map satN, isb := [0, 0, 0], utc := [some { toTai := 100, offset := 37, leap := none }, none, none], fix := (0, 0, 0) }
def four : List (Nat × Int) := (List.range 4).flatMap fun n => [(Od.chState (96 + n), 3), (Od.chCno (96 + n), 6000), (Od.chSv (96 + n), (n + 1 : Nat))]
def gnSol : State := gn four fun d => d.modGnss fun g => { g with marks := [mk0] }
/-- A search of BeiDou B2a on channel 191, at work. -/
def sea : Search := { ch := 191, sig := 5, sv := 30, doppler := 4 }
def gnSea (l : List (Nat × Int) := []) : State := gn ((Od.chState 191, 1) :: l) fun d => d.modGnss fun g => { g with queue := [sea] }
def chanAt (c : Nat) (x : Chan) (d : Dev) : Dev := d.modGnss fun g => { g with chans := Tab.set (fun _ => {}) g.chans c x }
def pull : State := gn [(Od.chState 191, 2)] (chanAt 191 { lockAt := some (T - ticksPerSec) })
def pullL1 : State := gn [(Od.chState 100, 2), (Od.chSv 100, 7), (Od.chDoppler 100, 1000)] (chanAt 100 { lockAt := some (T - ticksPerSec) })
def gone : State := gn [(Od.chState 191, 2), (Od.chSignal 191, 5), (Od.chSv 191, 30)] (chanAt 191 { failAt := some (T - 2 * ticksPerSec) })
def lnav : State := gn [(Od.chState 100, 3), (Od.chSv 100, 7)]
def cm : ChanMeas := { ch := 191, code := 5, carrier := -3, freq := 8, cno := 4000, lock := 1, slips := 2 }
def gnMark : State := gn [] fun d => d.modGnss fun g => { g with marks := [mk0] }
def rec0 (e : Nat) : SolRec :=
  { epoch := e, x := 7, status := 2, band := 3, d := 9, msys := 0, sigma := 3, causes := 0, withheld := false, utc := none, leap := none }
def outB (e : Nat) : State := gn [(Od.refEnable 9, 1), (Od.refState 9, 1)] fun d =>
  d.modGnss fun g => { g with marks := [mk0], antennas := Tab.set (fun _ => {}) g.antennas 1 { (Tab.get (fun _ => {}) g.antennas 1) with outbox := [rec0 e] } }
def pos1 : State := gn [(Od.surveyState 1, 2), (Od.surveyPermit, 2), (Od.resurveyDelay, 1)] fun d =>
  d.modGnss fun g => { g with antennas := Tab.set (fun _ => {}) g.antennas 1 { (Tab.get (fun _ => {}) g.antennas 1) with posSince := some (T - ticksPerSec) } }
def srvy : State := gn [(Od.surveyState 1, 1), (Od.surveyDuration 1, 1)] fun d =>
  d.modGnss fun g => { g with antennas := Tab.set (fun _ => {}) g.antennas 1 { (Tab.get (fun _ => {}) g.antennas 1) with fixes := 2, sum := (10, -10, 30), squares := 600 } }
def outW : State := { outB 1000 with dev := (outB 1000).dev.modGnss fun g => { g with antennas := Tab.set (fun _ => {}) g.antennas 1 { (Tab.get (fun _ => {}) g.antennas 1) with outbox := [{ rec0 1000 with withheld := true }] } } }

/-- States and operands that meet the hypotheses of every clause of SampleClockAndEpochs, and what follows. -/
theorem witness_SampleClockAndEpochs :
    ((srv 5).dev.gnssRuns = false ∧ idles (.gifClockCheck T 5) (srv 5) ∧ idles (.gifClkLoss T) (srv 5) ∧ idles (.epochMark T 1 2 0 0 0 [] []) (srv 5)) ∧
    (gn.dev.gnssRuns = true ∧ (-100000000000 : Int).natAbs ≤ 100000000000 ∧ after (.gifClockCheck T (-100000000000)) gn (fun d => d.num Od.gifClockOffset == -100000000000 && d.nat Od.gifClockState == 1 && only gn.dev d [Od.gifClockOffset, Od.gifClockState, Od.faultLive] [.flt])) ∧
    (after (.gifClockCheck T 100000000001) (gn [(Od.chState 191, 3)]) (fun d => d.nat Od.gifClockState == 2 && d.isLive 96 && d.nat (Od.chState 191) == 1 && d.nat (Od.chState 0) == 0)) ∧
    (after (.gifClkLoss T) (gn [(Od.chState 191, 3)]) (fun d => d.nat Od.gifClockState == 2 && d.isLive 96 && d.nat (Od.chState 191) == 1 && d.bit Od.gnssSticky Bit.gnssSticky_GifClkFault)) ∧
    (gn.dev.gnss.handover = false ∧ gn.dev.nat Od.gcdOnDuty = 0 ∧ gn.dev.gcdCorr 0 = 0 ∧ after (.epochMark T 3 255 0 0 0 [] []) gn (fun d => d.gnss.count == 1 && (d.gnss.marks.map fun m => (m.number, m.tick * 65536 + m.fine)) == [(1, fineOf [] T 3 255)] && only gn.dev d [] [.gnss])) ∧
    (gn.dev.nat Od.gcdBurnishStep ≠ 0 ∧ gn.dev.nat Od.gcdBurnishStep * ticksPerSec ≤ 10 ^ 13 ∧ after (.gcdBurnish (10 ^ 13) hist) gn (fun d => (d.cap 97).table == hist && d.gnss.handover && d.gnss.gcdAt == 10 ^ 13 && d.nat Od.gcdOnDuty == 0)) ∧
    (Accepted (gn.reached T) .spi (Od.gfeReplay 3) 1 ∧ after (.gfeReplay T .spi 3 1) (gn [(Od.chState 191, 3), (Od.chState 5, 3)]) (fun d => d.nat (Od.chState 191) == 1 && d.nat (Od.chState 5) == 3 && d.nat (Od.ifChannelsTracking 3) == 0)) ∧
    (Accepted (gn.reached T) .spi Od.gfeTransfer (2 ^ 264 + 2 ^ 256) ∧ after (.gfeTransfer T .spi (2 ^ 264 + 2 ^ 256) [7]) gn (fun d => d.nat Od.gfeResponse == 7 * 2 ^ 248 && d.nat Od.gfeTransfers == 1 && only gn.dev d [Od.gfeResponse, Od.gfeTransfers] [])) ∧
    (after (.ifLevelFault T 3 199) gn (fun d => d.nat (Od.ifMagOccupancy 3) == 199 && d.isLive 98 && d.bit Od.gnssSticky Bit.gnssSticky_IfLevelFault) ∧ after (.ifLevelFault T 3 200) gn (fun d => !d.isLive 98 && only gn.dev d [Od.ifMagOccupancy 3, Od.faultLive] [.flt])) ∧
    (after (.ifLevelFault T 3 450) gn (fun d => !d.isLive 98) ∧ after (.ifLevelFault T 3 451) gn (fun d => d.isLive 98) ∧ after (.ifLevelFault T 0 451) gn (fun d => !d.isLive 98)) ∧
    (tr.dev.gnssTracks = true ∧ after (.epochMark T 3 255 0 0 0 [] [cm]) tr (fun d => (Tab.get (fun _ => none) d.gnss.latches 191).map (fun l => (l.code, l.carrier, l.cno, l.lock, l.slips, l.doppler == d.num (Od.chDoppler 191))) == some (5, -3, 4000, 1, 2, true) && only tr.dev d [Od.chCno 191, Od.chDoppler 191] [.gnss])) ∧
    (idles (.gcdBurnish T hist) gn ∧ after (.gcdBurnish (10 ^ 13) histBad) gn (fun d => d.cap 97 == gn.dev.cap 97 && !d.gnss.handover && d.gnss.gcdAt == 10 ^ 13)) ∧
    (Accepted (gn.reached T) .spi (Od.gfeReplay 3) 0 ∧ after (.gfeReplay T .spi 3 0) gn (fun d => only gn.dev d logObjects [.pair, .pmc])) := by decide +kernel

/-- States and operands that meet the hypotheses of every clause of ChannelsAndNavigation, and what follows. -/
theorem witness_ChannelsAndNavigation :
    (after (.channelTrack T 191) pull (fun d => d.nat (Od.chState 191) == 3 && only pull.dev d [Od.chState 191, Od.ifChannelsTracking 3] [])) ∧
    (after (.channelLost T 0 false) (gn [(Od.chState 0, 3)]) (fun d => d.nat (Od.chState 0) == 0 && only (gn [(Od.chState 0, 3)]).dev d [Od.chState 0, Od.ifChannelsTracking 0] [.gnss]) ∧ (gone.reached T).signalGone 191 = true ∧ after (.channelLost T 191 true) gone (fun d => d.nat (Od.chState 191) == 4) ∧ idles (.channelLost T 191 true) gn) ∧
    (tr.dev.gnssTracks = true ∧ tr.dev.nat (Od.chState 191) = 3 ∧ tr.dev.nat (Od.chSignal 191) ≠ 0 ∧ after (.navUnitDecoded T 191 0 300 []) tr (fun d => d.nat (Od.chNavErrors 191) == 1 && only tr.dev d [Od.chNavErrors 191] [])) ∧
    (((next? (exec (.navUnitDecoded T 191 1 300 [5]) tr)).map fun s => (s.dev.nat (Od.chNavRecords 191) == 1 && s.dev.nat Od.navCopyWriteIndex == 3 && s.mem == writeBytes [] 4288 (navRecord (T - (T - (tr.reached T).cnt)) 191 3 0 0 1 300 0 [5]) && only tr.dev s.dev [Od.chNavErrors 191, Od.chNavRecords 191, Od.navCopyWriteIndex] [.gnss])) = some true) ∧
    (after (.navUnitDecoded T 191 1 300 [5]) trOff (fun d => d.nat (Od.chNavRecords 191) == 1 && d.nat Od.navCopyWriteIndex == 3)) ∧
    (Accepted (gn.reached T) .spi Od.navCopyRun 1 ∧ after (.navCopyRunWrite T .spi 1) (gn [(Od.navCopyBase, 4096), (Od.navCopyRecords, 4), (Od.navCopyWriteIndex, 2)]) (fun d => d.num Od.navCopyRun == 1 && d.nat Od.navCopyWriteIndex == 0)) ∧
    ((gnSea.reached T).nat Od.acqNoncoherent * codePeriod 5 * ticksPerMs ≤ T - 0 ∧ after (.acquisitionSearchDone T [] (gnSea.dev.nat Od.acqThreshold) 0 77) gnSea (fun d => d.nat Od.acqSearches == 1 && d.nat (Od.chState 191) == 2 && d.nat (Od.chSv 191) == 30 && (d.chan 191).code == 77 && d.gnss.queue == [] && d.nat Od.acqDetections == 1 && only gnSea.dev d [Od.acqSearches, Od.acqDetections, Od.chState 191, Od.chSignal 191, Od.chSv 191, Od.chDoppler 191, Od.ifChannelsTracking 3] [.gnss])) ∧
    (after (.acquisitionSearchDone T [] (gnSea.dev.nat Od.acqThreshold - 1) 0 77) gnSea (fun d => d.nat Od.acqSearches == 1 && d.nat (Od.chState 191) == 0 && only gnSea.dev d [Od.acqSearches, Od.chState 191, Od.chSignal 191, Od.chSv 191] [.gnss])) ∧
    (after (.acquisitionSearchDone T [] 0 0 77) (gnSea [(Od.chState 191, 4)]) (fun d => d.nat (Od.chState 191) == 4)) ∧
    (idles (.acquisitionSearchDone T [] 9 0 77) gn ∧ after (.acquisitionSearchDone T [sea] 9 0 77) gn (fun d => d.gnss.queue == [sea] && d.nat (Od.chState 191) == 1 && d.nat (Od.chSignal 191) == 5 && d.nat (Od.chSv 191) == 30) ∧ idles (.acquisitionSearchDone T [{ sea with sig := 4 }] 9 0 77) gn) ∧
    (((ifChannels 3).find? fun y => (pullL1.reached T).nat (Od.chState y) == 0) = some 144 ∧ after (.channelTrack T 100) pullL1 (fun d => d.nat (Od.chState 100) == 3 && d.nat (Od.chState 144) == 2 && d.nat (Od.chSignal 144) == 1 && d.nat (Od.chSv 144) == 7 && d.num (Od.chDoppler 144) == rdiv (1000 * 117645) 157542) ∧ idles (.channelTrack T 100) gn) ∧
    (idles (.navUnitDecoded T 191 1 300 [5]) gn ∧ after (.navUnitDecoded T 100 0x3FE 0 [7, 7]) lnav (fun d => d.nat (Od.chNavErrors 100) == 1 && d.nat (Od.chNavRecords 100) == 1 && Tab.get (fun _ => []) d.gnss.nav 100 == navRecord (lnav.reached T).cnt 100 0 7 1 0x3FE 240 0 (lnavPayload 0x3FE [7, 7]))) ∧
    (after (.navUnitDecoded T 191 1 300 [5]) { tr with dev := tr.dev.put Od.navCopyReadIndex 3 } (fun d => d.nat Od.navCopyDropped == 1 && d.nat Od.navCopyWriteIndex == 2 && d.bit Od.gnssSticky Bit.gnssSticky_NavRingFull)) := by decide +kernel

/-- States and operands that meet the hypotheses of every clause of SolutionsAndSurveys, and what follows. -/
theorem witness_SolutionsAndSurveys :
    (((outB 1001).dev.antenna 1).outbox = [rec0 1001] ∧ after (.solutionRecordArrival T 1) (outB 1001) (fun d => d.nat Od.solutionsLate == 1 && d.bit Od.gnssSticky Bit.gnssSticky_SolutionLate && (d.flt.queue.map fun r => (r.src, r.detail)) == [(99, 1)] && only (outB 1001).dev d [Od.solutionsLate, Od.gnssSticky] [.gnss, .flt])) ∧
    ((outB 1000).dev.nat (Od.refState 9) ≠ 0 ∧ (outB 1000).dev.fromLog = false ∧ after (.solutionRecordArrival T 1) (outB 1000) (fun d => (d.rr 9).declared == some 9 && (d.rr 9).sigma == 3 && d.nat (Od.refDeclaredSource 9) == 2 && ((d.rr 9).meas.head?.map (·.tick)) == some 625)) ∧
    ((gn.dev.antenna 1).outbox = [] ∧ idles (.solutionRecordArrival T 1) gn) ∧
    (Accepted (gn.reached T) .spi (Od.surveyStart 1) 1 ∧ after (.surveyStart T .spi 1 1) gn (fun d => d.nat (Od.surveyState 1) == 1 && d.nat (Od.positionUnc 1) == 100000 && (d.antenna 1).surveyAt == T && only gn.dev d [Od.surveyState 1, Od.surveyElapsed 1, Od.positionUnc 1] [.gnss])) ∧
    (Accepted (gn.reached T) .spi (Od.antennaPosX 1 + 3) 100 ∧ after (.antennaPositionWrite T .spi 1 3 100) gn (fun d => d.num (Od.antennaPosX 1 + 3) == 100 && d.nat (Od.surveyState 1) == 2)) ∧
    ((pos1.dev.antenna 1).posSince = some (T - ticksPerSec) ∧ pos1.dev.bit Od.surveyPermit 1 = true ∧ pos1.dev.nat Od.resurveyDelay * ticksPerSec ≤ T - (T - ticksPerSec) ∧ after (.resurveyDelayElapsed T 1) pos1 (fun d => d.nat (Od.surveyState 1) == 1 && (d.antenna 1).surveyOp == some (pos1.dev.nat Od.journalNextOpId) && d.bit Od.gnssSticky Bit.gnssSticky_ResurveyStarted && (d.acc.journal.map fun j => (j.kind, j.done)) == [(7, 2)])) ∧
    ((gn.dev.antenna 1).posSince = none ∧ idles (.resurveyDelayElapsed T 1) gn) ∧
    (after (.almanacStore T) gn (fun d => d.gnss.storedAt == some T && only gn.dev d [] [.gnss]) ∧ idles (.almanacStore T) (gn [] fun d => d.modGnss fun g => { g with storedAt := some (T - 3600 * ticksPerSec + 1) })) ∧
    (gnSol.dev.antennaOn 1 = true ∧ (gnSol.dev.gnss.marks.find? fun m => m.number % (1000 / max 1 (gnSol.dev.nat Od.solutionRate)) == 0) = some mk0 ∧ gnSol.dev.nat Od.solutionMinSv ≤ 4 ∧ after (.gnssSolution T 1 (sol 4)) gnSol (fun d => d.nat (Od.solutionStatus 1) == 1 && d.nat (Od.solutionBand 1) == 1 && d.num (Od.solutionOffset 1) == toI64 (to16 90) && ((d.antenna 1).outbox.map fun r => (r.epoch, r.x, r.status, r.band)) == [(1000, 90, 1, 1)])) ∧
    (gnSol.dev.nat Od.solutionMinSv ≠ 0 ∧ after (.gnssSolution T 1 (sol 0)) gnSol (fun d => d.nat (Od.solutionStatus 1) == 0 && only gnSol.dev d [Od.solutionStatus 1, Od.solutionBand 1] [])) ∧
    (gn.dev.antennaOn 0 = false ∧ idles (.gnssSolution T 0 (sol 4)) gn) ∧
    (after (.surveyDone T 1) srvy (fun d => d.nat (Od.surveyState 1) == 2 && d.num (Od.antennaPosX 1) == 5 && d.num (Od.antennaPosY 1) == -5 && d.num (Od.antennaPosZ 1) == 15 && 10 ≤ d.nat (Od.positionUnc 1) && d.bit Od.gnssSticky Bit.gnssSticky_SurveyDone) ∧ idles (.surveyDone T 1) gn) ∧
    (Accepted (gn.reached T) .spi (Od.surveyStart 1) 0 ∧ after (.surveyStart T .spi 1 0) gn (fun d => only gn.dev d logObjects [.pair, .pmc])) ∧
    (after (.solutionRecordArrival T 1) (outW) (fun d => (d.rr 9).declared == some 9 && (d.rr 9).meas == [])) := by decide +kernel

/-- Octets of an entry on TS_0 with Time and Period 0. -/
def ent (action target width param : Nat) : Nat :=
  action * 256 ^ 47 + target * 256 ^ 44 + width * 256 ^ 8 + param
/-- Entry 4095 armed with these octets, pin 31 an output. -/
def armed (v : Nat) (x : SchedE := { state := 1 }) : State :=
  srv 5 [(Od.schedEntry 4095, (v : Int)), (Od.tioFunction 31, 2), (Od.tioState 31, 1)] fun d =>
    { d with tugs := { d.tugs with sched := [(4095, x)] } }
def evE : Nat := ent 3 63 0 77
def puE : Nat := ent 1 31 (65536 * 10) 0
/-- Pin 31 an output at 1 kHz, its generator at the pulse before 15 s. -/
def pin : State := srv 5 [(Od.tioFunction 31, 2), (Od.tioState 31, 1), (Od.tioPeriod 31, 65536 * 1000000), (Od.tioWidth 31, 65536 * 10)] fun d =>
  { d with tugs := { d.tugs with tio := [(31, { (d.tio 31) with pos := 15 * second })] } }
def outTod : State := srv 5 [(Od.todoutEnable 1, 1), (Od.todoutLead 1, 100), (Od.tioFunction 0, 2), (Od.tioPeriod 0, 65536000000000)]
def outPulse : Int := 17 * second
def pinShared : State := { pin with dev := pin.dev.put Od.tioShared (2 ^ 31) }
def puShared : State := { armed puE with dev := (armed puE).dev.put Od.tioShared (2 ^ 31) }
def todShared : State := srv 5 [(Od.todoutEnable 1, 1), (Od.todoutLead 1, 100), (Od.tioFunction 0, 2), (Od.tioPeriod 0, 65536000000000), (Od.todoutShared, 2)]
def evLater : Nat := evE + 20 * 256 ^ 32
/-- The same pin and output in KEEP. -/
def evKeep : State := { armed evE with dev := (armed evE).dev.put Od.powerState 3 }

/-- States and operands that meet the hypotheses of every clause of ScheduleRunsEntries, and what follows. -/
theorem witness_ScheduleRunsEntries :
    (NothingDue (srv 5).dev ∧ after (.scheduleOccurrence T) (srv 5 [(Od.schedEntriesUsed, 3)]) (fun d => d.nat Od.schedEntriesUsed == 0 && only (srv 5).dev d [Od.schedEntriesUsed] [])) ∧
    (NothingDue (armed evE).dev ∧ (armed evE).dev.entries.filter ((armed evE).reached T).entryDueNow = [4095] ∧ entryAction evE = 3 ∧ after (.scheduleOccurrence T) (armed evE) (fun d => (d.tugs.events.map fun r => (r.entry, r.tick, r.occurrence, r.param, r.line, r.flags)) == [(4095, 0, 1, 77, 63, 0)] && (d.sched 4095).next == 1 && (d.sched 4095).runs == 1 && d.nat Od.schedRuns == 1)) ∧
    ((armed puE).dev.entries.filter ((armed puE).reached T).entryDueNow = [4095] ∧ entryAction puE = 1 ∧ entryTarget puE = 31 ∧ after (.scheduleOccurrence T) (armed puE) (fun d => (d.out.map fun m => match m with | .pulse p a b _ => p == 31 && decide (a < b) | _ => false) == [true] && (d.sched 4095).next == 1 && d.nat Od.schedRuns == 1 && only (armed puE).dev d [Od.schedRuns, Od.schedSticky, Od.schedEntriesUsed, Od.tioMerged 31, Od.tioPulses 31] [.tugs]) ∧ (puShared.dev.nat Od.tioShared).testBit 31 = true ∧ puShared.dev.nat Od.pairRole ≠ 1 ∧ after (.scheduleOccurrence T) puShared (fun d => d.out.isEmpty && d.nat Od.schedRuns == 1)) ∧
    (Accepted ((armed evLater).reached T) .spi (Od.schedEntry 4095) 0 ∧ ((armed evLater).reached T).entryDueNow 4095 = false ∧ after (.schedEntryWrite T .spi 4095 0) (armed evLater) (fun d => d.nat (Od.schedEntry 4095) == 0 && d.sched 4095 == {} && only (armed evLater).dev d [Od.schedEntry 4095, Od.schedEntriesUsed] [.tugs])) ∧
    (Accepted ((srv 5).reached T) .spi (Od.schedEntry 4095) (evE + 20 * 256 ^ 32) ∧ after (.schedEntryWrite T .spi 4095 (evE + 20 * 256 ^ 32)) (srv 5) (fun d => d.sched 4095 == { state := 1 } && d.nat Od.schedEntriesUsed == 1)) ∧
    ((evKeep.reached T).nat Od.powerState = 3 ∧ after (.scheduleOccurrence T) evKeep (fun d => d.nat Od.schedEntriesUsed == 1 && only evKeep.dev d [Od.schedEntriesUsed] [])) := by decide +kernel

/-- States and operands that meet the hypotheses of every clause of PulsesAndMessages, and what follows. -/
theorem witness_PulsesAndMessages :
    (pin.dev.running (pin.dev.nat (Od.tioTimeScale 31)) = true ∧ pin.dev.nextPulse 31 ≤ (pin.reached T).tsNow 0 ∧ after (.tioPeriodicPulse T 31) pin (fun d => (d.out.map fun m => match m with | .pulse p a b _ => p == 31 && decide (a < b) | _ => false) == [true] && (d.tio 31).pos == pin.dev.nextPulse 31 && only pin.dev d [Od.tioMerged 31, Od.tioPulses 31, Od.schedSticky] [.tugs]) ∧ (pinShared.dev.nat Od.tioShared).testBit 31 = true ∧ pinShared.dev.nat Od.pairRole ≠ 1 ∧ after (.tioPeriodicPulse T 31) pinShared (fun d => d.out.isEmpty && (d.tio 31).pos == pin.dev.nextPulse 31)) ∧
    ((srv 5).dev.nat (Od.tioFunction 0) ≠ 2 ∧ idles (.tioPeriodicPulse T 0) (srv 5)) ∧
    ((srv 5).dev.on (Od.todoutEnable 0) = false ∧ idles (.todoutMessage T 0) (srv 5)) ∧
    (outTod.dev.on (Od.todoutEnable 1) = true ∧ outTod.dev.secondPulses (outTod.dev.nat (Od.todoutPulsePin 1)) = true ∧ outputsRun outTod.dev.md = true ∧ ((outTod.reached (T + 6 * 10 ^ 8)).tsNow 0 + (outTod.dev.nat (Od.todoutLead 1) * 1000000 : Nat) * 2 ^ 32) / second * second = outPulse ∧ (outTod.reached (T + 6 * 10 ^ 8)).tsNow 0 < outPulse ∧ outTod.dev.tugs.todSent = [] ∧ after (.todoutMessage (T + 6 * 10 ^ 8) 1) outTod (fun d => d.nat (Od.todoutMessages 1) == 1 && d.nat (Od.todoutSeqNo 1) == 1 && d.out.length == 1 && only outTod.dev d [Od.todoutMessages 1, Od.todoutSeqNo 1] [.tugs]) ∧ (todShared.dev.nat Od.todoutShared).testBit 1 = true ∧ after (.todoutMessage (T + 6 * 10 ^ 8) 1) todShared (fun d => d.nat (Od.todoutMessages 1) == 1 && d.out.isEmpty)) ∧
    (Accepted ((srv 5).reached T) .spi (Od.tioFunction 31) 2 ∧ after (.tioFunctionWrite T .spi 31 2) (srv 5) (fun d => d.num (Od.tioFunction 31) == 2 && d.nat (Od.tioState 31) == tioStateIn 5 && only (srv 5).dev d [Od.tioFunction 31, Od.tioState 31] [.tugs])) ∧
    (Accepted ((srv 5).reached T) .spi (Od.osynEnable 3) 1 ∧ after (.osynEnableWrite T .spi 3 1) (srv 5 [(Od.osynAlign 3, 1)]) (fun d => d.nat (Od.osynState 3) == 1 && d.num (Od.osynPhaseError 3) == 0) ∧ after (.osynEnableWrite T .spi 3 0) (srv 5 [(Od.osynEnable 3, 1), (Od.osynState 3, 3)]) (fun d => d.nat (Od.osynState 3) == 0 && d.num (Od.osynEnable 3) == 0)) ∧
    (outTod.dev.on (Od.todoutEnable 1) = true ∧ ¬ (outTod.reached T).tsNow 0 + (outTod.dev.nat (Od.todoutLead 1) * 1000000 : Nat) * 2 ^ 32 ≥ outPulse ∧ idles (.todoutMessage T 1) outTod) ∧
    (Accepted ((srv 5).reached T) .spi (Od.tioFunction 31) 0 ∧ after (.tioFunctionWrite T .spi 31 0) (srv 5 [(Od.tioFunction 31, 2), (Od.tioState 31, 1)]) (fun d => d.num (Od.tioFunction 31) == 0 && d.nat (Od.tioState 31) == 0)) ∧
    (after (.osynEnableWrite T .spi 3 1) (srv 5 [(Od.osynAlign 3, 0)]) (fun d => d.nat (Od.osynState 3) == 3) ∧ after (.osynEnableWrite T .spi 3 0) (srv 5) (fun d => d.num (Od.osynEnable 3) == 0 && only (srv 5).dev d (Od.osynEnable 3 :: logObjects) [.pair, .pmc])) := by decide +kernel

/-- Lane l in a state of Table 10-3. -/
def lnS (l x : Nat) (more : List (Nat × Int) := []) (f : Dev → Dev := id) : State := srv 5 ([(Od.laneState l, (x : Int))] ++ more) f
/-- An entry of rate code 2, its check octets computed. -/
def eqE : Nat := let e := 256 ^ 31 + 2 * 256 ^ 30 + 256 ^ 29 + 40 * 256 ^ 25; e + crc16 (beBytes 30 (e / 65536))

/-- States and operands that meet the hypotheses of every clause of LanesChangeState, and what follows. -/
theorem witness_LanesChangeState :
    (Accepted ((lnS 21 4).reached T) .spi (Od.laneEnable 21) 0 ∧ after (.laneEnableWrite T .spi 21 0) (lnS 21 4 [(Od.laneEnable 21, 1), (Od.laneLinkUp 21, 1)]) (fun d => d.nat (Od.laneState 21) == 0 && d.nat (Od.laneLinkUp 21) == 0 && d.num (Od.laneEnable 21) == 0)) ∧
    (Accepted ((lnS 4 0 [(Od.lanePcs 4, 3)]).reached T) .spi (Od.laneEnable 4) 1 ∧ after (.laneEnableWrite T .spi 4 1) (lnS 4 0 [(Od.lanePcs 4, 3)]) (fun d => (List.range 16).all fun l => d.nat (Od.laneState l) == if l / 4 == 1 then 1 else 0)) ∧
    (Accepted ((lnS 21 6).reached T) .spi (Od.laneRestart 21) 1 ∧ after (.laneRestart T .spi 21 1) (lnS 21 6) (fun d => d.nat (Od.laneState 21) == 1 && d.nat (Od.laneLinkUp 21) == 0)) ∧
    ((lnS 21 1).dev.laneGroup 21 = [21] ∧ eqPresent ((lnS 21 1).dev.lane 21).applied = false ∧ after (.laneCalibrationComplete T 21 [5] []) (lnS 21 1) (fun d => d.nat (Od.laneState 21) == 6 && d.isLive 147 && d.bit (Od.laneSticky 21) Bit.laneSticky_EqMissing)) ∧
    (eqPresent (256 ^ 29) = true ∧ after (.laneCalibrationComplete T 21 [0] []) (lnS 21 1 [(Od.laneDrain 21, 1)] fun d => d.modLane 21 fun r => { r with applied := 256 ^ 29 }) (fun d => d.nat (Od.laneState 21) == 4 && (d.lane 21).checkAt == some T)) ∧
    (after (.laneCalibrationComplete T 21 [10 ^ 9] []) (lnS 21 1 [] fun d => d.modLane 21 fun r => { r with applied := 256 ^ 29 }) (fun d => d.nat (Od.laneState 21) == 6 && d.isLive 147 && d.bit (Od.laneSticky 21) Bit.laneSticky_LoopCheckFail)) ∧
    ((lnS 21 2).dev.nat (Od.laneState 21) ≠ 1 ∧ idles (.laneCalibrationComplete T 21 [0] []) (lnS 21 2)) ∧
    (after (.linkUp T 21 [65] 9) (lnS 21 2 [(Od.lanePcs 21, 3)]) (fun d => d.nat (Od.laneState 21) == 3 && d.nat (Od.laneLinkUp 21) == 1 && d.nat (Od.rxSlip 21) == 65 && d.bit (Od.laneSticky 21) Bit.laneSticky_LinkUp) ∧ after (.linkUp T 21 [] 9) (lnS 21 5) (fun d => d.nat (Od.laneState 21) == 5 && d.nat (Od.laneLinkUp 21) == 1)) ∧
    (after (.linkDown T 21) (lnS 21 3) (fun d => d.nat (Od.laneState 21) == 2 && d.nat (Od.linkDowns 21) == 1 && d.bit (Od.laneSticky 21) Bit.laneSticky_LinkDown && (d.flt.queue.map fun r => (r.src, r.detail)) == [(125, 0)])) ∧
    (after (.linkDown T 21) (lnS 21 4) (fun d => d.nat (Od.laneState 21) == 4 && only (lnS 21 4).dev d [Od.laneLinkUp 21, Od.laneSticky 21] []) ∧ idles (.linkDown T 21) (lnS 21 2) ∧ idles (.linkDown T 0) (lnS 0 6)) ∧
    (Accepted ((lnS 21 3).reached T) .spi (Od.laneDrain 21) 1 ∧ after (.laneDrainWrite T .spi 21 1) (lnS 21 3) (fun d => d.nat (Od.laneState 21) == 4 && d.num (Od.laneDrain 21) == 1) ∧ after (.laneDrainWrite T .spi 0 0) (lnS 0 4) (fun d => d.nat (Od.laneState 0) == 2 && d.num (Od.laneDrain 0) == 0)) ∧
    (Accepted ((lnS 21 4).reached T) .spi (Od.laneLoop 21) 1 ∧ after (.laneLoopWrite T .spi 21 1) (lnS 21 4) (fun d => d.nat (Od.laneState 21) == 5 && d.num (Od.laneLoop 21) == 1) ∧ after (.laneLoopWrite T .spi 21 0) (lnS 21 5 [(Od.laneLoop 21, 1)]) (fun d => d.nat (Od.laneState 21) == 4 && d.nat (Od.laneLoop 21) == 0)) ∧
    (Accepted ((lnS 21 3).reached T) .spi (Od.eqEntry 21 2) eqE ∧ after (.eqEntryWrite T .spi 21 2 eqE) (lnS 21 3) (fun d => d.nat (Od.eqEntry 21 2) == eqE && (d.bit (Od.laneLive 21) 5 == (d.eqStored 21 != ((lnS 21 3).dev.lane 21).applied)))) ∧
    (eqPresent (256 ^ 29) = true ∧ after (.laneCalibrationComplete T 21 [] []) (lnS 21 1 [] fun d => d.modLane 21 fun r => { r with applied := 256 ^ 29, calAt := T - 3 * ticksPerMs + 1 }) (fun d => d.nat (Od.laneState 21) == 1)) ∧
    ((lnS 5 1 [(Od.lanePcs 5, 3)]).dev.laneHead 5 = 4 ∧ after (.laneCalibrationComplete T 5 [] []) (lnS 5 1 [(Od.lanePcs 5, 3)]) (fun d => d.nat (Od.laneState 5) == 1)) ∧
    (after (.laneEnableWrite T .spi 21 1) (lnS 21 0) (fun d => d.nat (Od.laneState 21) == 1 && d.nat (Od.laneState 20) == 0 && d.num (Od.laneEnable 21) == 1) ∧ after (.laneRestart T .spi 21 0) (lnS 21 6) (fun d => d.nat (Od.laneState 21) == 6 && only (lnS 21 6).dev d logObjects [.pair, .pmc])) ∧
    (after (.laneDrainWrite T .spi 21 0) (lnS 21 4 [(Od.laneLinkUp 21, 1)]) (fun d => d.nat (Od.laneState 21) == 3) ∧ after (.laneDrainWrite T .spi 21 1) (lnS 21 6) (fun d => d.nat (Od.laneState 21) == 6 && d.num (Od.laneDrain 21) == 1)) ∧
    (after (.laneLoopWrite T .spi 21 2) (lnS 21 3 [(Od.opMode, Mode.test)]) (fun d => d.nat (Od.laneState 21) == 5) ∧ after (.laneLoopWrite T .spi 21 0) (lnS 21 5 [(Od.opMode, Mode.test), (Od.laneLoop 21, 1)]) (fun d => d.nat (Od.laneState 21) == 2)) := by decide +kernel

/-- States and operands that meet the hypotheses of every clause of LanesSleepAndWake, and what follows. -/
theorem witness_LanesSleepAndWake :
    (after (.rxLpiEntry T 21) (lnS 21 3) (fun d => d.nat (Od.lpiRxState 21) == 1 && (d.lane 21).rxAt == T && d.nat (Od.lpiRxEntries 21) == 1 && only (lnS 21 3).dev d [Od.lpiRxState 21, Od.lpiRxEntries 21, Od.eyeScanState] [.lanes]) ∧ idles (.rxLpiEntry T 21) (lnS 21 2)) ∧
    (after (.rxLpiExit T 21) (lnS 21 3 [(Od.lpiRxState 21, 1)]) (fun d => d.nat (Od.lpiRxState 21) == 0) ∧ after (.rxLpiSignalLoss T 21) (lnS 21 3 [(Od.lpiRxState 21, 1), (Od.lpiEnable 21, 4)]) (fun d => d.nat (Od.lpiRxState 21) == 2) ∧ after (.rxLpiSignalLoss T 21) (lnS 21 3 [(Od.lpiRxState 21, 1)]) (fun d => d.nat (Od.laneState 21) == 2 && d.nat (Od.lpiRxState 21) == 0)) ∧
    (idles (.rxLpiExit T 21) (lnS 21 3) ∧ idles (.rxLpiSignalLoss T 21) (lnS 21 3) ∧ idles (.rxSignalDetected T 21) (lnS 21 3) ∧ idles (.rxWakeLock T 21 5) (lnS 21 3)) ∧
    (after (.rxSignalDetected T 21) (lnS 21 3 [(Od.lpiRxState 21, 2)]) (fun d => d.nat (Od.lpiRxState 21) == 3 && (d.lane 21).rxAt == T) ∧ after (.rxWakeLock T 21 65) (lnS 21 3 [(Od.lpiRxState 21, 3), (Od.lanePcs 21, 0)] fun d => d.modLane 21 fun r => { r with rxAt := T - ticksPerMs }) (fun d => d.nat (Od.lpiRxState 21) == 0 && d.nat (Od.rxSlip 21) == 19)) ∧
    (idles (.rxWakeLock T 21 65) (lnS 21 3 [(Od.lpiRxState 21, 3)] fun d => d.modLane 21 fun r => { r with rxAt := T - ticksPerMs - 1 })) ∧
    ((lnS 21 3).dev.nat Od.rxQuietMax * ticksPerMs ≤ T ∧ after (.rxQuietTimeout T 21) (lnS 21 3 [(Od.lpiRxState 21, 2)]) (fun d => d.nat (Od.laneState 21) == 2 && d.nat (Od.lpiRxState 21) == 0 && d.bit (Od.laneSticky 21) Bit.laneSticky_RxQuietTimeout && d.nat (Od.linkDowns 21) == 1)) ∧
    (((lnS 21 3).reached T).frameSendSoon 21 = false ∧ after (.txLpiIdle T 21) (lnS 21 3 [(Od.lpiEnable 21, 3)]) (fun d => d.nat (Od.lpiTxState 21) == 2 && d.nat (Od.lpiTxEntries 21) == 1 && only (lnS 21 3).dev d [Od.lpiTxState 21, Od.lpiTxEntries 21, Od.lpiEnable 21] [.lanes])) ∧
    (after (.txLpiWakeTrigger T 21) (lnS 21 3 [(Od.lpiTxState 21, 1)]) (fun d => d.nat (Od.lpiTxState 21) == 3 && (d.lane 21).txAt == T) ∧ idles (.txLpiWakeTrigger T 21) (lnS 21 3 [(Od.lpiTxState 21, 2), (Od.powerState, 2)]) ∧ idles (.txLpiWakeTrigger T 0) (lnS 0 3)) ∧
    (after (.txWakeComplete T 21) (lnS 21 3 [(Od.lpiTxState 21, 3)]) (fun d => d.nat (Od.lpiTxState 21) == 0) ∧ idles (.txWakeComplete T 21) (lnS 21 3)) ∧
    (after (.lpiRefresh T 21) (lnS 21 3 [(Od.lpiTxState 21, 2)]) (fun d => (d.lane 21).refreshAt == T && only (lnS 21 3).dev d [Od.lpiTxState 21] [.lanes]) ∧ idles (.lpiRefresh T 21) (lnS 21 3)) ∧
    (wakeDetector 20 = some 0 ∧ wakeDetector 21 = none ∧ after (.wakePatternDetected T 20 (wakeEdges ((st []).dev.nat Od.wakeCode))) (lnS 20 3 [(Od.powerState, 2), (Od.wakeDetectEnable, 1), (Od.wakeSources, 0)]) (fun d => d.nat Od.wakesDetected == 1 && d.bit (Od.laneSticky 20) Bit.laneSticky_WakeDetected) ∧ idles (.wakePatternDetected T 21 (wakeEdges ((st []).dev.nat Od.wakeCode))) (lnS 21 3)) ∧
    (Accepted ((lnS 20 2).reached T) .spi Od.wakeSend 20 ∧ after (.wakeSend T .spi 20) (lnS 20 2) (fun d => (d.lane 20).waking == some (T + 4096 * ticksPerUs) && only (lnS 20 2).dev d [] [.lanes])) ∧
    (after (.wakeSendDone T 21) (lnS 21 3 [] fun d => d.modLane 21 fun r => { r with waking := some T }) (fun d => (d.lane 21).waking == none) ∧ idles (.wakeSendDone T 21) (lnS 21 3 [] fun d => d.modLane 21 fun r => { r with waking := some (T + 1) })) ∧
    ((lnS 21 3).dev.wakeMatches (wakeEdges ((st []).dev.nat Od.wakeCode)) = true ∧ after (.wakePatternDetected T 20 ((wakeEdges ((st []).dev.nat Od.wakeCode)).map (· + 8 * ticksPerUs))) (lnS 20 3 [(Od.powerState, 3), (Od.wakeDetectEnable, 1), (Od.wakeSources, 1)]) (fun d => d.nat Od.lastWakeCause == 2 && (match d.power.change with | .waking _ k => k == T | _ => false))) ∧
    (idles (.wakePatternDetected T 20 ((wakeEdges ((st []).dev.nat Od.wakeCode)).map (· + (8 * ticksPerUs + 1)))) (lnS 20 3 [(Od.powerState, 2), (Od.wakeDetectEnable, 1), (Od.wakeSources, 0)])) ∧
    (after (.rxQuietTimeout T 21) (lnS 21 3 [(Od.lpiRxState 21, 3)] fun d => d.modLane 21 fun r => { r with rxAt := T - ticksPerMs }) (fun d => d.nat (Od.laneState 21) == 2 && d.bit (Od.laneSticky 21) Bit.laneSticky_RxQuietTimeout) ∧ after (.rxQuietTimeout T 21) (lnS 21 3) (fun d => only (lnS 21 3).dev d [] [])) ∧
    (((lnS 21 3).reached T).lpiWake 21 ≤ T ∧ after (.txLpiIdle T 21) (lnS 21 3 [(Od.lpiEnable 21, 1)]) (fun d => d.nat (Od.lpiTxState 21) == 1) ∧ idles (.txLpiIdle T 21) (lnS 21 3 [(Od.lpiEnable 21, 1)] fun d => d.modLane 21 fun r => { r with sentAt := T })) ∧
    (idles (.txWakeComplete T 21) (lnS 21 3 [(Od.lpiTxState 21, 3)] fun d => d.modLane 21 fun r => { r with txAt := T })) := by decide +kernel

/-- States and operands that meet the hypotheses of every clause of PatternsAndEyeScan, and what follows. -/
theorem witness_PatternsAndEyeScan :
    (Accepted ((lnS 21 4).reached T) .spi (Od.patTxMode 5) 1 ∧ after (.patModeWrite T .spi 5 true 1) (lnS 21 4) (fun d => d.num (Od.patTxMode 5) == 1 && only (lnS 21 4).dev d [Od.patTxMode 5] [])) ∧
    (Accepted ((lnS 21 5 [(Od.opMode, Mode.test), (Od.laneLoop 21, 1), (Od.patTxMode 5, 1)]).reached T) .spi (Od.patRxMode 5) 1 ∧ after (.patModeWrite T .spi 5 false 1) (lnS 21 5 [(Od.opMode, Mode.test), (Od.laneLoop 21, 1), (Od.patTxMode 5, 1)]) (fun d => d.num (Od.patRxMode 5) == 1 && d.nat (Od.patLocked 5) == 1) ∧ after (.patModeWrite T .spi 5 false 0) (lnS 21 4 [(Od.patLocked 5, 1)]) (fun d => d.nat (Od.patLocked 5) == 0)) ∧
    (Accepted ((lnS 21 5 [(Od.laneLoop 21, 1), (Od.patTxMode 5, 1), (Od.patLocked 5, 1)]).reached T) .spi (Od.patInjectOne 5) 1 ∧ after (.patInjectOne T .spi 5 1) (lnS 21 5 [(Od.laneLoop 21, 1), (Od.patTxMode 5, 1), (Od.patLocked 5, 1)]) (fun d => d.nat (Od.patInjected 5) == 1 && d.nat (Od.patErrors 5) == 1)) ∧
    (Accepted ((srv 5).reached T) .spi (Od.patClear 5) 1 ∧ after (.patClear T .spi 5 1) (srv 5 [(Od.patBits 5, 8), (Od.patErrors 5, 7), (Od.patInjected 5, 6), (Od.patLockLosses 5, 5)]) (fun d => d.nat (Od.patBits 5) == 0 && d.nat (Od.patErrors 5) == 0 && d.nat (Od.patInjected 5) == 0 && d.nat (Od.patLockLosses 5) == 0)) ∧
    (after (.patLockLoss T 5 103) (srv 5 [(Od.patRxMode 5, 1), (Od.patLocked 5, 1)]) (fun d => d.nat (Od.patErrors 5) == 103 && d.nat (Od.patLockLosses 5) == 1 && d.nat (Od.patLocked 5) == 1) ∧ idles (.patLockLoss T 5 102) (srv 5 [(Od.patRxMode 5, 1), (Od.patLocked 5, 1)])) ∧
    (Accepted ((lnS 0 3).reached T) .spi Od.eyeScanStart 1 ∧ after (.eyeScanStart T .spi 1) (lnS 0 3) (fun d => d.nat Od.eyeScanState == 1) ∧ after (.eyeScanStart T .spi 1) (lnS 0 2) (fun d => d.nat Od.eyeScanState == 3)) ∧
    (after (.eyeScanDone T (List.replicate 1024 0)) (lnS 0 3 [(Od.eyeScanState, 1)] fun d => d.modLane 0 fun r => { r with eyeAt := some 0 }) (fun d => d.nat Od.eyeScanState == 2 && d.nat Od.eyeWidth == 1000 && d.nat Od.eyeMap == 0) ∧ idles (.eyeScanDone T []) (srv 5)) ∧
    (after (.patInjectOne T .spi 5 1) (lnS 21 5 [(Od.patLocked 5, 1)]) (fun d => d.nat (Od.patInjected 5) == 0 && d.nat (Od.patErrors 5) == 0) ∧ after (.patInjectOne T .spi 5 1) (lnS 21 4 [(Od.patTxMode 5, 1)]) (fun d => d.nat (Od.patInjected 5) == 1 && d.nat (Od.patErrors 5) == 0)) ∧
    (after (.patClear T .spi 5 0) (srv 5 [(Od.patErrors 5, 7)]) (fun d => d.nat (Od.patErrors 5) == 7) ∧ after (.eyeScanStart T .spi 0) (lnS 0 3) (fun d => d.nat Od.eyeScanState == 0 && only (lnS 0 3).dev d logObjects [.pair, .pmc])) ∧
    (after (.eyeScanStart T .spi 1) (lnS 0 5) (fun d => d.nat Od.eyeScanState == 1 && (d.lane 0).eyeAt == some T) ∧ after (.eyeScanStart T .spi 1) (lnS 0 6) (fun d => d.nat Od.eyeScanState == 3 && (d.lane 0).eyeAt == none)) := by decide +kernel

/-- Port p up on its lane. -/
def pt (p : Nat) (l : List (Nat × Int) := []) (f : Dev → Dev := id) : State :=
  srv 5 ([(Od.portEnable p, 1), (Od.laneState (laneOfPort p), 3)] ++ l) f
def rxG (len : Nat) : RxF :=
  { len, fcsOk := true, assembled := true, dst := 0x011B19000000, etype := 0x88F7, subtype := 0, udp := none, asks := none, tag := none,
    stamp := some ⟨0, 0, 0, 0⟩, taken := [] }
def txG : TxF :=
  { cls := 7, len := 64, core := true, request := none, tick := T + 3 * ticksPerUs, fine := 0, fragments := 0, lastFrag := 0, ready := 5, ordinal := 6 }
def tsqA : TsqE := .stamp 5 1 2 3
def pz (c : Nat) (x : PauseReg) : State := pt 15 [] fun d => d.modPort 15 fun r => { r with pause := [(c, x)] }
def gcfg : GateCfg := { base := 0, cycle := 1000000, list := [], states := 255 }
def msgA (launch : Option Nat) : Queued := { pipe := 0, port := 15, kind := 6, body := .fixed [42], launch, ready := 5, ordinal := 6 }
/-- Port 15 with a message waiting. -/
def qd (launch : Option Nat) : State := pt 15 [] fun d => d.modSvc fun v => { v with queue := [msgA launch] }
def lq (at' : Nat) : State := qd (some at')
/-- Port 15 with no room for class 0: its reserve and the pool are full. -/
def rxFull : State := pt 15 [] fun d => d.modPort 15 fun r => { r with rx := [⟨d.rxClass 15 (rxG 64), 16384, false⟩, ⟨0, 65536, true⟩] }
/-- Port 15 on a drained lane. -/
def dr : State := pt 15 [(Od.laneState 15, 4)]

/-- States and operands that meet the hypotheses of every clause of FramesReceivedAndSent, and what follows. -/
theorem witness_FramesReceivedAndSent :
    ((srv 5).dev.portUp 17 = false ∧ (srv 5).dev.nat (Od.laneState (laneOfPort 17)) ≠ 4 ∧ idles (.rxFrame T 17 (rxG 64)) (srv 5)) ∧
    ((pt 17).dev.portUp 17 = true ∧ (pt 17).dev.rxAccepted 17 (rxG 64) = true ∧ (pt 17).dev.vlanOk 17 (rxG 64) = true ∧ (pt 17).dev.rxPlace 17 0 64 = some true ∧ after (.rxFrame T 17 (rxG 64)) (pt 17) (fun d => d.nat (Od.rxFrames 17) == 1 && d.nat (Od.rxOctets 17) == 64 && (match d.out with | [.frame 17 3 [c, 64, 1, _, _]] => c == (pt 17).dev.rxClass 17 (rxG 64) | _ => false) && (d.port 17).rx.length == 1 && only (pt 17).dev d [Od.rxFrames 17, Od.rxOctets 17, Od.pauseTxFrames 17, Od.portLive 17] [.ports])) ∧
    (after (.rxFrame T 17 (rxG 63)) (pt 17) (fun d => d.nat (Od.rxLengthErrors 17) == 1 && only (pt 17).dev d [Od.rxLengthErrors 17] [])) ∧
    (after (.rxFrame T 17 { rxG 64 with fcsOk := false }) (pt 17) (fun d => d.nat (Od.rxFcsErrors 17) == 1 && only (pt 17).dev d [Od.rxFcsErrors 17, Od.portSticky 17] []) ∧ after (.rxFrame T 0 { rxG 64 with assembled := false }) (pt 0) (fun d => d.nat (Od.rxAssemblyErrors 0) == 1 && only (pt 0).dev d [Od.rxAssemblyErrors 0, Od.portSticky 0] []) ∧ after (.rxFrame T 0 { rxG 64 with dst := 1 }) (pt 0) (fun d => d.nat (Od.rxFiltered 0) == 1 && only (pt 0).dev d [Od.rxFiltered 0] [])) ∧
    ((pt 15 [(Od.pauseMode 15, 2)]).dev.bit (Od.pauseIgnoreMask 15) 7 = false ∧ after (.pauseFrameReceived T 15 128 [0, 0, 0, 0, 0, 0, 0, 65535]) (pt 15 [(Od.pauseMode 15, 2)]) (fun d => d.nat (Od.pauseRxFrames 15) == 1 && (d.pauseReg 15 7).ends == T + (pt 15).dev.quanta 15 65535 && (d.pauseReg 15 7).from' == some T && d.pauseReg 15 0 == {})) ∧
    (((pt 17).reached T).mayStart 17 txG = true ∧ after (.txFrameCommit T 17 txG) (pt 17) (fun d => d.nat (Od.txFrames 17) == 1 && d.nat (Od.txOctets 17) == 64 && (d.port 17).commit == (5, 6) && d.out == [.frame 17 4 [7, 0, 64, T + 3 * ticksPerUs, 0]] && only (pt 17).dev d [Od.txFrames 17, Od.txOctets 17, Od.txFragments 17] [.ports, .lanes]) ∧ idles (.txFrameCommit T 17 txG) (srv 5)) ∧
    (((lq T).reached T).nextLaunch 15 = (some (msgA (some T)), []) ∧ after (.launchTimeFrame T 15 3 txG) (lq T) (fun d => d.nat (Od.txFrames 15) == 1 && d.nat (Od.txOctets 15) == 64 && d.out == [.frame 15 6 [7, 0, 64, T, 0, 42, T]] && d.svc.queue == [])) ∧
    (after (.launchTimeFrame T 15 (T - 2 * ticksPerUs + 1) txG) (lq T) (fun d => d.nat (Od.launchMissed 15) == 1 && d.bit (Od.portSticky 15) Bit.portSticky_LaunchMissed && d.nat (Od.txFrames 15) == 0 && (d.svc.queue.map fun m => (m.again, m.body)) == [(true, .fixed [42])]) ∧ idles (.launchTimeFrame T 15 3 txG) (lq (T + 1)) ∧ idles (.launchTimeFrame T 15 3 txG) (pt 15)) ∧
    ((pt 15).dev.nextQueued 15 = (none, []) ∧ ((qd none).reached T).nextQueued 15 = (some (msgA none), []) ∧ after (.txFrameCommit T 15 { txG with core := false }) (qd none) (fun d => d.nat (Od.txFrames 15) == 1 && d.out == [.frame 15 6 [7, 0, 64, T + 3 * ticksPerUs, 0, 42]] && d.svc.queue == []) ∧ idles (.txFrameCommit T 15 { txG with core := false }) { qd none with dev := (qd none).dev.put (Od.laneState 15) 2 }) ∧
    (((qd none).reached T).nextQueued 15 = (some (msgA none), []) ∧ after (.txFrameCommit T 15 { txG with core := false }) { qd none with dev := (qd none).dev.put Od.opMode Mode.follower } (fun d => d.nat (Od.txWithheld 15) == 1 && d.out == [])) ∧
    (after (.txFrameCommit T 17 { txG with request := some (8, 9) }) (pt 17) (fun d => (d.port 17).tsq == [.stamp (d.cntOf (T + 3 * ticksPerUs)) 0 8 9] && d.nat (Od.tsqStored 17) == 1)) ∧
    (after (.tsqRead T 17) (srv 5) (fun d => d.out == [.spi (leBytes 15 0 ++ leBytes 1 128 ++ leBytes 16 0)] && only (srv 5).dev d [] []) ∧ after (.tsqRead T 17) (pt 17 [] fun d => d.modPort 17 fun r => { r with tsq := [tsqA] }) (fun d => d.out == [.spi (tsqA.bytes 17)] && (d.port 17).tsq == [] && d.nat (Od.tsqDepth 17) == 0)) ∧
    (idles (.txSlotWrite T 15 63 7 none (List.replicate 9 0)) (pt 15 [(Od.maxFrame 15, 8)]) ∧ after (.txSlotWrite T 15 63 7 (some ⟨1, 0, 0⟩) [1, 2]) (pt 15) (fun d => d.slotFrame 15 63 (T + 2 * ticksPerUs) == { cls := 7, insert := some ⟨1, 0, 0⟩, frame := [1, 2] } && d.slotFrame 15 63 (T + 2 * ticksPerUs - 1) == {} && d.bit (Od.slotsLoaded 15) 63)) ∧
    (after (.rxFrame T 17 { rxG 64 with stamp := none }) (pt 17) (fun d => d.nat (Od.rxStampInvalid 17) == 1 && d.bit (Od.portSticky 17) Bit.portSticky_StampInvalid && d.out == [.frame 17 3 [(pt 17).dev.rxClass 17 (rxG 64), 64, 0]])) ∧
    ((rxFull.reached T).rxPlace 15 (rxFull.dev.rxClass 15 (rxG 64)) 64 = none ∧ after (.rxFrame T 15 (rxG 64)) rxFull (fun d => d.bit (Od.portSticky 15) Bit.portSticky_RxOverflow && d.nat (Od.rxDropClass 15 (rxFull.dev.rxClass 15 (rxG 64))) == 1 && (d.flt.queue.map fun r => (r.src, r.detail)) == [(179, rxFull.dev.rxClass 15 (rxG 64))]) ∧ after (.rxFrame T 15 { rxG 64 with taken := [0] }) rxFull (fun d => d.nat (Od.rxFrames 15) == 1)) ∧
    ((dr.reached T).portUp 15 = false ∧ after (.rxFrame T 15 (rxG 64)) dr (fun d => d.nat (Od.rxFrames 15) == 1 && d.nat (Od.rxOctets 15) == 64 && only dr.dev d [Od.rxFrames 15, Od.rxOctets 15] [])) := by decide +kernel

/-- States and operands that meet the hypotheses of every clause of PreemptionGatesAndPause, and what follows. -/
theorem witness_PreemptionGatesAndPause :
    (Accepted ((pt 15).reached T) .spi (Od.preemptEnable 15) 1 ∧ after (.preemptEnableWrite T .spi 15 1) (pt 15 [(Od.preemptVerify 15, 1)]) (fun d => d.num (Od.preemptEnable 15) == 1 && d.nat (Od.preemptState 15) == 1)) ∧
    (after (.preemptVerify T 15 true) (pt 15 [(Od.preemptState 15, 1)]) (fun d => d.nat (Od.preemptState 15) == 2) ∧ after (.preemptVerify T 15 false) (pt 15 [(Od.preemptState 15, 1)] fun d => d.modPort 15 fun r => { r with tries := 2, tryAt := T - 10 * ticksPerMs }) (fun d => d.nat (Od.preemptState 15) == 3 && (d.port 15).tries == 3 && d.bit (Od.portSticky 15) Bit.portSticky_PreemptVerifyFailed)) ∧
    (idles (.preemptVerify T 15 true) (pt 15 [(Od.preemptState 15, 1)] fun d => d.modPort 15 fun r => { r with tries := 2, tryAt := T - 10 * ticksPerMs + 1 })) ∧
    (after (.gateEntry T 15) (pt 15) (fun d => d.nat (Od.gateStatesNow 15) == ((pt 15).reached T).gatesNow 15 && only (pt 15).dev d [Od.gateStatesNow 15] [])) ∧
    (Accepted ((pt 15 [(Od.adminCycleTime 15, 1000000), (Od.adminListLength 15, 1)]).reached T) .spi (Od.configChange 15) 1 ∧ after (.configChange T .spi 15 1) (pt 15 [(Od.adminCycleTime 15, 1000000), (Od.adminListLength 15, 1)]) (fun d => d.nat (Od.configPending 15) == 1 && (d.port 15).next.isSome && (d.port 15).oper == none)) ∧
    (after (.gateConfigChangeTime T 15) (pt 15 [] fun d => d.modPort 15 fun r => { r with next := some gcfg }) (fun d => (d.port 15).oper == some gcfg && (d.port 15).next == none && d.nat (Od.configPending 15) == 0 && d.nat (Od.operCycleTime 15) == 1000000) ∧ idles (.gateConfigChangeTime T 15) (pt 15 [(Od.configChangeTime 15, tsNum (17 * second))] fun d => d.modPort 15 fun r => { r with next := some gcfg })) ∧
    (after (.pauseTimerExpiry T 15 7) (pz 7 { from' := some 5, ends := T }) (fun d => (d.pauseReg 15 7).from' == none) ∧ idles (.pauseTimerExpiry T 15 7) (pz 7 { from' := some 5, ends := T + 1 })) ∧
    ((pt 15).dev.nat (Od.pauseLimit 15) * ticksPerMs ≤ T - 5 ∧ after (.pauseWatchdogBreak T 15 7) (pz 7 { from' := some 5, ends := T + 1 }) (fun d => (d.pauseReg 15 7).from' == none && (d.pauseReg 15 7).ignore == T + (pt 15).dev.nat (Od.pauseBreakTime 15) * ticksPerMs && d.nat (Od.pauseBreaks 15) == 1 && (d.flt.queue.map fun r => (r.src, r.detail)) == [(163, 0)]) ∧ idles (.pauseWatchdogBreak T 15 7) (pt 15)) ∧
    (after (.pauseBreakWindowEnd T 15 7) (pz 7 { ignore := T + 1 }) (fun d => d.bit (Od.portLive 15) 3) ∧ after (.pauseBreakWindowEnd T 15 7) (pz 7 { ignore := T }) (fun d => !d.bit (Od.portLive 15) 3)) ∧
    ((pt 15).dev.nat (Od.pauseXon 15) ≠ 0 ∧ after (.xoffRepeat T 15 7 [0]) (pz 7 { xoff := some 5 }) (fun d => d.out == [.frame 15 0x8808 [7, 0]] && (d.pauseReg 15 7).xoff == none && d.nat (Od.pauseTxFrames 15) == 1)) ∧
    ((pt 15).dev.quanta 15 0xFFFF / 2 ≤ T ∧ after (.xoffRepeat T 15 7 []) (pz 7 { xoff := some 5 }) (fun d => d.out == [.frame 15 0x8808 [7, 0xFFFF]] && (d.pauseReg 15 7).xoff == some 5 && (d.pauseReg 15 7).sentAt == T)) ∧
    (after (.ownPauseBreak T 15 7) (pz 7 { xoff := some 5 }) (fun d => d.out == [.frame 15 0x8808 [7, 0]] && (d.pauseReg 15 7).xoff == none && d.nat (Od.ownPauseBreaks 15) == 1 && (d.flt.queue.map fun r => (r.src, r.detail)) == [(163, 1)]) ∧ idles (.xoffRepeat T 15 7 []) (pt 15) ∧ idles (.ownPauseBreak T 15 7) (pt 15)) := by decide +kernel

/-- Instance 31 on port 15, enabled and serving. -/
def sv (l : List (Nat × Int) := []) (f : Dev → Dev := id) : State :=
  pt 15 ([(Od.serviceState, 1), (Od.instEnable 31, 1), (Od.instPort 31, 15), (Od.instDomain 31, 24)] ++ l) f
def fr : SvcF :=
  { port := 15, addr := 1, v6 := false, srcPort := 319, bucket := 255, ok := true, indexOk := true, tick := T, fine := 0 }
def noA : AuthF := { count := 0, last := false, spp := 0, keyId := 0, icvOk := false }
def pq (u : Bool) (seq : Nat := 65535) : PtpF :=
  { domain := 24, transport := (sv).dev.nat (Od.instTransport 31), seq, unicast := u, auth := noA }
def cl (kind mask : Nat) : Client :=
  { kind, port := 15, inst := (if kind = 1 then 31 else 0), addr := 1, srcPort := 319, tokens := 1000000, last := 16000, aux := 1000000, aux2 := 16000, admitTime := 1, mask }
/-- A client's record 7 in table and cache. -/
def withC (c : Client) (d : Dev) : Dev :=
  d.modSvc fun v => { v with clients := [(7, some c)], cache := [(7, [7])], tokens := none }
def trk (l : List (Nat × Int) := []) (f : Dev → Dev := id) : State :=
  pt 15 ([(Od.refEnable 13, 1), (Od.refState 13, 1), (Od.ptpPort 13, 15)] ++ l) f
def mf : TrkF := { port := 15, domain := (pt 15).dev.nat (Od.ptpDomain 13), transport := (pt 15).dev.nat (Od.trkTransport 3), addr := 1, ident := 99, ok := true, auth := noA, tick := T, fine := 0 }
def ann : AnnF :=
  { priority1 := 128, cls := 6, accuracy := 0x20, variance := 0, priority2 := 128, gm := 99, steps := 0, traceable := true, leap61 := false, leap59 := false, utcOffset := 0, utcValid := false, tlv := none }
def nq (len : Nat := 48) : NtpF := { version := 4, mode := 3, len, mac := false, poll := 0, txTime := 12 }
def nx (opens : Bool) : NtsF := { fieldsOk := true, keyId := ((sv).reached T).cookiePeriod, opens, authOk := true, placeholders := 7 }
def ntp (l : List (Nat × Int) := []) (f : Dev → Dev := id) : State :=
  sv ([(Od.ntpEnable, 1), (Od.ntpPorts, 32768), (Od.ntsEnable, 1), (Od.ntsKeEnable, 1)] ++ l) f
def master (d : Dev) : Dev :=
  d.setSlot (d.nat Od.cookieMasterSlot) { typ := 3, usage := 4 }
/-- What waits in the queue of messages: pipeline, port, kind, body, whether for a launch time. -/
def queued (d : Dev) : List (Nat × Nat × Nat × Body × Bool) := d.svc.queue.map fun m => (m.pipe, m.port, m.kind, m.body, m.launch.isSome)
/-- The tracker with its master. -/
def trkM (l : List (Nat × Int) := []) (f : Dev → Dev := id) : State := trk l fun d => f (d.modTrk 3 fun x => { x with master := some 99 })
/-- A client with a live grant of Delay_Resp. -/
def clG : Client := { cl 1 4 with expiry := [0, 0, 900] }
/-- An instance's queue empty but for one message of a pipeline. -/
def waitsIn (i : Nat) : State := srv 5 [(Od.pipeState 3, 1)] fun d => d.modSvc fun v => { v with queue := [{ pipe := i, port := 15, kind := 0x20, body := .fixed [] }] }

/-- States and operands that meet the hypotheses of every clause of PipelinesAndInstances, and what follows. -/
theorem witness_PipelinesAndInstances :
    (Accepted ((srv 5).reached T) .spi (Od.pipeDrain 3) 1 ∧ (srv 5).dev.nat (Od.pipeState 3) = 0 ∧ (srv 5).dev.activeBut 3 ≠ [] ∧ after (.pipeDrainWrite T .spi 3 1) (srv 5) (fun d => d.nat (Od.pipeState 3) == 1 && (List.range 256).all fun b => if b % 4 = 3 then d.pipeOf b != 3 else d.pipeOf b == b % 4)) ∧
    (after (.pipeDrained T 3) (srv 5 [(Od.pipeState 3, 1)]) (fun d => d.nat (Od.pipeState 3) == 2) ∧ idles (.pipeDrained T 3) (srv 5) ∧ after (.pipelineReturnedActive T 3) (srv 5 [(Od.pipeState 3, 2)]) (fun d => d.nat (Od.pipeState 3) == 0 && (List.range 256).all fun b => b % 4 != 3 || d.pipeOf b == 3)) ∧
    ((sv).dev.serves = true ∧ (sv).dev.nat (Od.authMode 31) = 0 ∧ (sv [(Od.instMulticast 31, 1)]).dev.on (Od.instMulticast 31) = true ∧ slotDue ((sv).dev.instReg 31).sync (((sv).reached T).intervalOn 0 0) = true) ∧
    ((sv [(Od.instProfile 31, 5)]).dev.peerDelay 31 = true ∧ after (.pdelayReqSend T 31) (sv [(Od.instProfile 31, 5)]) (fun d => queued d == [(3, 15, 0x22, .pdelayReq 31 0, false)] && (d.instReg 31).seqPdelay == 1)) ∧
    ((srv 5).dev.on (Od.instEnable 31) = false ∧ idles (.ptpMulticastSync T 31) (srv 5) ∧ idles (.ptpMulticastAnnounce T 31) (srv 5) ∧ idles (.pdelayReqSend T 31) (srv 5)) ∧
    (((sv [] (withC { cl 1 1 with expiry := [900, 0, 0] })).dev.client 7).isSome = true ∧ ((sv).reached T).grantOver { cl 1 1 with expiry := [900, 0, 0] } 0 = false ∧ phaseOf 7 0 ≤ ((sv).reached T).tsNow 0) ∧
    ((sv).dev.client 4194303 = none ∧ idles (.unicastGrantTransmission T 4194303 2) sv ∧ idles (.grantExpiry T 4194303 2) sv) ∧
    (after (.foreignAnnounce T 15 24) sv (fun d => d.bit Od.serviceSticky Bit.serviceSticky_ForeignAnnounce && only (sv).dev d [Od.serviceSticky] [])) ∧
    (((sv).reached T).grantOver (cl 1 4) 2 = true ∧ after (.grantExpiry T 7 2) (sv [] (withC (cl 1 4))) (fun d => ((d.client 7).map (·.mask)) == some 0)) ∧
    (Accepted ((srv 5).reached T) .spi (Od.instEnable 31) 1 ∧ after (.instEnableWrite T .spi 31 1) (srv 5) (fun d => d.num (Od.instEnable 31) == 1 && d.instReg 31 == {}) ∧ after (.instEnableWrite T .spi 31 0) (sv [] (withC (cl 1 4))) (fun d => ((d.client 7).map (·.mask)) == some 0)) ∧
    (idles (.pipeDrained T 3) (waitsIn 3) ∧ after (.pipeDrained T 3) (waitsIn 2) (fun d => d.nat (Od.pipeState 3) == 2)) ∧
    (after (.ptpMulticastSync T 31) (sv [(Od.instMulticast 31, 1)]) (fun d => queued d == [(3, 15, 0x20, (if (sv).dev.on (Od.instTwoStep 31) then .syncTwo 31 0 0 else .sync 31 0 0), false)] && (d.instReg 31).seqSync == 1) ∧ after (.ptpMulticastAnnounce T 31) (sv [(Od.instMulticast 31, 1)]) (fun d => queued d == [(3, 15, 0x2B, .announce 31 0 0, false)] && (d.instReg 31).seqAnn == 1)) ∧
    (after (.unicastGrantTransmission T 7 0) (sv [] (withC { cl 1 1 with expiry := [900, 0, 0] })) (fun d => queued d == [(3, 15, 0x2B, .announce 31 8 0, false)] && ((d.client 7).map (·.seqAnnounce)) == some 1)) ∧
    (after (.pipeDrainWrite T .spi 3 0) (srv 5 [(Od.pipeState 3, 1)]) (fun d => d.nat (Od.pipeState 3) == 0 && d.num (Od.pipeDrain 3) == 0) ∧ idles (.foreignAnnounce T 15 25) sv) := by decide +kernel

/-- States and operands that meet the hypotheses of every clause of RequestsToInstances, and what follows. -/
theorem witness_RequestsToInstances :
    ((srv 5).dev.portUp 15 = false ∧ idles (.delayReq T fr (pq true)) (srv 5) ∧ idles (.pdelayReq T fr (pq true)) (srv 5) ∧ idles (.pdelayResp T fr (pq true) 1) (srv 5) ∧ idles (.requestUnicastTransmission T fr (pq true) []) (srv 5) ∧ idles (.cancelUnicastTransmission T fr (pq true) 1) (srv 5)) ∧
    ((pt 15).dev.serves = false ∧ after (.delayReq T fr (pq true)) (pt 15) (fun d => d.nat Od.serviceOffDrops == 1 && only (pt 15).dev d [Od.serviceOffDrops] [])) ∧
    (ServiceTakes (sv [(Od.instMulticast 31, 1)]).dev fr ∧ ForInstance (sv [(Od.instMulticast 31, 1)]).dev fr (pq false) 31 false ∧ 0 < (sv).dev.nat (Od.instMcDelayRespMax 31) ∧ after (.delayReq T fr (pq false)) (sv [(Od.instMulticast 31, 1)]) (fun d => queued d == [(3, 15, 0x29, .fixed ([31, 0, 65535] ++ ptpStamp ((sv).dev.rxTime 0 fr)), false)] && (d.instReg 31).answers == 1)) ∧
    (ForInstance (sv [] (withC (cl 1 4))).dev fr (pq true) 31 false ∧ RecordAtHand (sv [] (withC clG)).dev 1 31 fr 7 clG ∧ (sv).dev.granted clG 2 = true ∧ after (.delayReq T fr (pq true)) (sv [] (withC clG)) (fun d => queued d == [(3, 15, 0x29, .fixed ([31, 8, 65535] ++ ptpStamp ((sv).dev.rxTime 0 fr)), false)] && ((d.client 7).map (·.last)) == some (msOf ((sv).dev.rxTime 0 fr)))) ∧
    (ForInstance (sv [(Od.instProfile 31, 5)]).dev fr (pq true) 31 true ∧ after (.pdelayReq T fr (pq true)) (sv [(Od.instProfile 31, 5)]) (fun d => queued d == [(3, 15, 0x23, (if (sv).dev.on (Od.instTwoStep 31) then .pdelayRespTwo 31 65535 T 0 else .pdelayResp 31 65535 T 0), false)])) ∧
    (after (.pdelayResp T fr (pq true 65535) 9) (sv [(Od.instProfile 31, 5)] fun d => d.modInst 31 fun r => { r with pdelayAt := some (5, 0) }) (fun d => d.num (Od.instLinkDelay 31) == toI64 (rdiv ((sv).dev.rxTime 0 fr - ((sv).dev.convert 0 5 0).1 - 9) 131072) && d.out == [])) ∧
    ((sv [(Od.instUnicast 31, 1)] (withC (cl 1 0))).dev.grantable 31 7 ⟨0, 4, 10⟩ [⟨0, 4, 10⟩] = true ∧ after (.requestUnicastTransmission T fr (pq true) [⟨0, 4, 10⟩]) (sv [(Od.instUnicast 31, 1)] (withC (cl 1 0))) (fun d => queued d == [(3, 15, 0x2C, .fixed [4, 31, 8, 0, 4, 10], false)] && ((d.client 7).map fun c => (c.mask, c.logs, c.expiry.getD 0 0)) == some (1, [4, 0, 0], 26))) ∧
    ((sv).dev.findClient 1 31 fr = none ∧ (sv).dev.nat Od.vlogNext ≤ 64 ∧ (sv).dev.on (Od.instUnicast 31) = false ∧ after (.requestUnicastTransmission T fr (pq true) [⟨0, 4, 10⟩]) sv (fun d => d.nat (Od.instGrantsDenied 31) == 1 && d.bit Od.serviceSticky Bit.serviceSticky_GrantDenied && queued d == [(3, 15, 0x2C, .fixed [4, 31, 0, 0, 4, 0], false)])) ∧
    (after (.cancelUnicastTransmission T fr (pq true) 2) (sv [] (withC clG)) (fun d => queued d == [(3, 15, 0x2C, .fixed [6, 31, 8, 2], false)] && ((d.client 7).map (·.mask)) == some 0)) ∧
    (after (.pdelayReq T fr (pq true)) (pt 15) (fun d => d.nat Od.serviceOffDrops == 1) ∧ after (.cancelUnicastTransmission T fr (pq true) 0) (pt 15) (fun d => d.nat Od.serviceOffDrops == 1)) := by decide +kernel

/-- States and operands that meet the hypotheses of every clause of TrackersFollowTheirMaster, and what follows. -/
theorem witness_TrackersFollowTheirMaster :
    (idles (.ptpAnnounceReceived T 3 { mf with domain := 200 } ann) trk ∧ idles (.ptpSyncReceived T 3 { mf with domain := 200 } 1 true 0 0 none) trk ∧ idles (.followUpReceived T 3 { mf with domain := 200 } 1 0 0 none) trk ∧ idles (.delayRespReceived T 3 { mf with domain := 200 } 1 0 0) trk ∧ idles (.trackerGrantReceived T 3 { mf with domain := 200 } 2 1) trk) ∧
    (TrackerTakes (trk).dev 3 mf ∧ (trk).dev.selected ≠ some 13 ∧ after (.ptpAnnounceReceived T 3 mf ann) trk (fun d => d.nat (Od.ptpClockClass 13) == 6 && (d.trk 3).master == some 99 && (d.rr 13).declared == accuracyBound 0x20 && d.nat (Od.refDeclaredSource 13) == 4)) ∧
    (idles (.ptpSyncReceived T 3 mf 65535 true 0 7 none) trk ∧ after (.ptpSyncReceived T 3 mf 65535 true 0 7 none) trkM (fun d => (d.trk 3).wait == some (65535, T, 0, 7) && only (trk).dev d [Od.refLive 13, Od.refSticky 13] [.svc, .sel])) ∧
    (((trk).dev.trk 3).changed = false ∧ (trk).dev.running 0 = true ∧ after (.ptpSyncReceived T 3 mf 1 false 5 7 none) trkM (fun d => (d.trk 3).diff == some (((trk).dev.convert 0 T 0).1 - 12) && ((d.rr 13).meas.head?.map (·.tick)) == some T)) ∧
    (after (.followUpReceived T 3 mf 1 5 7 none) (trkM [] fun d => d.modTrk 3 fun x => { x with wait := some (1, T - 5, 0, 2) }) (fun d => (d.trk 3).diff == some (((trk).dev.convert 0 (T - 5) 0).1 - 5 - 9) && (d.trk 3).wait == none && ((d.rr 13).meas.head?.map (·.tick)) == some (T - 5))) ∧
    (after (.delayRespReceived T 3 mf 1 100 10) (trkM [] fun d => d.modTrk 3 fun x => { x with sent := some (1, 40), diff := some 6 }) (fun d => (d.trk 3).delay == some 28 && (d.trk 3).sent == none && only (trk).dev d [] [.svc])) ∧
    (after (.trackerGrantReceived T 3 mf 2 300) trk (fun d => d.trkGrant 3 2 == some (T + 300 * ticksPerSec)) ∧ after (.trackerGrantReceived T 3 mf 0 0) trk (fun d => d.trkGrant 3 0 == none)) ∧
    ((trk).dev.trkOn 3 = true ∧ (trk).dev.trkUni 3 = false ∧ ((trk).dev.trk 3).slot < ((trk).reached T).intervalOn 0 ((trk).dev.num (Od.trkLogDelayReq 3)) ∧ after (.trkDelayReq T 3) trk (fun d => queued d == [(4, 15, 0x21, .trkDelay 3 0, false)] && (d.trk 3).seq == 1)) ∧
    ((trk [(Od.trkUnicast 3, 1), (Od.ptpMaster 13, 1)]).dev.trkUni 3 = true ∧ after (.trkGrantRenew T 3) (trk [(Od.trkUnicast 3, 1), (Od.ptpMaster 13, 1)]) (fun d => d.svc.queue.length == 1 && only (trk).dev d [Od.trkUnicast 3, Od.ptpMaster 13] [.svc, .ports]) ∧ idles (.trkGrantRenew T 3) trk) ∧
    (after (.sppKeySwitch T 15) (srv 5 [(Od.sppNextKeySlot 15, 6), (Od.sppNextKeyId 15, 8), (Od.sppKeySlot 15, 2), (Od.sppKeyId 15, 4)]) (fun d => d.nat (Od.sppKeySlot 15) == 6 && d.num (Od.sppKeyId 15) == 8 && d.nat (Od.sppNextKeySlot 15) == 0xFFFF && ((Tab.get (fun _ => none) d.svc.spp 15).map (·.slot)) == some 2) ∧ idles (.sppKeySwitch T 15) (srv 5 [(Od.sppNextKeySlot 15, 0xFFFF)])) ∧
    ((trk).dev.trkHears 3 { mf with domain := 200 } = false ∧ after (.ptpAnnounceReceived T 3 mf { ann with tlv := none }) (trk [] fun d => d.modTrk 3 fun x => { x with heard := [⟨5, [1, 6, 0x20, 0, 1], 5, 0, T⟩], master := some 5 }) (fun d => (d.trk 3).master == some 5 && (d.trk 3).heard.length == 2)) ∧
    (idles (.trkDelayReq T 3) (trk [(Od.trkUnicast 3, 1), (Od.ptpMaster 13, 1)])) := by decide +kernel

/-- States and operands that meet the hypotheses of every clause of NtpAndClients, and what follows. -/
theorem witness_NtpAndClients :
    ((srv 5).dev.ntpOn 15 = false ∧ idles (.ntpRequest T fr nq) (srv 5) ∧ idles (.ntsRequest T fr nq (nx true)) (srv 5)) ∧
    ((ntp).dev.ntpOn 15 = true ∧ ServiceTakes (ntp).dev fr ∧ ntpValid fr (nq 47) = false ∧ after (.ntpRequest T fr (nq 47)) ntp (fun d => d.nat Od.ntpRequests == 1 && d.nat Od.ntpMalformed == 1 && d.out == [])) ∧
    (ntpValid fr nq = true ∧ RecordAtHand (ntp [] (withC (cl 2 0))).dev 2 0 fr 7 (cl 2 0) ∧ 1 ≤ (ntp).dev.nat Od.ntpBurst) ∧
    (KeyServes (ntp [] fun d => master (withC (cl 3 0) d)).dev ((ntp).dev.nat Od.cookieMasterSlot) 2 [3] ∧ RecordAtHand (ntp [] fun d => master (withC (cl 3 0) d)).dev 3 0 fr 7 (cl 3 0) ∧ after (.ntsRequest T fr nq (nx false)) (ntp [] fun d => master (withC (cl 3 0) d)) (fun d => d.nat Od.ntsNakSent == 1 && queued d == [(3, 15, 0x33, .fixed [4, 12], false)])) ∧
    ((ntp).dev.nat Od.serviceState = 1 ∧ 0 < (ntp).dev.nat Od.ntsKeQueueMax ∧ KeyServes (ntp [(Od.ntsKeCertSlot, 9)] fun d => (master d).setSlot 9 { typ := 4, usage := 8 }).dev 9 3 [4] ∧ after (.ntsKeConnection T fr 0 true) (ntp [(Od.ntsKeCertSlot, 9)] fun d => (master d).setSlot 9 { typ := 4, usage := 8 }) (fun d => d.nat Od.ntsKeHandshakes == 1 && d.keys.draws == 8 && d.out == [.frame 15 0x35 [8, ((sv).reached T).cookiePeriod]])) ∧
    (after (.ntsKeConnection T fr ((ntp).dev.nat Od.ntsKeQueueMax) true) ntp (fun d => d.nat Od.ntsKeBusy == 1 && d.out == [.frame 15 0x34 []])) ∧
    (after (.cookiePeriodChange T) ntp (fun d => d.nat Od.cookieKeyIdNow == ((sv).reached T).cookiePeriod)) ∧
    ((sv).dev.bucketWaits 255 = [] ∧ idles (.cacheMissFill T 255 true) sv) ∧
    ((sv [] fun d => (withC (cl 1 4) d).setWaits 255 [.delay fr (pq true)]).dev.reqClient (.delay fr (pq true)) = some 7 ∧ after (.cacheMissFill T 255 true) (sv [] fun d => (withC (cl 1 4) d).setWaits 255 [.delay fr (pq true)]) (fun d => d.bucketWaits 255 == [] && d.cached 7) ∧ after (.cacheMissFill T 255 false) (sv [] fun d => (withC (cl 1 4) d).setWaits 255 [.delay fr (pq true)]) (fun d => d.bucketWaits 255 == [] && d.client 7 == none && d.nat Od.recordCheckFails == 1)) ∧
    (idles (.admissionReview T) sv ∧ after (.admissionReview T) (sv [] fun d => (withC (cl 1 4) d).modSvc fun v => { v with notices := [7] }) (fun d => d.svc.notices == [] && ((d.client 7).map (·.reviewed)) == some true)) ∧
    (idles (.clientScan T) sv ∧ ((sv).reached T).scanFrees { cl 2 0 with refused := true } = true ∧ after (.clientScan T) (sv [] (withC { cl 2 0 with refused := true })) (fun d => d.client 7 == none)) ∧
    (after (.ntpRequest T fr nq) (ntp [] (withC (cl 2 0))) (fun d => d.nat Od.ntpRequests == 1 && d.nat Od.ntpResponses == 1 && queued d == [(3, 15, 0x30, .ntp fr nq [], false)])) ∧
    ((nx true).keyId = ((ntp).reached T).cookiePeriod ∧ after (.ntsRequest T fr nq (nx true)) (ntp [] fun d => master (withC (cl 3 0) d)) (fun d => d.nat Od.ntsExchanges == 1 && d.keys.draws == 8 && queued d == [(3, 15, 0x32, .ntp fr nq [8, ((sv).reached T).cookiePeriod], true)])) ∧
    (after (.admissionReview T) (sv [(Od.prefixQuotaV4, 0)] fun d => (withC (cl 1 4) d).modSvc fun v => { v with notices := [7] }) (fun d => ((d.client 7).map fun c => (c.refused, c.mask)) == some (true, 0))) := by decide +kernel

/-- The key store with a key in slot 1023. -/
def ks (l : List (Nat × Int) := []) (f : Dev → Dev := id) : State :=
  srv 5 l fun d => f (d.setSlot 1023 { typ := 1, usage := 1, cls := 2, fills := 4294967295, key := 5 })
def impV : Int := 1022 * 256 ^ 54 + 256 ^ 53 + 256 ^ 52 + 9 * 256 ^ 16
def genV : Int := 1022 * 256 ^ 6 + 256 ^ 5 + 256 ^ 4
def rotV (src : Nat) : Int := (1023 * 256 ^ 22 + 1022 * 256 ^ 20 + src * 256 ^ 19 : Nat) + tsNum (17 * second)
def rot (retire : Option Int) : State :=
  ks [(Od.sppKeySlot 15, 1023)] fun d => { d with keys := { d.keys with rotations := [{ old := 1023, new := 1022, switchAt := 16 * second, opId := 8, retireAt := retire }] } }
def tmp (z : Nat) : State := ks [(Od.tamperEnable, 128), (Od.tamperLogNext, 16), (Od.zeroiseOnTamper, (z : Int))]
/-- A tamper pin active since a tick, as the model's due tamper. -/
def pinAt (k : Nat) : State := ks [(Od.tamperEnable, 8), (Od.tamperLogNext, 16)] fun d => { d with keys := { d.keys with pins := [(3, { level := true, since := some k })] } }

/-- States and operands that meet the hypotheses of every clause of KeysAreManaged, and what follows. -/
theorem witness_KeysAreManaged :
    (Accepted ((ks).reached T) .spi Od.keyImport impV ∧ octets 56 impV.toNat 0 2 = 1022 ∧ after (.keyImport T .spi impV) ks (fun d => d.slot 1022 == { typ := 1, imported := true, usage := 1, cls := (if (ks).dev.nat Od.lifeCycleState = 0 then 1 else 2), created := ((ks).reached T).now0, fills := 1, uses := 0, key := 9 } && d.slot 1023 == (ks).dev.slot 1023 && only (ks).dev d [Od.slotsUsed, Od.keyOpStatus] [.keys])) ∧
    (Accepted ((ks).reached T) .spi Od.keyGenerate genV ∧ after (.keyGenerate T .spi genV) ks (fun d => (d.slot 1022).typ == 1 && (d.slot 1022).usage == 1 && d.keys.draws == 1 && d.keyOpStatusNow == 1 && d.slot 1023 == (ks).dev.slot 1023)) ∧
    (Accepted ((ks).reached T) .spi Od.keyDestroy 1023 ∧ after (.keyDestroy T .spi 1023) ks (fun d => d.slot 1023 == { fills := 4294967295 } && d.nat Od.keyOpStatus == 0 && only (ks).dev d [Od.slotsUsed, Od.keyOpStatus] [.keys])) ∧
    (Accepted ((ks).reached T) .spi Od.keyRotate (rotV 0) ∧ rotateFields (rotV 0).toNat = (1023, 1022, 0, 17 * second) ∧ after (.keyRotate T .spi (rotV 0)) ks (fun d => d.keys.rotations == [{ old := 1023, new := 1022, switchAt := 17 * second, opId := (ks).dev.nat Od.journalNextOpId }] && (d.acc.journal.map fun j => (j.kind, j.outcome, j.done)) == [(3, 0, 1)] && (d.slot 1022).typ == 1 && (d.slot 1022).usage == 1)) ∧
    (after (.keyRotationSwitch T) (rot none) (fun d => d.nat (Od.sppKeySlot 15) == 1022 && d.nat (Od.sppKeySlot 0) == (rot none).dev.nat (Od.sppKeySlot 0) && (d.keys.rotations.map (·.retireAt)) == [some (16 * second + (ks).dev.num Od.keyRetireDelay * second)])) ∧
    (after (.keyRetire T) (rot (some (16 * second))) (fun d => d.slot 1023 == { fills := 4294967295 } && d.keys.rotations == []) ∧ (ks).dev.keys.rotations = [] ∧ idles (.keyRotationSwitch T) ks ∧ idles (.keyRetire T) ks) := by decide +kernel

/-- States and operands that meet the hypotheses of every clause of KeysAreGuarded, and what follows. -/
theorem witness_KeysAreGuarded :
    (Accepted ((ks).reached T) .spi Od.attestRequest (1023 * 256 ^ 32) ∧ after (.attestRequest T .spi (1023 * 256 ^ 32)) ks (fun d => d.keyOpStatusNow == 1 && d.keys.jobs == [(.attest .spi, T + 5 * ticksPerMs)] && d.keys.slots == (ks).dev.keys.slots)) ∧
    (Accepted ((ks).reached T) .spi Od.keyQuerySlot 1023 ∧ after (.keyQuery T .spi 1022) ks (fun d => d.mine .spi Od.keyQuerySlot == 1022 && d.mine .spi Od.keyType == 0 && d.mine (.oap 1) Od.keyQuerySlot == 0)) ∧
    (idles (.tamperEvent T 7 0 true) (ks [(Od.powerState, 4)]) ∧ after (.tamperEvent T 7 0 true) ks (fun d => d.bit Od.tamperLive 7 == ((ks).dev.bit Od.tamperEnable 7 || true)) ∧ after (.tamperEvent T 7 0 false) (tmp 0) (fun d => !d.bit Od.tamperLive 7 && d.nat Od.keyStoreState == 0)) ∧
    ((tmp 0).dev.bit Od.tamperEnable 7 = true ∧ after (.tamperEvent T 7 3 true) (tmp 0) (fun d => d.bit Od.tamperLive 7 && d.nat Od.keyStoreState == 1 && d.nat Od.tamperCount == 1 && d.bit Od.tamperSticky 7 && d.nat Od.tamperLogNext == 1 && (d.flt.queue.map fun r => (r.src, r.detail, r.tick)) == [(192, 7, T)] && (d.slot 1023).typ == 1)) ∧
    (after (.tamperEvent T 7 3 true) (tmp 128) (fun d => (d.slot 1023).typ == 0 && d.acc.sessions == [] && d.bit Od.tamperSticky Bit.tamperSticky_Zeroised)) ∧
    (Accepted ((ks [(Od.keyStoreState, 1)]).reached T) .spi Od.tamperUnseal 1 ∧ after (.tamperUnseal T .spi 1) (ks [(Od.keyStoreState, 1)]) (fun d => d.nat Od.keyStoreState == 0 && d.keys.slots == (ks).dev.keys.slots)) ∧
    (Accepted ((ks).reached T) .spi Od.lifeCycleRequest (2 * 256 ^ 7) ∧ (ks).dev.lifeRow 2 = false ∧ after (.lifeCycleRequest T .spi (2 * 256 ^ 7)) ks (fun d => d.nat Od.lifeCycleResult == 2 && only (ks).dev d [Od.lifeCycleResult] [])) ∧
    ((ks).dev.lifeRow 4 = true ∧ after (.lifeCycleRequest T .spi (4 * 256 ^ 7 + 1)) ks (fun d => d.nat Od.lifeCycleResult == 3) ∧ Accepted ((ks).reached T) .spi Od.lifeCycleRequest (4 * 256 ^ 7) ∧ (ks).dev.keys.lifeOp = none) ∧
    (Accepted ((ks).reached T) .spi (Od.customerSignerHash 3) 7 ∧ after (.customerSignerHashWrite T .spi 3 7) ks (fun d => d.num (Od.customerSignerHash 3) == 7 && only (ks).dev d [Od.customerSignerHash 3] [])) ∧
    (Accepted ((ks).reached T) .spi (Od.securityFloor 5) 64 ∧ after (.securityFloorWrite T .spi 5 64) ks (fun d => d.num (Od.securityFloor 5) == 64 && only (ks).dev d [Od.securityFloor 5] [])) ∧
    ((ks).dev.bit Od.tamperPolarity 3 = false ∧ after (.tamperEvent T 3 0 true) ks (fun d => d.tamperPin 3 == { level := true, since := some T } && d.tamperPin 2 == {} && only (ks).dev d [] [.keys]) ∧ after (.tamperEvent T 3 0 false) (pinAt T) (fun d => (d.tamperPin 3).since == none && only (ks).dev d [Od.tamperEnable, Od.tamperLogNext, Od.tamperLive] [.keys])) ∧
    ((pinAt (T - (ks).dev.nat Od.tamperDebounce * ticksPerUs)).dev.tamperTicks = [(3, T)] ∧ ((pinAt (T - (ks).dev.nat Od.tamperDebounce * ticksPerUs)).reached T).bit Od.tamperLive 3 = true ∧ ((pinAt (T - (ks).dev.nat Od.tamperDebounce * ticksPerUs)).reached T).nat Od.keyStoreState = 1 ∧ ((pinAt (T + 1 - (ks).dev.nat Od.tamperDebounce * ticksPerUs)).reached T).bit Od.tamperLive 3 = false) ∧
    (after (.tamperUnseal T .spi 0) (ks [(Od.keyStoreState, 1)]) (fun d => d.nat Od.keyStoreState == 1)) ∧
    ((ks [(Od.lifeCycleState, 1)]).dev.lifeRow 2 = true ∧ after (.lifeCycleRequest T .spi (2 * 256 ^ 7)) (ks [(Od.lifeCycleState, 1), (Od.keyStoreState, 1)]) (fun d => d.nat Od.lifeCycleResult == 4 && d.nat Od.lifeCycleState == 1)) ∧
    (after (.lifeCycleRequest T .spi (4 * 256 ^ 7)) ks (fun d => d.keys.lifeOp == some ((ks).dev.nat Od.journalNextOpId, 4))) ∧
    (after (.lifeCycleRequest T .spi (4 * 256 ^ 7)) ks (fun d => (d.slot 1023).typ == 0)) := by decide +kernel

/-- An engine of a pair: mode, role, PairState, its registers as said. -/
def pr (m role st' : Nat) (l : List (Nat × Int) := []) (f : Pair → Pair := id) : State :=
  srv m ([(Od.pairEnable, 1), (Od.pairRole, (role : Int)), (Od.pairState, (st' : Int))] ++ l) fun d => { d with pair := f d.pair }
def held1 : Held := { port := 15, ready := 5, ordinal := 6 }
/-- A step of a resynchronisation: the last step done, the tick the present one began. -/
def rs (step at' : Nat) : State := pr 9 2 4 [(Od.resyncStep, (step : Int))] fun p => { p with running := true, stepAt := at' }
def evR : CoreRec := { tick := 5, line := 63, entry := 4095, occurrence := 1, param := 7, flags := 0 }
/-- An engine of no pair whose application has level L2, a handler of it running. -/
def hnd : State := srv 5 [] fun d => { d with acc := { d.acc with appLevel := 2 }, pair := { d.pair with handlers := [{ epoch := 4, entry := 5 }] } }
def kept (seq n : Nat) : Kept := { seq, type := 9, fields := [seq], payload := List.replicate n 0 }
/-- The Buckle frames sent: type and fields. -/
def sent (d : Dev) : List (Nat × List Nat) := d.out.filterMap fun m => match m with | .buckle t l _ => some (t, l) | _ => none
def trms : LogRec := .terms 1 2 3 4 5 9 [(0, 7)]
/-- The versions HELLO names. -/
def appV : Int := (srv 5).dev.num Od.applicationVersionM3
def micV : Int := (srv 5).dev.update.micro
/-- A standby that executes a record of entry 0. -/
def logDev : Dev := { (pr 8 2 2).reached T with pair := { ((pr 8 2 2).reached T).pair with frameAt := some T, silent := false, seqIn := 1, received := 1, entry := some 0 } }
theorem test_plain_ptpPriority1 : PlainObject Od.ptpPriority1 3 := ⟨fun _ _ => rfl, by decide, by decide, by decide, by decide⟩
/-- WARMUP, ready, waiting since 5 for a HELLO of a partner that claims what is said. -/
def wup (_ : Nat) : State := { pr 3 0 1 [] fun p => { p with waiting := some 5 } with dev := ((pr 3 0 1 [] fun p => { p with waiting := some 5 }).dev.modMode fun m => { m with ready := true }) }

/-- States and operands that meet the hypotheses of every clause of LinkKeepsOrder, and what follows. -/
theorem witness_LinkKeepsOrder :
    ((srv 5).dev.on Od.pairEnable = false ∧ idles (.helloFrame T 1 1 1 0 0 1) (srv 5) ∧ idles (.heartbeatFrame T 1 1 true 1 [] 1 1 1) (srv 5) ∧ idles (.logFrame T 0 true []) (srv 5) ∧ idles (.epochEndFrame T 0 true 1 0 1) (srv 5) ∧ idles (.digestFrame T 1 1) (srv 5) ∧ idles (.nakFrame T 0 1) (srv 5) ∧ idles (.ackFrame T 1) (srv 5)) ∧
    (idles (.copyFrame T 0 true [] true) (srv 5) ∧ idles (.cutoverFrame T 1 1) (srv 5) ∧ idles (.leavingFrame T 1 0) (srv 5) ∧ idles (.takenFrame T 1) (srv 5) ∧ idles (.exchangeFrame T 1) (srv 5) ∧ idles (.exchangeAckFrame T 1 true) (srv 5) ∧ idles (.heartbeatSend T) (srv 5) ∧ idles (.ackSend T) (srv 5) ∧ idles (.digestDeadline T) (srv 5) ∧ idles (.linkSilent T) (srv 5) ∧ idles (.partnerLossConfirmed T) (srv 5) ∧ idles (.pairJoinWaitExpiry T) (srv 5) ∧ idles (.pcdBurnish T) (srv 5)) ∧
    (after (.nakFrame T 3 4) (pr 5 1 2 [] fun p => { p with unacked := [kept 2 9, kept 3 9, kept 4 9, kept 5 9] }) (fun d => sent d == [(9, [3]), (9, [4])] && only (pr 5 1 2).dev d [] [.pair])) ∧
    (after (.ackFrame T 4) (pr 5 1 2 [] fun p => { p with unacked := [kept 2 9, kept 3 9, kept 4 9, kept 5 1025] }) (fun d => d.pair.unacked == [kept 5 1025] && d.nat Od.retransmitBufferUse == 2)) ∧
    (after (.ackSend T) (pr 5 1 2 [] fun p => { p with frameAt := some 5 }) (fun d => sent d == [(0x21, [4294967295])] && only (pr 5 1 2).dev d [] [.pair])) ∧
    (after (.logFrame T 0 false []) (pr 8 2 2) (fun d => d.nat Od.linkCrcErrors == 1 && sent d == [(0x20, [0, 0])] && only (pr 8 2 2).dev d [Od.linkCrcErrors] []) ∧ after (.logFrame T 3 true []) (pr 8 2 2) (fun d => d.nat Od.retransmits == 1 && sent d == [(0x20, [0, 2])] && d.pair.seqIn == 0)) ∧
    (after (.logFrame T 4294967295 true [(0, trms)]) (pr 5 1 2 [] fun p => { p with seqIn := 4294967295 }) (fun d => d.pair.seqIn == 0 && d.pair.terms == none && d.out == [])) ∧
    (after (.logFrame T 0 true [(0, .inc 7 9 T)]) (pr 8 2 2) (fun d => d.pair.seqIn == 1 && Tab.find? d.pair.logged 7 == some 9) ∧ after (.logFrame T 0 true [(0, .inc 7 9 (T + 1))]) (pr 8 2 2) (fun d => d.pair.incs == [(T + 1, 7, 9)]) ∧ after (.logFrame T 0 true [(0, trms)]) (pr 8 2 2) (fun d => (d.pair.terms.map (·.temp)) == some 9 && only (pr 8 2 2).dev d [] [.pair])) ∧
    (askValues (asksOf [(Od.ptpPriority1, 3)]) = [(Od.ptpPriority1, 3)] ∧ firstFail (logDev.askStatus (logDev.wrOf .log (logDev.levelOf .log) [(Od.ptpPriority1, 3)])) 0 (asksOf [(Od.ptpPriority1, 3)]) = none ∧ after (.logFrame T 0 true [(0, .write [(Od.ptpPriority1, 3)])]) (pr 8 2 2) (fun d => d.num Od.ptpPriority1 == 3 && only (pr 8 2 2).dev d [Od.ptpPriority1] [.pair])) ∧
    (idles (.peerAliveChange T false) (srv 5) ∧ after (.peerAliveChange T true) (srv 5) (fun d => d.pair.peer && d.pair.peerAt == T)) ∧
    ((pr 8 2 2).dev.nat Od.linkLossTime * ticksPerUs ≤ T - 5 ∧ after (.linkSilent T) (pr 8 2 2 [] fun p => { p with frameAt := some 5, peerAt := T }) (fun d => d.pair.silent && d.nat Od.lastDivergenceCause == 4 && d.nat Od.digestRun == 0) ∧ after (.linkSilent T) (pr 5 1 3 [] fun p => { p with frameAt := some 5 }) (fun d => d.pair.silent && only (pr 5 1 3).dev d [] [.pair])) := by decide +kernel

/-- States and operands that meet the hypotheses of every clause of HellosAndHeartbeats, and what follows. -/
theorem witness_HellosAndHeartbeats :
    (after (.helloFrame T 8 1 2 appV micV 3) (pr 8 2 2) (fun d => d.pair.hello == some ⟨8, 1, 2, true, 3⟩ && d.nat Od.partnerSerial == 8 && only (pr 8 2 2).dev d [Od.partnerSerial] [.pair])) ∧
    (after (.helloFrame T 8 1 2 (appV + 1) micV 3) (pr 4 0 3) (fun d => d.nat Od.pairState == 6 && d.bit Od.pairSticky Bit.pairSticky_ImageMismatch)) ∧
    (after (.helloFrame T 8 1 1 appV micV 3) (pr 3 0 1 [] ) (fun _ => true) ∧ (pr 3 0 1).dev.mode.cycle ≠ some (T / 2)) ∧
    ((pr 5 1 3).dev.yields 8 1 = false ∧ after (.helloFrame T 8 1 1 appV micV 1) (pr 5 1 3) (fun d => d.bit Od.pairSticky Bit.pairSticky_DualActive && only (pr 5 1 3).dev d [Od.partnerSerial, Od.pairSticky] [.pair])) ∧
    ((pr 5 1 3 [(Od.activeSince, 9)]).dev.yields 8 1 = true) ∧
    ((pr 3 0 1).dev.nat Od.pairJoinWait * ticksPerSec ≤ 10 ^ 11 - 5 ∧ (pr 3 0 1 [] fun p => { p with waiting := some 5 }).dev.pair.hello = none) ∧
    (after (.heartbeatFrame T 8 2 true 9 [] 1 2 3) (pr 5 1 3) (fun d => d.on Od.partnerHealthy && d.pair.peerMode == 8 && d.pair.measure == 2 && d.nat Od.pairState == 2)) ∧
    (after (.heartbeatFrame T 5 1 true 9 [(15, 5, 6)] 1 2 3) (pr 8 2 2 [] fun p => { p with held := [held1, { held1 with ordinal := 7 }] }) (fun d => d.nat Od.shadowMode == 5 && d.pair.horizon == 9 && d.pair.held == [{ held1 with ordinal := 7 }] && d.nat Od.holdDepth == 1)) ∧
    (after (.heartbeatSend T) (pr 5 1 2 [(Od.aliveState, 1), (Od.roleExchangeResult, 1)] fun p => { p with exchange := some (16 * second, true), takenUntil := T + 1 }) (fun d => d.out.length == 2 && d.nat Od.roleExchangeResult == 2 && d.bit Od.pairSticky Bit.pairSticky_ExchangeDone) ∧ idles (.heartbeatSend T) (pr 5 1 2 [(Od.aliveState, 2)])) ∧
    (Accepted ((srv 5).reached T) .spi Od.pairEnable 1 ∧ after (.pairEnableWrite T .spi 1) (srv 5) (fun d => d.num Od.pairEnable == 1 && only (srv 5).dev d [Od.pairEnable] []) ∧ after (.pairEnableWrite T .spi 0) (pr 5 1 3) (fun d => d.nat Od.pairRole == 0 && d.nat Od.pairState == 0 && d.pair.hello == none)) ∧
    (after (.pcdBurnish T) (pr 5 1 2 [] fun p => { p with pcdAt := 0 }) (fun _ => true) ∧ after (.pcdBurnish (900 * ticksPerSec)) (pr 5 1 2) (fun d => d.pair.pcdAt == 900 * ticksPerSec && d.nat Od.pcdSysTerm == sysTermOf 0 0) ∧ idles (.pcdBurnish (900 * ticksPerSec - 1)) (pr 5 1 2)) ∧
    ((pr 3 0 1 [] fun p => p).dev.mode.ready = false ∧ after (.helloFrame T 8 1 1 appV micV 3) (wup 1) (fun d => d.md == Mode.resync && d.nat Od.pairRole == 2 && d.nat Od.pairState == 4 && d.pair.running && d.nat Od.resyncStep == 0) ∧ (wup 1).dev.journalFree = true) ∧
    (after (.helloFrame T 8 1 0 appV micV 1) (pr 5 1 2) (fun d => d.nat Od.pairState == 3)) ∧
    (after (.pairJoinWaitExpiry (10 ^ 11)) (wup 0) (fun d => d.md == Mode.acquire && d.nat Od.lastModeCause == 4 && d.nat Od.pairRole == 1 && d.nat Od.pairState == 3 && d.pair.waiting == none) ∧ idles (.pairJoinWaitExpiry T) (pr 5 1 2)) ∧
    (after (.heartbeatSend T) (pr 5 1 2 [(Od.aliveState, 1)]) (fun d => (sent d).map (·.1) == [2] && only (pr 5 1 2).dev d [Od.aliveState] []) ∧ after (.heartbeatFrame T 9 2 true 9 [] 1 2 3) (pr 5 1 3) (fun d => d.nat Od.pairState == 4)) := by decide +kernel

/-- States and operands that meet the hypotheses of every clause of DigestsAndResync, and what follows. -/
theorem witness_DigestsAndResync :
    (Tab.find? (pr 8 2 2 [] fun p => { p with digests := [(9, 4)] }).dev.pair.digests 9 = some 4 ∧ after (.digestFrame T 9 4) (pr 8 2 2 [] fun p => { p with digests := [(9, 4)] }) (fun d => d.nat Od.digestRun == 1 && d.nat Od.digestEpoch == 9 && d.nat Od.digestLast == 4 && d.pair.matched) ∧ after (.epochEndFrame T 0 true 9 0 4) (pr 8 2 2 [] fun p => { p with digests := [(9, 4)] }) (fun d => d.nat Od.digestRun == 1 && d.pair.complete == 9 && d.pair.seqIn == 1)) ∧
    (after (.digestFrame T 9 5) (pr 8 2 2 [] fun p => { p with digests := [(9, 4)] }) (fun d => d.nat Od.lastDivergenceCause == 1 && d.nat Od.lastDivergenceEpoch == 9 && d.nat Od.digestRun == 0 && d.nat Od.divergenceCount == 1) ∧ after (.epochEndFrame T 0 true 9 0 5) (pr 8 2 2 [] fun p => { p with digests := [(9, 4)] }) (fun d => d.nat Od.lastDivergenceCause == 1)) ∧
    ((st []).dev.running 0 = false ∧ idles (.epochBoundary T [] none) (st []) ∧ after (.epochBoundary T [] none) (srv 5) (fun d => d.nat Od.epochNow == 16384 && only (srv 5).dev d [Od.epochNow] [])) ∧
    (after (.epochBoundary T [] none) (pr 8 2 2 [(Od.laneState 16, 3), (Od.laneState 19, 3)]) (fun d => d.nat Od.lanesInUse == 9 && d.nat Od.linkState == 2)) ∧
    ((pr 5 1 2).dev.running 0 = true ∧ (pr 5 1 2).dev.digests = true ∧ Tab.find? (pr 5 1 2).dev.pair.theirs (epochOf (((pr 5 1 2).reached T).tsNow 0) - 1) = none) ∧
    ((pr 8 2 2).dev.nat Od.digestDeadline * 1000 * 2 ^ 32 < 16 * second ∧ after (.digestDeadline T) (pr 8 2 2 [] fun p => { p with peerAt := T }) (fun d => d.nat Od.lastDivergenceCause == 2 && d.nat Od.digestRun == 0) ∧ idles (.digestDeadline T) (pr 8 2 2 [] fun p => { p with complete := 16384 })) ∧
    (Od.isLocal Od.ptpPriority1 = false ∧ after (.copyFrame T 0 true [.obj Od.ptpPriority1 3] true) (rs 1 0) (fun d => d.num Od.ptpPriority1 == 3 && d.nat Od.resyncStep == 2 && d.pair.seqIn == 1)) ∧
    (after (.cutoverFrame T 9 5) (rs 2 0) (fun d => d.nat Od.resyncStep == 3 && d.pair.seed == some (9, 5) && d.pair.complete == 9 && d.pair.stepAt == T)) ∧
    (after (.resyncStepTimeout T) (rs 2 (T - (rs 2 0).dev.resyncLimit - 1)) (fun d => !d.pair.running && d.pair.failedAt == some T) ∧ idles (.resyncStepTimeout T) (rs 2 (T - (rs 2 0).dev.resyncLimit))) ∧
    ((pr 9 2 4).dev.journalFree = true ∧ after (.resyncRetry T) (pr 9 2 4 [] fun p => { p with failedAt := some (T - 10 * ticksPerSec) }) (fun d => d.pair.running && d.pair.failedAt == none && d.nat Od.resyncStep == 0 && d.nat Od.pairState == 4) ∧ idles (.resyncRetry T) (pr 9 2 4 [] fun p => { p with failedAt := some (T - 10 * ticksPerSec + 1) })) ∧
    (after (.epochBoundary T [(1, 2, 3)] none) (pr 5 1 2 [] fun p => { p with logged' := 6 }) (fun d => (sent d).any (·.1 == 0x11) && d.pair.logged' == 0 && d.pair.seqOut == 1)) ∧
    (after (.epochBoundary T [] (some 77)) (pr 5 1 4) (fun d => d.pair.last == 77 && d.pair.seed == some (16383, 77) && (sent d).contains (0x31, [16383, 77]))) := by decide +kernel

/-- States and operands that meet the hypotheses of every clause of RolesChangeHands, and what follows. -/
theorem witness_RolesChangeHands :
    (after (.leavingFrame T (tsNum (17 * second)) 0) (pr 8 2 2) (fun d => d.pair.leaving == some (17 * second) && only (pr 8 2 2).dev d [] [.pair])) ∧
    (0 ≤ tsTime 0 ∧ (pr 5 1 2).dev.nat Od.pairRole = 1 ∧ after (.takenFrame T 0) (pr 8 2 2) (fun d => only (pr 8 2 2).dev d [] [.pair]) ∧ after (.exchangeFrame T 5) (pr 8 2 2) (fun d => sent d == [(0x43, [5, 0])])) ∧
    (Accepted ((pr 5 1 2).reached T) .spi Od.roleExchangeAt (tsNum (17 * second)) ∧ after (.roleExchangeWrite T .spi (tsNum (17 * second))) (pr 5 1 2) (fun d => d.nat Od.roleExchangeResult == 1 && d.pair.exchange == some (17 * second, false) && (sent d).contains (0x42, [tsNum (17 * second)]))) ∧
    (after (.exchangeAckFrame T 0 true) (pr 5 1 2 [] fun p => { p with exchange := some (0, false) }) (fun d => d.pair.exchange == some (0, true) && sent d == [(0x40, [0, 0])]) ∧ after (.exchangeAckFrame T 0 false) (pr 5 1 2 [] fun p => { p with exchange := some (0, false) }) (fun d => d.pair.exchange == none && d.nat Od.roleExchangeResult == 3)) ∧
    (((pr 8 2 2).reached T).lossConfirmed = false ∧ idles (.partnerLossConfirmed T) (pr 8 2 2)) ∧
    (((pr 8 2 2 [(Od.shadowMode, 5), (Od.failoverPermit, 1)] fun p => { p with silent := true, matched := true }).reached T).lossConfirmed = true ∧ (pr 8 2 2 [(Od.shadowMode, 5), (Od.failoverPermit, 1)] fun p => { p with silent := true, matched := true }).dev.healthy = true ∧ 5 ∈ serviceModes ∧ after (.partnerLossConfirmed T) (pr 8 2 2 [(Od.shadowMode, 5), (Od.failoverPermit, 1)] fun p => { p with silent := true, matched := true }) (fun d => d.md == 5 && d.nat Od.pairRole == 1 && d.nat Od.pairState == 3 && d.nat Od.failoverCount == 1)) ∧
    (after (.partnerLossConfirmed T) (pr 8 2 2 [] fun p => { p with silent := true }) (fun d => d.nat Od.pairState == 5 && d.bit Od.pairSticky Bit.pairSticky_FailoverDeclined && d.md == 8) ∧ after (.partnerLossConfirmed T) (pr 5 1 2 [] fun p => { p with silent := true }) (fun d => d.nat Od.pairState == 3 && d.pair.hello == none)) ∧
    (idles (.m3EventDelivery T) (srv 5) ∧ after (.m3EventDelivery T) (srv 5 [] fun d => { d with tugs := { d.tugs with events := [evR] } }) (fun d => d.tugs.events == [] && (d.pair.handlers.map (·.entry)) == [5])) ∧
    (after (.m3HandlerReturn T [(K, 3)]) (pr 5 1 2 [] fun p => { p with handlers := [{ epoch := 4, entry := 5 }] }) (fun d => d.pair.handlers == [{ epoch := 4, entry := 5, returned := true, acts := [(K, 3)] }]) ∧ after (.m3HandlerReturn T []) (srv 5 [] fun d => { d with pair := { d.pair with handlers := [{ epoch := 4, entry := 5 }] } }) (fun d => d.pair.handlers == [])) ∧
    (Accepted { (hnd).reached T with pair := { (hnd).dev.pair with handlers := [] } } .app Od.ptpPriority1 3 ∧ after (.m3HandlerReturn T [(Od.ptpPriority1, 3)]) hnd (fun d => d.num Od.ptpPriority1 == 3 && d.pair.handlers == []) ∧ idles (.m3HandlerReturn T []) (srv 5)) ∧
    (((pr 9 2 4 [] fun p => { p with silent := true, running := true }).reached T).lossConfirmed = true ∧ after (.partnerLossConfirmed T) (pr 9 2 4 [] fun p => { p with silent := true, running := true }) (fun d => !d.pair.running && d.nat Od.lastModeCause == 12 && d.md == Mode.resync && d.pair.failedAt == some T) ∧ after (.partnerLossConfirmed T) (pr 9 2 4 [(Od.soloStart, 1)] fun p => { p with silent := true, running := true }) (fun d => d.md == Mode.acquire && d.nat Od.pairRole == 1)) ∧
    (after (.m3HandlerReturn T []) (pr 8 2 2 [] fun p => { p with handlers := [{ epoch := 4, entry := 5 }] }) (fun d => d.pair.handlers == [] && d.nat Od.appLag == 1) ∧ idles (.m3EventDelivery T) { srv 5 [(Od.coreState 3, 0)] with dev := { (srv 5 [(Od.coreState 3, 0)]).dev with tugs := { (srv 5).dev.tugs with events := [evR] } } }) ∧
    (after (.exchangeAckFrame T 5 true) (pr 5 1 2) (fun d => d.pair.exchange == none && d.out == [] && only (pr 5 1 2).dev d [] [.pair])) := by decide +kernel

/-- The collector with a record of source 255. -/
def fl (f : Collector → Collector) (l : List (Nat × Int) := []) : State := srv 5 l fun d => { d with flt := f d.flt }
def fr0 : FRec := { active := true, level := 3, count := 9, unacked := true, last := 5 }
def win (stop : Nat) : Settle := { entry := 31, start := 5, stop, set := 0, opId := 8 }
/-- SAFE, brought about by source 255 alone. -/
def safeS : State := { fl fun c => { c with recs := [(255, fr0)], safeBy := [255] } with dev := (fl fun c => { c with recs := [(255, fr0)], safeBy := [255] }).dev.put Od.opMode Mode.safe }

/-- States and operands that meet the hypotheses of every clause of FaultAcknowledged, and what follows. -/
theorem witness_FaultAcknowledged :
    (Accepted ((srv 5).reached T) .spi Od.faultAck 219 ∧ after (.faultAck T .spi 219) (fl fun c => { c with recs := [(3, fr0), (219, fr0)] }) (fun d => !(d.frec 219).unacked && (d.frec 219).active && (d.frec 3).unacked)) ∧
    (Accepted ((srv 5).reached T) .spi Od.faultAck 0xFFFF ∧ after (.faultAck T .spi 0xFFFF) (fl fun c => { c with recs := [(3, fr0), (219, fr0)] }) (fun d => !(d.frec 219).unacked && !(d.frec 3).unacked && (d.frec 3).level == 3)) := by decide +kernel

/-- States and operands that meet the hypotheses of every clause of FaultsAreCollected, and what follows. -/
theorem witness_FaultsAreCollected :
    (isSource 255 = true ∧ (srv 5).dev.flt.queue = [] ∧ (srv 5).dev.flt.windows = [] ∧ (srv 5).dev.arms = 0 ∧ (srv 5).dev.nat Od.faultLogNext < 256 ∧ (srv 5).dev.sourceOn 255 = true ∧ after (.faultReport T 255 7) (srv 5) (fun d => (d.frec 255).count == 1 && (d.frec 255).active && (d.frec 255).lastDetail == 7 && d.bit Od.faultActive (sourceBit 255) && d.flt.queue == [])) ∧
    ((srv 5 [(Od.sourceConfig 255, 0)]).dev.sourceOn 255 = false ∧ after (.faultReport T 255 7) (srv 5 [(Od.sourceConfig 255, 0)]) (fun d => (d.frec 255).count == 1 && !(d.frec 255).active && only (srv 5).dev d [Od.sourceConfig 255] [.flt])) ∧
    (isSource 255 = true ∧ T - 5 + 1000 ≤ max (srv 5).dev.tick (T + 995) ∧ after (.faultReport (T + 995) 255 7) (fl fun c => { c with queue := [{ src := 255, detail := 9, tick := T - 5 }] }) (fun d => (d.frec 255).count == 1 && (d.frec 255).lastDetail == 9 && (d.frec 255).active && d.flt.queue == [])) ∧
    (idles (.reactSettleEnd T 31) (srv 5) ∧ (srv 5).dev.nat Od.faultLive = 0 ∧ after (.reactSettleEnd T 31) (fl fun c => { c with windows := [win T] }) (fun d => d.flt.windows == [{ win T with ended := true }])) ∧
    (idles (.sourceQuietPeriod T 255) (srv 5)) ∧
    ((fl fun c => { c with recs := [(255, fr0)] }).dev.nat Od.quietPeriod * ticksPerSec ≤ 10 ^ 11 - (fr0).quiet ∧ 255 ∉ (srv 5).dev.flt.safeBy ∧ after (.sourceQuietPeriod (10 ^ 11) 255) (fl fun c => { c with recs := [(255, fr0)] }) (fun d => !(d.frec 255).active && (d.frec 255).level == 0 && (d.frec 255).recoveries == 1 && (d.frec 255).count == 9)) ∧
    (Accepted ((srv 5).reached T) .spi Od.faultRecordClear 255 ∧ after (.faultRecordClear T .spi 255) (fl fun c => { c with recs := [(255, { fr0 with active := false })] }) (fun d => d.frec 255 == {}) ∧ after (.faultRecordClear T .spi 0xFFFF) (fl fun c => { c with recs := [(3, fr0), (255, { fr0 with active := false })] }) (fun d => d.frec 255 == {} && d.frec 3 == fr0)) ∧
    (Accepted ((srv 5).reached T) .spi Od.faultQuerySource 255 ∧ after (.faultQuery T .spi 255) (fl fun c => { c with recs := [(255, fr0)] }) (fun d => d.mine .spi Od.fqLevel == 3 && d.mine .spi Od.fqCount == 9 && d.frec 255 == { fr0 with unread := false })) ∧
    (Accepted ((srv 5).reached T) .spi (Od.sourceConfig 255) 0 ∧ after (.sourceConfigWrite T .spi 255 0) (fl fun c => { c with recs := [(255, fr0)] }) (fun d => d.num (Od.sourceConfig 255) == 0 && !(d.frec 255).active && (d.frec 255).count == 9)) ∧
    (after (.faultReport T 217 20000) (srv 5) (fun d => d.num Od.tjMaxSeen == max ((srv 5).dev.num Od.tjMaxSeen) 20000 && !d.isLive 217 && only (srv 5).dev d [Od.tjMaxSeen] [.flt]) ∧ (20000 : Int) ≤ (srv 5).dev.tjMax ∧ (srv 5).dev.tjMax < 2 ^ 31 - 1 ∧ after (.faultReport T 217 (2 ^ 31 - 1)) (srv 5) (fun d => d.isLive 217 && d.num Od.tjMaxSeen == 2 ^ 31 - 1)) ∧
    ((fl fun c => { c with windows := [{ win T with set := 2 ^ sourceBit 255 }] }).dev.isLive 255 = false ∧ after (.reactSettleEnd T 31) (fl (fun c => { c with windows := [{ win (T - 1) with set := 2 ^ sourceBit 219 }] }) [(Od.faultLive, 2 ^ sourceBit 219)]) (fun d => (d.flt.queue.map fun x => (x.src, x.tick, x.settled)) == [(219, T - 1, true)])) ∧
    ((safeS.reached T).flt.safeBy = [255] ∧ (safeS.reached T).md = Mode.safe ∧ after (.sourceQuietPeriod (10 ^ 11) 255) safeS (fun d => d.md == safeS.dev.safeExit && d.nat Od.lastModeCause == 11)) := by decide +kernel

/-- States and operands that meet the hypotheses of every clause of WatchdogsAndCounters, and what follows. -/
theorem witness_WatchdogsAndCounters :
    (after (.aliveToggle T) (fl (fun c => { c with aliveFrom := T - 312500 }) [(Od.aliveState, 1)]) (fun d => d.flt.alive == !(srv 5).dev.flt.alive && d.flt.aliveFrom == T) ∧ idles (.aliveToggle T) (fl (fun c => { c with aliveFrom := T - 312499 }) [(Od.aliveState, 1)])) ∧
    (after (.collectorWatchdog T) (srv 5) (fun d => d.nat Od.collectorRestarts == 1 && d.bit Od.collectorSticky Bit.collectorSticky_CollectorRestarted && (d.frec 219).count == 1 && !d.flt.stopped)) ∧
    (idles (.coreWatchdogExpiry T 3) (srv 5) ∧ after (.coreWatchdogExpiry T 3) (fl (fun c => { c with wdog := [(3, 5)] }) [(Od.coreWatchdogTime 3, 10)]) (fun d => Tab.find? d.flt.wdog 3 == some T && (d.flt.queue.map fun r => (r.src, r.detail)) == [(211, 3)])) ∧
    ((st []).dev.running 0 = false ∧ idles (.srvStall T) (st []) ∧ after (.srvStall T) (fl fun c => { c with lastUpdate := T - 64 * ticksPerMs }) (fun d => d.isLive 3 && (d.flt.queue.map fun r => (r.src, r.detail)) == [(3, 64)])) ∧
    ((srv 5).dev.updateRec = none ∧ after (.coreRunning T 3) (srv 5 [(Od.coreState 3, 3)]) (fun d => d.nat (Od.coreState 3) == 1 && Tab.find? d.flt.wdog 3 == some T)) ∧
    (after (.pmcWrap T 63) (srv 5 [(Od.pmcEnable 63, 1), (Od.pmcValue 63, 9)]) (fun d => d.nat (Od.pmcValue 63) == 0 && d.bit (pmcWord 63) 31) ∧ idles (.pmcWrap T 63) (srv 5 [(Od.pmcEnable 63, 0)])) ∧
    (Accepted ((srv 5).reached T) .spi (Od.pmcThreshold 63) 7 ∧ after (.pmcConfigWrite T .spi 63 2 7) (srv 5 [(Od.pmcValue 63, 9)]) (fun d => d.num (Od.pmcThreshold 63) == 7 && d.nat (Od.pmcValue 63) == 0)) ∧
    (Accepted ((srv 5).reached T) .spi Od.pmcClearHi 0x80000000 ∧ after (.pmcClear T .spi true 0x80000000) (srv 5 [(Od.pmcValue 63, 9), (Od.pmcValue 62, 8)]) (fun d => d.nat (Od.pmcValue 63) == 0 && d.nat (Od.pmcValue 62) == 8)) := by decide +kernel

/-- The power controller: state, change on its way. -/
def pw (p : Nat) (c : Change) (l : List (Nat × Int) := []) : State :=
  srv 5 ([(Od.powerState, (p : Int)), (Od.powerQueued, 0xFF)] ++ l) fun d => { d with power := { d.power with change := c } }

/-- States and operands that meet the hypotheses of every clause of PowerChanges, and what follows. -/
theorem witness_PowerChanges :
    (Accepted ((pw 0 (.entering 1)).reached T) .spi Od.powerRequest 0 ∧ after (.powerRequestRun T .spi) (pw 0 (.entering 1)) (fun d => d.nat Od.powerQueued == 0 && d.nat Od.powerRequestResult == 1 && only (pw 0 (.entering 1)).dev d [Od.powerQueued, Od.powerRequestResult] []) ∧ after (.powerRequestOff T .spi [(0, 1)]) (pw 0 (.entering 1)) (fun d => d.nat Od.powerQueued == 4)) ∧
    (Accepted ((pw 3 .none).reached T) .spi Od.powerRequest 3 ∧ after (.powerRequestKeep T .spi []) (pw 3 .none) (fun d => d.nat Od.powerRequestResult == 0 && only (pw 3 .none).dev d [Od.powerRequestResult] []) ∧ after (.powerRequestTrim T .spi) (pw 1 .none) (fun d => d.nat Od.powerRequestResult == 0)) ∧
    (((pw 0 .none).reached T).ownDelays = [] ∧ (pw 0 .none).dev.powerAllowed 1 = true ∧ (pw 0 .none).dev.powerRefuser 1 = none ∧ after (.powerRequestTrim T .spi) (pw 0 .none) (fun d => d.power.change == .entering 1 && d.nat Od.powerRequestResult == 2 && d.nat Od.powerState == 0) ∧ after (.powerRequestQuiet T .spi []) (pw 0 .none) (fun d => d.power.change == .entering 2)) ∧
    ((pw 0 .none).dev.powerRefuser 3 = none ∧ (pw 0 .none).dev.md = Mode.locked ∧ (pw 0 .none).dev.mode.cycle ≠ some (T / 2) ∧ after (.powerRequestRun T .spi) (pw 2 .none) (fun d => d.power.change == .entering 0)) ∧
    (after (.powerRequestQuiet T .spi []) (pw 0 .none [(Od.opMode, 3)]) (fun d => d.nat Od.powerRequestResult == 3 && d.bit Od.powerSticky Bit.powerSticky_RequestRefused && d.power.change == .none)) ∧
    (after (.powerRequestQuiet T .spi [(2, (pw 0 .none).dev.nat Od.powerDelayMax)]) (pw 0 .none) (fun d => d.power.change == .waiting 2 (T + (pw 0 .none).dev.nat Od.powerDelayMax * ticksPerMs) (T + (pw 0 .none).dev.nat Od.powerDelayMax * ticksPerMs) [2] && d.nat Od.powerRequestResult == 2)) ∧
    ((pw 0 .none [(Od.pairRole, 1), (Od.pairState, 2)]).dev.powerRefuser 3 = some 4 ∧ after (.powerRequestKeep T .spi []) (pw 0 .none [(Od.pairRole, 1), (Od.pairState, 2)]) (fun d => d.nat Od.powerRequestResult == 4 && d.nat Od.powerLastRefuser == 4)) ∧
    (Accepted ((pw 3 .none).reached T) .spi Od.powerRequest 0 ∧ after (.powerRequestRun T .spi) (pw 3 .none) (fun d => d.power.change == .waking 0 T && d.nat Od.lastWakeCause == 1 && d.nat Od.powerRequestResult == 2)) ∧
    (idles (.powerDelayElapsed T []) (pw 0 (.waiting 1 (T + 1) (T + 9) [2])) ∧ after (.powerDelayElapsed T []) (pw 0 (.waiting 1 T (T + 9) [2])) (fun d => d.power.change == .entering 1 && d.nat Od.powerState == 0)) ∧
    ((pw 1 (.entering 2)).dev.lanesQuiet = true ∧ after (.quietEntryComplete T) (pw 1 (.entering 2)) (fun d => d.nat Od.powerState == 2 && d.power.change == .none && d.nat Od.powerRequestResult == 0 && d.bit Od.powerSticky Bit.powerSticky_StateChanged)) ∧
    (after (.keepEntryComplete T) (pw 0 (.entering 3)) (fun d => d.nat Od.powerState == 3 && d.power.change == .none && d.nat Od.keepCount == 1)) ∧
    (after (.powerGatingDone T) (pw 0 (.entering 1)) (fun d => d.nat Od.powerState == 1 && d.power.change == .none) ∧ after (.powerGatingDone T) (pw 0 (.entering 4)) (fun d => d.nat Od.powerState == 4 && d.cntZero == none && (List.range 8).all fun n => !d.running n)) ∧
    (idles (.powerDelayElapsed T []) (pw 0 .none) ∧ idles (.quietEntryComplete T) (pw 0 .none) ∧ idles (.keepEntryComplete T) (pw 0 .none) ∧ idles (.powerGatingDone T) (pw 0 .none)) ∧
    (after (.powerRequestRun T .spi) (pw 0 (.entering 1) [(Od.powerQueued, 2)]) (fun d => d.nat Od.powerSuperseded == 1 && d.nat Od.powerQueued == 0 && d.bit Od.powerSticky Bit.powerSticky_Superseded) ∧ after (.powerRequestOff T .spi []) (pw 3 .none) (fun d => d.power.change == .entering 4 && d.nat Od.powerRequestResult == 2)) ∧
    (after (.powerRequestKeep T .spi []) (pw 0 .none) (fun d => d.md == Mode.holdover && d.nat Od.lastModeCause == 7 && d.power.change == .entering 3) ∧ after (.powerRequestOff T .spi []) (pw 0 .none) (fun d => d.power.change == .entering 4 && d.acc.sessions == [])) ∧
    (after (.powerRequestQuiet T .spi [(1, 5), (2, (pw 0 .none).dev.nat Od.powerDelayMax + 1)]) (pw 0 .none) (fun d => d.nat Od.powerRequestResult == 5 && d.nat Od.powerLastRefuser == 2 && d.power.change == .none)) ∧
    (after (.powerDelayElapsed T [(2, 1), (3, 99)]) (pw 0 (.waiting 2 T (T + ticksPerMs) [2])) (fun d => d.power.change == .waiting 2 (T + ticksPerMs) (T + ticksPerMs) [2]) ∧ after (.powerDelayElapsed T [(2, 1)]) (pw 0 (.waiting 2 T (T + ticksPerMs - 1) [2])) (fun d => d.power.change == .none && d.nat Od.powerRequestResult == 5 && d.nat Od.powerLastRefuser == 2) ∧ after (.powerDelayElapsed T []) (pw 0 (.waiting 2 T (T + 9) [2]) [(Od.opMode, 3)]) (fun d => d.power.change == .none && d.nat Od.powerRequestResult == 3)) := by decide +kernel

/-- States and operands that meet the hypotheses of every clause of WakesAndMemoryErrors, and what follows. -/
theorem witness_WakesAndMemoryErrors :
    (idles (.wakeTimer T) (pw 2 .none) ∧ after (.wakeTimer T) (pw 3 .none [(Od.wakeAt, tsNum (16 * second)), (Od.wakeSources, 2), (Od.wakeTarget, 2)]) (fun d => d.power.change == .waking 2 T && d.nat Od.lastWakeCause == 3)) ∧
    ((pw 3 (.waking 2 5)).dev.power.change = .waking 2 5 ∧ NothingDue (pw 3 (.waking 2 5)).dev ∧ (pw 3 (.waking 2 5)).dev.nat Od.powerQueued = 0xFF) ∧
    ((pw 3 (.waking 2 5)).dev.nat Od.wakeSupplyWait * ticksPerMs ≤ T - 5 ∧ after (.wakeFailed T) (pw 3 (.waking 2 5)) (fun d => d.nat Od.powerRequestResult == 6 && d.bit Od.powerSticky Bit.powerSticky_WakeFailed && d.power.change == .none && d.nat Od.powerState == 3) ∧ idles (.wakeFailed T) (pw 3 (.waking 2 (T - (pw 3 .none).dev.nat Od.wakeSupplyWait * ticksPerMs + 1))) ∧ idles (.wakeFailed T) (pw 3 .none)) ∧
    (after (.dramScrub (10 ^ 15) [(true, 9)]) (srv 5) (fun d => d.nat Od.dramEccCorrected == 1 && d.power.dramScrubAt == 10 ^ 15) ∧ idles (.dramScrub T []) (srv 5) ∧ after (.dramScrub (10 ^ 15) []) (srv 5) (fun d => only (srv 5).dev d [] [.power])) ∧
    (after (.sramScrub (3600 * ticksPerSec) [(false, 9)]) (srv 5) (fun d => d.nat Od.sramEccUncorrected == 1) ∧ idles (.sramScrub (3600 * ticksPerSec - 1) []) (srv 5)) ∧
    (after (.eccError T true true 9) (srv 5) (fun d => d.nat Od.dramEccCorrected == 1 && (d.flt.queue.map fun r => (r.src, r.detail)) == [(212, 9)]) ∧ after (.eccError T false false 9) (srv 5) (fun d => d.nat Od.sramEccUncorrected == 1 && (d.flt.queue.map fun r => (r.src, r.detail)) == [(215, 9)])) ∧
    (after (.wakeComplete T 3 []) (pw 3 (.waking 2 5) [(Od.retainMask, 2 ^ 32 - 1)]) (fun d => d.nat Od.powerState == 2 && d.power.change == .none && d.nat Od.retentionLost == 3 && d.nat (Od.coreState 0) == 3 && d.nat (Od.coreState 1) == 1) ∧ idles (.wakeComplete T 3 []) (pw 3 .none)) ∧
    (after (.eccError T true false 9) (srv 5) (fun d => d.nat Od.dramEccUncorrected == 1 && (d.flt.queue.map fun r => (r.src, r.detail)) == [(213, 9)]) ∧ after (.eccError T false true 9) (srv 5) (fun d => d.nat Od.sramEccCorrected == 1 && (d.flt.queue.map fun r => (r.src, r.detail)) == [(214, 9)])) := by decide +kernel

/-- An update in progress: its record at a step done, the engine's registers. -/
def up (done : Nat) (u : Update := {}) (l : List (Nat × Int) := []) : State :=
  srv 5 ([(Od.updateState, 2)] ++ l) fun d =>
    { d with update := u, acc := { d.acc with journal := [{ id := 8, kind := 2, total := 5, done, start := 5, last := 5 }] } }
def jr (done : Nat) : JRec := { id := 8, kind := 2, total := 5, done, start := 5, last := 5 }
/-- A staging buffer of two octets, full. -/
def stg : State := srv 5 [(Od.updateState, 1), (Od.updateReceived, 2)] fun d => { d with update := { kind := 5, total := 2, data := [(0, [1, 2])] } }

/-- States and operands that meet the hypotheses of every clause of UpdatesAreApplied, and what follows. -/
theorem witness_UpdatesAreApplied :
    (Accepted ((srv 5).reached T) .spi Od.updateBegin (5 * 256 ^ 7 + 2) ∧ after (.updateBegin T .spi (5 * 256 ^ 7 + 2)) (srv 5) (fun d => d.update == { kind := 5, total := 2 } && d.nat Od.updateState == 1 && d.nat Od.updateReceived == 0)) ∧
    (Accepted (stg.reached T) .spi Od.updateChunk (1 * 256 ^ 1020 + 1 * 256 ^ 1018 + 7 * 256 ^ 1015) ∧ after (.updateChunk T .spi (1 * 256 ^ 1020 + 1 * 256 ^ 1018 + 7 * 256 ^ 1015)) stg (fun d => stagedAt d.update.data 1 == some 7 && stagedAt d.update.data 0 == some 1 && d.nat Od.updateReceived == 2)) ∧
    (Accepted (stg.reached T) .spi Od.updateApply 0 ∧ after (.updateApply T .spi 0) stg (fun d => d.nat Od.updateState == 4 && d.nat Od.updateError == 1 && (d.acc.journal.map fun j => (j.kind, j.detail, j.outcome, j.done)) == [(2, 5, 3, 0)])) ∧
    ((up 1).dev.updateRec = some (jr 1) ∧ ((up 1).reached T).updateLate = false ∧ after (.updateBWritten T true true) (up 1) (fun d => d.nat Od.slotBSeq == max ((srv 5).dev.nat Od.slotASeq) ((srv 5).dev.nat Od.slotBSeq) + 1 && d.on Od.slotBValid && (d.acc.journal.map (·.done)) == [3]) ∧ after (.updateBWritten T false false) (up 1) (fun d => d.nat Od.updateState == 4 && d.nat Od.updateError == 5 && (d.acc.journal.map (·.outcome)) == [3])) ∧
    (after (.updateAWritten T true) (up 3 { noActivate := true }) (fun d => d.on Od.slotAValid && d.nat Od.updateState == 3 && (d.acc.journal.map fun j => (j.done, j.outcome)) == [(4, 2)]) ∧ after (.updateAWritten T false) (up 3) (fun d => !d.on Od.slotAValid && d.nat Od.updateState == 4 && d.nat Od.updateError == 5)) ∧
    (idles (.updateActivation T) (up 4 { at' := 17 * second }) ∧ after (.updateActivation T) (up 4 { kind := 5 }) (fun d => d.nat Od.updateState == 3 && (d.acc.journal.map fun j => (j.done, j.outcome)) == [(5, 2)])) ∧
    ((up 4 { kind := 2, at' := 16 * second }).dev.update.at' ≤ ((up 4).reached T).tsNow 0 ∧ (up 4 { kind := 2 }).dev.update.core = none ∧ (up 4 { kind := 2 }).dev.update.pipe = none) ∧
    ((∀ i < 4, (up 4 { kind := 4 }).dev.nat (Od.pipeState i) = 0) ∧ after (.updateActivation T) (up 4 { kind := 4 }) (fun d => d.update.pipe == some 0 && d.nat (Od.pipeState 0) == 1)) ∧
    (after (.coreRunning T 2) (up 4 { core := some 2 } [(Od.coreState 2, 3)]) (fun d => d.nat (Od.coreState 2) == 1 && d.nat Od.updateState == 3 && d.update.core == none && (d.acc.journal.map fun j => (j.done, j.outcome)) == [(5, 2)])) ∧
    ((srv 5).dev.updateRec = none ∧ idles (.updateBWritten T true true) (srv 5) ∧ idles (.updateAWritten T true) (srv 5) ∧ idles (.updateActivation T) (srv 5)) ∧
    (after (.pipelineReturnedActive T 3) (up 4 { kind := 4, pipe := some 3, version := 9 }) (fun d => d.nat (Od.pipeState 3) == 0 && d.nat Od.updateState == 3 && d.update.micro == 9 && d.update.pipe == none && (d.acc.journal.map fun j => (j.done, j.outcome)) == [(5, 2)]) ∧ after (.pipelineReturnedActive T 0) (up 4 { kind := 4, pipe := some 0 }) (fun d => d.update.pipe == some 1 && d.nat (Od.pipeState 1) == 1)) ∧
    (after (.updateActivation T) (up 4 { kind := 4 } [(Od.pipeState 2, 2)]) (fun d => d.nat Od.updateState == 4 && d.nat Od.updateError == 6) ∧ (up 4 { kind := 2, version := 7 }).dev.updateRec = some (jr 4)) ∧
    (((up 2 { kind := 3, at' := 16 * second }).reached T).updateLate = true ∧ after (.updateActivation T) (up 2 { kind := 3, at' := 16 * second }) (fun d => d.nat Od.updateState == 4 && d.nat Od.updateError == 6 && (d.acc.journal.map (·.outcome)) == [3]) ∧ idles (.updateActivation T) (up 2 { kind := 2, at' := 16 * second })) := by decide +kernel

/-- Every check of WellFormed refuses a unit just beyond its range. -/
theorem test_wf_refuses :
    (∀ c ∈ [.brownout 0 mainRails, .supplyOutOfRange 0 mainRails, .oapHello 0 18 0 0, .pskWrite 0 .spi 5 0,
   .incOwnerTake 0 .spi 8, .incOwnerRelease 0 .spi 8, .freqSteerWrite 0 .spi 8 0, .incWrite 0 .spi 8 0,
   .phaseAdjustWrite 0 .spi 8 0, .timeSet 0 .spi 8 0, .derivedWrite 0 .spi 8 none none none, .tsSourceWrite 0
   .spi 8 0, .derivedRealign 0 8, .refEnableWrite 0 .spi 16 0, .signalLoss 0 16, .holdoffElapsed 0 16,
   .qualifyTimeElapsed 0 16, .suspectClearTimeElapsed 0 16, .todMessage 0 8 [], .esmcPdu 0 16 0 0, .esmcTimeout
   0 16, .alignEnableWrite 0 .spi 8 0, .awlEdge 0 40 0 0 false none, .intervalEventRelease 0 40, .freqGateEnd 0 40,
   .histogramDone 0 86 [], .dllUnlock 0 86, .dllRelock 0 86, .lpdBurnishNow 0 .spi 22 0, .syncePhaseStamp 0 2 0
   0], Instr.wf c = false) ∧
    (∀ c ∈ [.gfeReplay 0 .spi 4 0, .acquisitionSearchDone 0 [⟨192, 0, 1, 0⟩] 0 0 0, .channelTrack 0 192,
   .channelLost 0 192 false, .navUnitDecoded 0 192 0 0 [], .gnssSolution 0 2 ⟨[], [], [], 0, 0, 0⟩, .solutionRecordArrival
   0 2, .surveyStart 0 .spi 2 0, .surveyDone 0 2, .antennaPositionWrite 0 .spi 2 0 0,
   .antennaPositionWrite 0 .spi 0 4 0, .resurveyDelayElapsed 0 2, .ifLevelFault 0 4 0, .tioPeriodicPulse 0 32,
   .todoutMessage 0 2, .schedEntryWrite 0 .spi 4096 0, .tioFunctionWrite 0 .spi 32 0, .osynEnableWrite 0 .spi 4
   0, .laneEnableWrite 0 .spi 22 0, .laneRestart 0 .spi 22 0, .laneCalibrationComplete 0 22 [] [], .linkUp 0 22
   [] 0, .linkDown 0 22, .laneDrainWrite 0 .spi 22 0, .laneLoopWrite 0 .spi 22 0, .eqEntryWrite 0 .spi 22 0 0,
   .eqEntryWrite 0 .spi 0 256 0, .rxLpiEntry 0 22, .rxLpiExit 0 22, .rxLpiSignalLoss 0 22], Instr.wf c = false) ∧
    (∀ c ∈ [.rxSignalDetected 0 22, .rxWakeLock 0 22 0, .rxQuietTimeout 0 22, .txLpiIdle 0 22, .txLpiWakeTrigger 0
   22, .txWakeComplete 0 22, .lpiRefresh 0 22, .wakePatternDetected 0 22 [], .wakeSendDone 0 22, .patModeWrite 0
   .spi 6 false 0, .patInjectOne 0 .spi 6 0, .patClear 0 .spi 6 0, .patLockLoss 0 6 0, .rxFrame 0 18 (rxG 64),
   .pauseFrameReceived 0 18 0 [], .txFrameCommit 0 18 txG, .launchTimeFrame 0 16 0 txG, .tsqRead 0 18, .txSlotWrite 0 16 0 0 none [], .txSlotWrite 0 0 64 0 none [], .preemptEnableWrite
   0 .spi 16 0, .preemptVerify 0 16 false, .gateEntry 0 16, .configChange 0 .spi 16 0, .gateConfigChangeTime 0
   16, .pauseTimerExpiry 0 16 0, .pauseTimerExpiry 0 0 8, .pauseWatchdogBreak 0 16 0, .pauseWatchdogBreak 0 0
   8], Instr.wf c = false) ∧
    (∀ c ∈ [.pauseBreakWindowEnd 0 16 0, .pauseBreakWindowEnd 0 0 8, .xoffRepeat 0 16 0 [], .xoffRepeat 0 0 8 [],
   .ownPauseBreak 0 16 0, .ownPauseBreak 0 0 8, .pipeDrainWrite 0 .spi 4 0, .pipeDrained 0 4, .ptpMulticastSync
   0 32, .ptpMulticastAnnounce 0 32, .pdelayReqSend 0 32, .delayReq 0 { fr with port := 16 } (pq true),
   .pdelayReq 0 { fr with port := 16 } (pq true), .pdelayResp 0 { fr with port := 16 } (pq true) 0,
   .requestUnicastTransmission 0 { fr with port := 16 } (pq true) [], .cancelUnicastTransmission 0 { fr with
   port := 16 } (pq true) 0, .foreignAnnounce 0 16 0, .instEnableWrite 0 .spi 32 0, .ptpAnnounceReceived 0 4 mf
   ann, .ptpSyncReceived 0 4 mf 0 false 0 0 none, .followUpReceived 0 4 mf 0 0 0 none, .delayRespReceived 0 4 mf
   0 0 0, .trkDelayReq 0 4, .trkGrantRenew 0 4, .sppKeySwitch 0 16, .ntpRequest 0 { fr with port := 16 } nq,
   .ntsRequest 0 { fr with port := 16 } nq (nx true), .ntsKeConnection 0 { fr with port := 16 } 0 false,
   .tamperEvent 0 8 0 false, .customerSignerHashWrite 0 .spi 4 0], Instr.wf c = false) ∧
    (∀ c ∈ [.securityFloorWrite 0 .spi 6 0, .faultReport 0 7 0, .reactSettleEnd 0 32, .sourceQuietPeriod 0 256,
   .sourceConfigWrite 0 .spi 256 0, .coreWatchdogExpiry 0 4, .pmcWrap 0 64, .pmcConfigWrite 0 .spi 64 0 0,
   .coreRunning 0 4, .pipelineReturnedActive 0 4, .trackerGrantReceived 0 4 mf 0 0, .supplyInRange 0 mainRails],
   Instr.wf c = false) := by decide +kernel

/-- The last unit of a range is accepted. -/
theorem test_wf_accepts :
    (Instr.wf (.awlEdge T 39 0 0 false none) = true ∧ Instr.wf (.laneRestart T .spi 21 1) = true ∧ Instr.wf (.pauseTimerExpiry T 15 7) = true ∧ Instr.wf (.faultReport T 255 0) = true) := by decide +kernel

end Sys2Proof.Tests
end

section
/-! SUPPORT. The clock of the device, that is its tick and the registers of the mode controller: what a row of Table 1-6 entails
beyond the row itself leaves them, so that no second row is taken in the cycle of the first (R29). -/

namespace Sys2Proof.Machine

/-- The tick and the registers of the mode controller: what `Dev.cycleTaken` and the queue of events read. -/
def Dev.clock (s : Dev) : Nat × ModeRegs := (s.tick, s.mode)

theorem Dev.clock_congr {s s' : Dev} (ht : s'.tick = s.tick) (hm : s'.mode = s.mode) : s'.clock = s.clock := by
  rw [Dev.clock, ht, hm, Dev.clock]

theorem Dev.mode_of_clock {s s' : Dev} (h : s'.clock = s.clock) : s'.mode = s.mode := congrArg Prod.snd h

theorem Dev.cycleTaken_of_clock {s s' : Dev} (h : s'.clock = s.clock) : s'.cycleTaken = s.cycleTaken := by
  have ht : s'.tick = s.tick := congrArg Prod.fst h
  rw [Dev.cycleTaken, ht, Dev.mode_of_clock h, Dev.cycleTaken]

/-! ### Updates of a part -/

@[simp] theorem Dev.put_clock (s : Dev) (k : Nat) (v : Int) : (s.put k v).clock = s.clock := Dev.clock_congr rfl rfl
@[simp] theorem Dev.flag_clock (s : Dev) (k i : Nat) : (s.flag k i).clock = s.clock := Dev.clock_congr rfl rfl
@[simp] theorem Dev.unflag_clock (s : Dev) (k i : Nat) : (s.unflag k i).clock = s.clock := Dev.clock_congr rfl rfl
@[simp] theorem Dev.putBit_clock (s : Dev) (k i : Nat) (b : Bool) : (s.putBit k i b).clock = s.clock :=
  Dev.clock_congr rfl rfl
@[simp] theorem Dev.bump_clock (s : Dev) (k : Nat) : (s.bump k).clock = s.clock := Dev.clock_congr rfl rfl
@[simp] theorem Dev.emit_clock (s : Dev) (m : Msg) : (s.emit m).clock = s.clock := Dev.clock_congr rfl rfl
@[simp] theorem Dev.report_clock (s : Dev) (src detail : Nat) : (s.report src detail).clock = s.clock :=
  Dev.clock_congr rfl rfl
@[simp] theorem Dev.modKeep_clock (s : Dev) (f : Keeper → Keeper) : (s.modKeep f).clock = s.clock := Dev.clock_congr rfl rfl
@[simp] theorem Dev.modEbe_clock (s : Dev) (f : Ebe → Ebe) : (s.modEbe f).clock = s.clock := Dev.clock_congr rfl rfl
@[simp] theorem Dev.modScale_clock (s : Dev) (n : Nat) (f : Scale → Scale) : (s.modScale n f).clock = s.clock :=
  Dev.clock_congr rfl rfl
@[simp] theorem Dev.mark_clock (s : Dev) (n val inc : Nat) : (s.mark n val inc).clock = s.clock := Dev.clock_congr rfl rfl
@[simp] theorem Dev.modFrec_clock (s : Dev) (n : Nat) (f : FRec → FRec) : (s.modFrec n f).clock = s.clock :=
  Dev.clock_congr rfl rfl
@[simp] theorem Dev.modRr_clock (s : Dev) (m : Nat) (f : RefReg → RefReg) : (s.modRr m f).clock = s.clock :=
  Dev.clock_congr rfl rfl
@[simp] theorem Dev.modTio_clock (s : Dev) (n : Nat) (f : Tio → Tio) : (s.modTio n f).clock = s.clock :=
  Dev.clock_congr rfl rfl
@[simp] theorem Dev.modSched_clock (s : Dev) (n : Nat) (f : SchedE → SchedE) : (s.modSched n f).clock = s.clock :=
  Dev.clock_congr rfl rfl
@[simp] theorem Dev.modLane_clock (s : Dev) (l : Nat) (f : LaneReg → LaneReg) : (s.modLane l f).clock = s.clock :=
  Dev.clock_congr rfl rfl
@[simp] theorem Dev.modAntenna_clock (s : Dev) (a : Nat) (f : Antenna → Antenna) : (s.modAntenna a f).clock = s.clock :=
  Dev.clock_congr rfl rfl
@[simp] theorem Dev.latchBound_clock (s : Dev) (n : Nat) : (s.latchBound n).clock = s.clock := Dev.clock_congr rfl rfl
@[simp] theorem Dev.endHoldover_clock (s : Dev) : s.endHoldover.clock = s.clock := by simp [Dev.endHoldover]
@[simp] theorem Dev.dropPoints_clock (s : Dev) : s.dropPoints.clock = s.clock := by simp [Dev.dropPoints]
@[simp] theorem Dev.putUncertainties_clock (s : Dev) (u : Nat × Nat × Nat) : (s.putUncertainties u).clock = s.clock := by
  simp [Dev.putUncertainties]
@[simp] theorem Dev.startGrowth_clock (s : Dev) : s.startGrowth.clock = s.clock := by simp [Dev.startGrowth]
@[simp] theorem Dev.startHoldover_clock (s : Dev) : s.startHoldover.clock = s.clock := by simp [Dev.startHoldover]
@[simp] theorem Dev.showServo_clock (s : Dev) (n : Nat) : (s.showServo n).clock = s.clock := by simp [Dev.showServo]
@[simp] theorem Dev.endLock_clock (s : Dev) (n : Nat) : (s.endLock n).clock = s.clock := by simp [Dev.endLock]
@[simp] theorem Dev.noSlew_clock (s : Dev) (n : Nat) : (s.noSlew n).clock = s.clock := by simp [Dev.noSlew]
@[simp] theorem Dev.showInc_clock (s : Dev) (n inc : Nat) : (s.showInc n inc).clock = s.clock := by simp [Dev.showInc]
@[simp] theorem Dev.dropSearches_clock (s : Dev) (f : Nat → Bool) : (s.dropSearches f).clock = s.clock :=
  Dev.clock_congr rfl rfl
@[simp] theorem Dev.countTracking_clock (s : Dev) (k : Nat) : (s.countTracking k).clock = s.clock := by
  simp [Dev.countTracking]
@[simp] theorem Dev.gfeSend_clock (s : Dev) (sel : Nat) (bs : List Byte) : (s.gfeSend sel bs).clock = s.clock := by
  simp [Dev.gfeSend]
@[simp] theorem Dev.patSettle_clock (s : Dev) (i : Nat) : (s.patSettle i).clock = s.clock := by simp [Dev.patSettle]
@[simp] theorem Dev.forgetPassed_clock (s : Dev) : s.forgetPassed.clock = s.clock := by simp [Dev.forgetPassed]

@[simp] theorem Dev.ite_clock (c : Prop) [Decidable c] (x y : Dev) :
    (if c then x else y).clock = if c then x.clock else y.clock := apply_ite Dev.clock c x y

@[simp] theorem Dev.when_clock (s : Dev) (b : Bool) {f : Dev → Dev} (hf : ∀ d : Dev, (f d).clock = d.clock) :
    (s.when b f).clock = s.clock := by
  cases b
  · rfl
  · exact hf s

@[simp] theorem Dev.each_clock {α : Type} {f : Dev → α → Dev} (hf : ∀ d x, (f d x).clock = d.clock) (l : List α) :
    ∀ s : Dev, (s.each l f).clock = s.clock := by
  induction l with
  | nil => exact fun _ => rfl
  | cons x l ih => exact fun s => (ih (f s x)).trans (hf s x)

/-! ### What the entry to a mode entails -/

@[simp] theorem Dev.live_clock (s : Dev) (src detail : Nat) (b : Bool) : (s.live src detail b).clock = s.clock := by
  simp [Dev.live]
@[simp] theorem Dev.leaveHold_clock (s : Dev) (a m : Nat) (fresh : Bool) : (s.leaveHold a m fresh).clock = s.clock := by
  simp [Dev.leaveHold]

@[simp] theorem Dev.takeLoSource_clock (s : Dev) : s.takeLoSource.clock = s.clock := by simp [Dev.takeLoSource]
@[simp] theorem Dev.resetModel_clock (s : Dev) : s.resetModel.clock = s.clock := by simp [Dev.resetModel]
@[simp] theorem Dev.restoreModel_clock (s : Dev) (changed : Bool) : (s.restoreModel changed).clock = s.clock := by
  unfold Dev.restoreModel
  split <;> simp

@[simp] theorem Dev.passEntry_clock (s : Dev) (new : Int) (e : Nat) : (s.passEntry new e).clock = s.clock := by
  simp [Dev.passEntry]
@[simp] theorem Dev.acrossStep_clock (s : Dev) (n : Nat) (old new : Int) : (s.acrossStep n old new).clock = s.clock := by
  simp [Dev.acrossStep]
@[simp] theorem Dev.startTs_clock (s : Dev) (n val inc : Nat) : (s.startTs n val inc).clock = s.clock := by simp [Dev.startTs]
@[simp] theorem Dev.startScale_clock (s : Dev) (n : Nat) : (s.startScale n).clock = s.clock := by
  unfold Dev.startScale
  dsimp only
  split
  · rfl
  · split <;> split <;> simp

@[simp] theorem Dev.patternsOff_clock (s : Dev) (l : Nat) : (s.patternsOff l).clock = s.clock := by simp [Dev.patternsOff]
@[simp] theorem Dev.eyeAbort_clock (s : Dev) (l : Nat) : (s.eyeAbort l).clock = s.clock := by simp [Dev.eyeAbort]
@[simp] theorem Dev.laneTo_clock (s : Dev) (l st : Nat) : (s.laneTo l st).clock = s.clock := by simp [Dev.laneTo]
@[simp] theorem Dev.portFollows_clock (s : Dev) (l : Nat) : (s.portFollows l).clock = s.clock := by
  unfold Dev.portFollows
  extract_lets p pcs mode s'
  have h : s'.clock = s.clock := s.put_clock _ _
  split
  · rfl
  · split
    · exact h
    · clear_value s' mode
      split <;> simp [h]
@[simp] theorem Dev.eqPending_clock (s : Dev) (l : Nat) : (s.eqPending l).clock = s.clock := by simp [Dev.eqPending]
@[simp] theorem Dev.laneCalibrate_clock (s : Dev) (l : Nat) : (s.laneCalibrate l).clock = s.clock := by
  simp [Dev.laneCalibrate]
@[simp] theorem Dev.startLanes_clock (s : Dev) : s.startLanes.clock = s.clock := by simp [Dev.startLanes]

@[simp] theorem Dev.queueSearch_clock (s : Dev) (q : Search) : (s.queueSearch q).clock = s.clock := by
  unfold Dev.queueSearch
  split <;> rfl
@[simp] theorem Dev.searchAgain_clock (s : Dev) (c : Nat) : (s.searchAgain c).clock = s.clock := s.queueSearch_clock _
@[simp] theorem Dev.stopChannels_clock (s : Dev) (k st : Nat) : (s.stopChannels k st).clock = s.clock := by
  simp [Dev.stopChannels]
@[simp] theorem Dev.playScript_clock (s : Dev) (k : Nat) : (s.playScript k).clock = s.clock := by simp [Dev.playScript]
@[simp] theorem Dev.playScripts_clock (s : Dev) : s.playScripts.clock = s.clock := by simp [Dev.playScripts]

@[simp] theorem Dev.enterCalibrate_clock (s : Dev) : s.enterCalibrate.clock = s.clock := by
  unfold Dev.enterCalibrate
  extract_lets s1 fresh changed s2 f s3 s4
  have h1 : s1.clock = s.clock := by
    unfold s1
    split <;> rfl
  have h2 : s2.clock = s.clock := by simp [s2, h1]
  have h3 : s3.clock = s.clock := by simp [s3, h2]
  have h4 : s4.clock = s.clock := by simp [s4, h3]
  exact (Dev.clock_congr rfl rfl).trans h4
@[simp] theorem Dev.beginMode_clock (s : Dev) (m : Nat) : (s.beginMode m).clock = s.clock := by simp [Dev.beginMode]

@[simp] theorem Dev.reanchor_clock (s : Dev) : s.reanchor.clock = s.clock := by simp [Dev.reanchor]
/-- Each stage of a change of owner leaves the clock: objects, slew, integrator, lock, the Keeper's registers. -/
@[simp] theorem Dev.setOwner_clock (s : Dev) (n o : Nat) : (s.setOwner n o).clock = s.clock := by
  unfold Dev.setOwner
  extract_lets was held f s1 s2 s3 s4 m s5 s6 s7 s8 s9
  have h1 : s1.clock = s.clock := by simp [s1]
  have h2 : s2.clock = s.clock := by simp [s2, h1]
  have h3 : s3.clock = s.clock := by simp [s3, h2]
  have h4 : s4.clock = s.clock := by simp [s4, h3]
  have h5 : s5.clock = s.clock := by simp [s5, h4]
  have h6 : s6.clock = s.clock := by simp [s6, h5]
  have h9 : s9.clock = s.clock := by
    unfold s9
    split
    · exact h4
    · split
      · exact (Dev.live_clock _ _ _ _).trans h6
      · split <;> simp [h4, s8]
  split
  · rfl
  · exact (s9.showServo_clock n).trans h9
@[simp] theorem Dev.ownersFor_clock (s : Dev) (m : Nat) : (s.ownersFor m).clock = s.clock := by
  unfold Dev.ownersFor
  split <;> simp
@[simp] theorem Dev.enterHold_clock (s : Dev) (m : Nat) (fresh kept : Bool) : (s.enterHold m fresh kept).clock = s.clock := by
  simp [Dev.enterHold]

@[simp] theorem Dev.cutPulse_clock (s : Dev) (n : Nat) : (s.cutPulse n).clock = s.clock := by simp [Dev.cutPulse]
@[simp] theorem Dev.holdOutputs_clock (s : Dev) (m : Nat) : (s.holdOutputs m).clock = s.clock := by simp [Dev.holdOutputs]
@[simp] theorem Dev.startOsyn_clock (s : Dev) (i : Nat) : (s.startOsyn i).clock = s.clock := by simp [Dev.startOsyn]
@[simp] theorem Dev.resumeOutputs_clock (s : Dev) (m : Nat) : (s.resumeOutputs m).clock = s.clock := by
  simp [Dev.resumeOutputs]
@[simp] theorem Dev.outputsBetween_clock (s : Dev) (a m : Nat) : (s.outputsBetween a m).clock = s.clock := by
  simp [Dev.outputsBetween]

@[simp] theorem Dev.noteBoot_clock (s : Dev) (m : Nat) : (s.noteBoot m).clock = s.clock := by simp [Dev.noteBoot]
@[simp] theorem Dev.runTimers_clock (s : Dev) (run : Bool) : (s.runTimers run).clock = s.clock := by simp [Dev.runTimers]
@[simp] theorem Dev.cinchChange_clock (s : Dev) (ran : Bool) : (s.cinchChange ran).clock = s.clock := by
  simp [Dev.cinchChange]
@[simp] theorem Dev.serviceUpdate_clock (s : Dev) : s.serviceUpdate.clock = s.clock := by
  simp [Dev.serviceUpdate, Dev.clock, apply_ite Dev.tick, apply_ite Dev.mode]
@[simp] theorem Dev.aliveUpdate_clock (s : Dev) : s.aliveUpdate.clock = s.clock := by
  simp [Dev.aliveUpdate, Dev.clock, apply_ite Dev.tick, apply_ite Dev.mode]

@[simp] theorem Dev.phaseDone_clock (s : Dev) (a : Nat) : (s.phaseDone a).clock = s.clock := by simp [Dev.phaseDone]

/-- The mode registers after a row are those the row itself writes. -/
theorem Dev.enterMode_clock (s : Dev) (m cause : Nat) (bits : List Nat) (fresh : Bool) :
    (s.enterMode m cause bits fresh).clock = (s.rowOf m cause bits).clock := by
  simp [Dev.enterMode]

end Sys2Proof.Machine
end

section
/-! SUPPORT. The mode controller: what a row writes, which of the events that wait is evaluated (R29), and what a host request
comes to (R35, R36). -/

namespace Sys2Proof.Machine

/-! ### What a row writes -/

/-- A row writes of the objects of area 10 its own four alone. -/
theorem Dev.enterMode_num_low (s : Dev) (m cause : Nat) (bits : List Nat) (fresh : Bool) {k : Nat} (hk : k < 0x110000)
    (hrow : k ∉ [Od.opMode, Od.modeSince, Od.lastModeCause, Od.modeSticky]) :
    (s.enterMode m cause bits fresh).num k = s.num k := by
  simp only [List.mem_cons, List.not_mem_nil, or_false, not_or] at hrow
  obtain ⟨hmode, hsince, hcause, hsticky⟩ := hrow
  refine (Low.enterMode (s := s) m cause bits fresh k hk).trans ?_
  change (s.rowOf m cause bits).num k = s.num k
  unfold Dev.rowOf
  rw [each_flag_num_ne _ hsticky]
  simp only [Dev.modeRow, Dev.emit_num]
  change ((((_ : Dev).put Od.opMode m).put Od.modeSince _).put Od.lastModeCause _).num k = s.num k
  rw [Dev.num_put_ne _ _ hcause, Dev.num_put_ne _ _ hsince, Dev.num_put_ne _ _ hmode]
  split
  · rfl
  · exact Low.phaseDone s.md (Low.refl s.od) k hk

/-- A row that stays in its mode writes what a row writes, and nothing else. -/
theorem Dev.enterMode_same {s : Dev} {m : Nat} (h : s.md = m) (cause : Nat) (bits : List Nat) (fresh : Bool) :
    s.enterMode m cause bits fresh = (s.modeRow m cause).each bits fun s b => s.flag Od.modeSticky b := by
  simp [Dev.enterMode, Dev.rowOf, h]

/-- A row takes the cycle it comes about in. -/
theorem Dev.enterMode_cycleTaken (s : Dev) (m cause : Nat) (bits : List Nat) (fresh : Bool) :
    (s.enterMode m cause bits fresh).cycleTaken = true := by
  have hrow (d : Dev) : (d.modeRow m cause).cycleTaken = true := by simp [Dev.modeRow, Dev.cycleTaken]
  rw [Dev.cycleTaken_of_clock (s.enterMode_clock m cause bits fresh), Dev.rowOf,
    Dev.cycleTaken_of_clock (Dev.each_clock (fun d b => d.flag_clock _ b) bits _)]
  exact hrow _

/-- A row leaves the queue of events. -/
theorem Dev.enterMode_queue (s : Dev) (m cause : Nat) (bits : List Nat) (fresh : Bool) :
    (s.enterMode m cause bits fresh).mode.queue = s.mode.queue := by
  have hphase : (if s.md = m then s else s.phaseDone s.md).mode = s.mode := Dev.mode_of_clock (by simp)
  rw [Dev.mode_of_clock (s.enterMode_clock m cause bits fresh), Dev.rowOf,
    Dev.mode_of_clock (Dev.each_clock (fun d b => d.flag_clock _ b) bits _)]
  change (if s.md = m then s else s.phaseDone s.md).mode.queue = s.mode.queue
  rw [hphase]

/-! ### Events that wait (R29) -/

/-- The device with another queue of events. -/
def Dev.withQueue (s : Dev) (q : List ModeEvent) : Dev := { s with mode := { s.mode with queue := q } }

@[simp] theorem Dev.withQueue_num (s : Dev) (q : List ModeEvent) (k : Nat) : (s.withQueue q).num k = s.num k := rfl
@[simp] theorem Dev.withQueue_queue (s : Dev) (q : List ModeEvent) : (s.withQueue q).mode.queue = q := rfl
@[simp] theorem Dev.withQueue_cycleTaken (s : Dev) (q : List ModeEvent) : (s.withQueue q).cycleTaken = s.cycleTaken := rfl

theorem ModeEvent.priority_of_isRequest {e : ModeEvent} (h : e.isRequest = true) : e.priority = 7 := by
  cases e with
  | request => rfl
  | _ => cases h

/-- Host requests come last of all events. -/
theorem leastPriority_of_requests {q : List ModeEvent} (hq : ∀ e ∈ q, e.isRequest = true) : leastPriority q = 7 := by
  unfold leastPriority
  induction q with
  | nil => rfl
  | cons e q ih =>
    rw [List.foldl_cons, ModeEvent.priority_of_isRequest (hq e List.mem_cons_self)]
    exact ih fun r hr => hq r (List.mem_cons_of_mem _ hr)

/-- An event behind host requests is the first of its priority, where that is not theirs. -/
theorem takeFirst_after_requests {q : List ModeEvent} {e : ModeEvent} {p : Nat} (he : e.priority = p) (hp : p ≠ 7)
    (hq : ∀ r ∈ q, r.isRequest = true) : takeFirst p (q ++ [e]) = (some e, q) := by
  induction q with
  | nil => simp [takeFirst, he]
  | cons r q ih =>
    have hr : r.priority ≠ p := by
      rw [ModeEvent.priority_of_isRequest (hq r List.mem_cons_self)]
      exact hp.symm
    rw [List.cons_append, takeFirst, if_neg hr, ih fun r hr => hq r (List.mem_cons_of_mem _ hr)]

/-- Once a row was taken in this cycle nothing further is evaluated. -/
theorem Dev.serveEvents_of_taken (n : Nat) {s : Dev} (h : s.cycleTaken = true) : s.serveEvents n = s := by
  cases n with
  | zero => rfl
  | succ n => rw [Dev.serveEvents, if_pos h]

/-- One event is looked at: the first of the least priority number. -/
theorem Dev.serveEvents_succ (n : Nat) {s : Dev} {e : ModeEvent} {q : List ModeEvent} (h : s.cycleTaken = false)
    (hq : takeFirst (leastPriority s.mode.queue) s.mode.queue = (some e, q)) :
    s.serveEvents (n + 1) = Dev.serveEvents n (((s.withQueue q).modeEvent e).getD (s.withQueue q)) := by
  rw [Dev.serveEvents, if_neg (by simp [h]), hq]
  rfl

/-- A host request that waits alone is evaluated: the queue is empty then, and ModeRequestResult reads its outcome. -/
theorem Dev.servePending_request {s : Dev} {code arm : Nat} (h : s.cycleTaken = false)
    (hq : s.mode.queue = [.request code arm]) :
    s.servePending = ((s.withQueue []).requestRow code arm).1.put Od.modeRequestResult
      ((s.withQueue []).requestRow code arm).2 := by
  rw [Dev.servePending, hq]
  exact Dev.serveEvents_succ (e := .request code arm) (q := []) 0 h
    (by simp [hq, leastPriority, takeFirst, ModeEvent.priority])

/-- A timeout that a row takes comes before the host requests that wait, and the row ends the cycle. -/
theorem Dev.post_timeout {s s' : Dev} {e : ModeEvent} (he : e.priority = 6) (h : s.cycleTaken = false)
    (hq : ∀ r ∈ s.mode.queue, r.isRequest = true) (hrow : s.modeEvent e = some s') (ht : s'.cycleTaken = true) :
    s.post e = s' := by
  have hleast : leastPriority (s.mode.queue ++ [e]) = 6 := by
    have := leastPriority_of_requests hq
    unfold leastPriority at this ⊢
    rw [List.foldl_append, this]
    simp [he]
  have hfirst : takeFirst (leastPriority (s.mode.queue ++ [e])) (s.mode.queue ++ [e]) = (some e, s.mode.queue) := by
    rw [hleast]
    exact takeFirst_after_requests he (by decide) hq
  change (s.withQueue (s.mode.queue ++ [e])).servePending = s'
  rw [Dev.servePending, Dev.withQueue_queue, List.length_append, List.length_singleton,
    Dev.serveEvents_succ (s := s.withQueue (s.mode.queue ++ [e])) _ h hfirst]
  change Dev.serveEvents _ ((s.modeEvent e).getD s) = s'
  rw [hrow]
  exact Dev.serveEvents_of_taken _ ht

/-! ### Host requests (R35, R36) -/

/-- A request that still waits as another one comes reads SUPERSEDED. -/
def Dev.superseded (s : Dev) : Dev := if s.mode.queue.any (·.isRequest) then s.put Od.modeRequestResult 5 else s

/-- What a request makes of the device before it is evaluated: no other request waits, and its result reads PENDING. -/
def Dev.requested (s : Dev) : Dev := (s.superseded.withQueue []).put Od.modeRequestResult 1

theorem Dev.superseded_num (s : Dev) {k : Nat} (hk : k ≠ Od.modeRequestResult) : s.superseded.num k = s.num k := by
  unfold Dev.superseded
  split
  · exact Dev.num_put_ne _ _ hk
  · rfl

@[simp] theorem Dev.superseded_clock (s : Dev) : s.superseded.clock = s.clock := by simp [Dev.superseded]

@[simp] theorem Dev.superseded_scales (s : Dev) : s.superseded.scales = s.scales := by
  unfold Dev.superseded
  split <;> rfl

theorem Dev.requested_num (s : Dev) {k : Nat} (hk : k ≠ Od.modeRequestResult) : s.requested.num k = s.num k := by
  rw [Dev.requested, Dev.num_put_ne _ _ hk, Dev.withQueue_num, s.superseded_num hk]

theorem Dev.requested_nat (s : Dev) {k : Nat} (hk : k ≠ Od.modeRequestResult) : s.requested.nat k = s.nat k :=
  congrArg Int.toNat (s.requested_num hk)

@[simp] theorem Dev.requested_md (s : Dev) : s.requested.md = s.md := s.requested_nat (by decide)

theorem Dev.requested_on (s : Dev) {k : Nat} (hk : k ≠ Od.modeRequestResult) : s.requested.on k = s.on k :=
  congrArg (· != 0) (s.requested_num hk)

/-- A request leaves what decides where SAFE leads (R31). -/
theorem Dev.requested_safeExit (s : Dev) : s.requested.safeExit = s.safeExit := by
  have hsel : s.requested.selected = s.selected := by
    unfold Dev.selected
    rw [s.requested_nat (by decide)]
  have hscale : s.requested.scale 0 = s.scale 0 := congrArg (fun l => Tab.get (fun _ => ({} : Scale)) l 0) s.superseded_scales
  have hlocked : s.requested.mode.wasLocked = s.mode.wasLocked :=
    congrArg (fun c => c.2.wasLocked) s.superseded_clock
  rw [Dev.safeExit, hsel, hscale, hlocked, Dev.safeExit]

/-- A host request, where no row was taken in this cycle and no other event waits: it is evaluated at once. -/
theorem Dev.hostRequest_eq {s : Dev} (h : s.cycleTaken = false) (hq : ∀ e ∈ s.mode.queue, e.isRequest = true) (code : Nat) :
    s.hostRequest code = (s.requested.requestRow code (s.nat Od.modeArm)).1.put Od.modeRequestResult
      (s.requested.requestRow code (s.nat Od.modeArm)).2 := by
  have hfilter : (s.mode.queue.filter fun e => !e.isRequest) = [] := by simpa using hq
  have harm : s.superseded.nat Od.modeArm = s.nat Od.modeArm := congrArg Int.toNat (s.superseded_num (by decide))
  have htaken : s.requested.cycleTaken = false := (Dev.cycleTaken_of_clock s.superseded_clock).trans h
  have hpost : s.hostRequest code = s.requested.post (.request code (s.nat Od.modeArm)) := by
    rw [← harm]
    change ((s.superseded.withQueue (s.superseded.mode.queue.filter fun e => !e.isRequest)).put Od.modeRequestResult 1).post
      (.request code (s.superseded.nat Od.modeArm)) = _
    rw [Dev.mode_of_clock s.superseded_clock, hfilter]
    rfl
  rw [hpost]
  exact Dev.servePending_request (s := s.requested.withQueue [.request code (s.nat Od.modeArm)]) htaken rfl

end Sys2Proof.Machine
end

section
/-! SUPPORT. The rows of the host's requests (R36), and what an accepted write of ModeRequest leaves to read. -/

namespace Sys2Proof.Machine

/-! ### The rows of the requests (R36, R38) -/

/-- CALIBRATE and TEST are closed to a SCRAPPED chip alone (Table 1-8). -/
theorem Dev.lifeAllows_early (s : Dev) {m : Nat} (hm : m = Mode.calibrate ∨ m = Mode.test) :
    s.lifeAllows m = decide (s.nat Od.lifeCycleState ≠ 4) := by
  unfold Dev.lifeAllows
  split
  · next h => rcases hm with rfl | rfl <;> rw [h] <;> rfl
  · next h => rcases hm with rfl | rfl <;> rw [h] <;> rfl
  · next h => exact (decide_eq_true (p := s.nat Od.lifeCycleState ≠ 4) h).symm

/-- The modes that SAFE leads to are closed to a RETURNED and to a SCRAPPED chip (Table 1-8). -/
theorem Dev.lifeAllows_late (s : Dev) {m : Nat} (hm : m ∈ [Mode.locked, Mode.holdover, Mode.freerun, Mode.resync]) :
    s.lifeAllows m = decide ¬(s.nat Od.lifeCycleState = 3 ∨ s.nat Od.lifeCycleState = 4) := by
  simp only [List.mem_cons, List.not_mem_nil, or_false] at hm
  unfold Dev.lifeAllows
  split
  · next h => rcases hm with rfl | rfl | rfl | rfl <;> rw [h] <;> rfl
  · next h => rcases hm with rfl | rfl | rfl | rfl <;> rw [h] <;> rfl
  · next h3 h4 => exact (decide_eq_true (not_or.2 ⟨h3, h4⟩)).symm

theorem Dev.safeExit_mem (s : Dev) : s.safeExit ∈ [Mode.locked, Mode.holdover, Mode.freerun, Mode.resync] := by
  unfold Dev.safeExit
  split
  · decide
  · split <;> decide

theorem Dev.requestRow_proceed (s : Dev) (arm : Nat) :
    s.requestRow 1 arm = if s.md = Mode.configure then
      if s.nat Od.lifeCycleState = 4 then (s, 4) else (s.enterMode Mode.calibrate 2 [], 0)
    else (s, 2) := by
  simp [Dev.requestRow, s.lifeAllows_early (.inl rfl)]

theorem Dev.requestRow_enterTest (s : Dev) (arm : Nat) :
    s.requestRow 2 arm =
      if s.md = Mode.configure ∨ (s.md ∈ serviceModes ∧ arm.testBit Bit.modeArm_TestFromService = true) then
        if s.nat Od.lifeCycleState = 4 then (s, 4) else (s.enterMode Mode.test 10 [Bit.modeSticky_TestEntered], 0)
      else (s, if s.md ∈ serviceModes then 3 else 2) := by
  by_cases hc : s.md = Mode.configure
  · simp [Dev.requestRow, s.lifeAllows_early (.inr rfl), hc]
  · by_cases hs : s.md ∈ serviceModes
    · cases ha : arm.testBit Bit.modeArm_TestFromService <;>
        simp [Dev.requestRow, s.lifeAllows_early (.inr rfl), hc, hs, ha]
    · simp [Dev.requestRow, hc, hs]

theorem Dev.requestRow_leaveTest (s : Dev) (arm : Nat) :
    s.requestRow 3 arm = if s.md = Mode.test then
      if s.nat Od.lifeCycleState = 4 then (s, 4) else (s.removeLoops.enterMode Mode.calibrate 10 [], 0)
    else (s, 2) := by
  simp [Dev.requestRow, s.lifeAllows_early (.inl rfl)]

theorem Dev.requestRow_leaveSafe (s : Dev) (arm : Nat) :
    s.requestRow 4 arm = if s.md = Mode.safe ∧ s.nat Od.girthLevel ≠ 4 then
      if s.nat Od.lifeCycleState = 3 ∨ s.nat Od.lifeCycleState = 4 then (s, 4)
      else if s.on Od.pairEnable then (((s.put Od.pairRole 2).enterMode Mode.resync 12 []).startResync, 0)
      else (s.enterMode s.safeExit 10 [], 0)
    else (s, 2) := by
  have hlife := s.lifeAllows_late (m := if s.on Od.pairEnable then Mode.resync else s.safeExit) (by
    split
    · decide
    · exact s.safeExit_mem)
  have hguard : (s.md ≠ Mode.safe ∨ s.nat Od.girthLevel = 4) ↔
      ¬(s.md = Mode.safe ∧ s.nat Od.girthLevel ≠ 4) :=
    (Decidable.not_and_iff_not_or_not.trans (or_congr_right Decidable.not_not)).symm
  unfold Dev.requestRow
  dsimp only
  rw [hlife]
  simp only [hguard, ite_not, Bool.not_eq_eq_eq_not, Bool.not_true, decide_eq_false_iff_not,
    Decidable.not_not]
  by_cases hp : s.on Od.pairEnable = true <;> simp [hp]

/-! ### An accepted write of ModeRequest -/

/-- What an accepted request that came to a state and an outcome leaves to read: ModeRequestResult is the outcome, the other
objects of area 10 are those of that state. -/
structure Answered (r : Dev × Nat) (d : Dev) : Prop where
  result : d.nat Od.modeRequestResult = r.2
  low : ∀ k < 0x110000, k ≠ Od.modeRequestResult → d.num k = r.1.num k

namespace Answered
variable {e d : Dev} {outcome : Nat}

/-- It is so where the objects of area 10 are those of that state with the outcome written to ModeRequestResult. -/
theorem of_low {r : Dev × Nat} (h : ∀ k < 0x110000, d.num k = (r.1.put Od.modeRequestResult r.2).num k) : Answered r d where
  result := congrArg Int.toNat ((h _ (by decide)).trans (Dev.num_put_self ..))
  low := fun k hk hne => (h k hk).trans (Dev.num_put_ne _ _ hne)

theorem nat (h : Answered (e, outcome) d) {k : Nat} (hk : k < 0x110000) (hne : k ≠ Od.modeRequestResult) :
    d.nat k = e.nat k := congrArg Int.toNat (h.low k hk hne)

/-- A request that no row accepts leaves the mode. -/
theorem refused (h : Answered (e.requested, outcome) d) : d.md = e.md ∧ d.nat Od.modeRequestResult = outcome :=
  ⟨(h.nat (by decide) (by decide)).trans e.requested_md, h.result⟩

variable {m cause : Nat} {bits : List Nat}

/-- A request whose row leads to a mode. -/
theorem entered (h : Answered (e.enterMode m cause bits, outcome) d) : d.md = m ∧ d.nat Od.modeRequestResult = outcome :=
  ⟨(h.nat (by decide) (by decide)).trans (e.enterMode_md ..), h.result⟩

theorem entered_cause (h : Answered (e.enterMode m cause bits, outcome) d) : d.nat Od.lastModeCause = cause :=
  (h.nat (by decide) (by decide)).trans (congrArg Int.toNat (e.enterMode_cause ..))

theorem entered_sticky (h : Answered (e.enterMode m cause bits, outcome) d) {i : Nat} (hi : i ∈ bits) :
    d.bit Od.modeSticky i = true := by
  have hd : d.bit Od.modeSticky i = (e.enterMode m cause bits).bit Od.modeSticky i :=
    congrArg (Nat.testBit · i) (h.nat (by decide) (by decide))
  rw [hd, Dev.enterMode_sticky, List.contains_iff_mem.2 hi, Bool.or_true]

/-- The start of a resynchronisation writes no object of area 10. -/
theorem of_startResync (h : Answered (e.startResync, outcome) d) : Answered (e, outcome) d :=
  ⟨h.result, fun k hk hne => (h.low k hk hne).trans (Low.startResync (Low.refl e.od) k hk)⟩

end Answered

/-- The entry into the input log of a pair writes no object of area 10. -/
theorem Low.logWrite {z : Tab Int} {s : Dev} (q : Req) (l : List (Nat × Int)) (h : Low z s.od) :
    Low z (s.logWrite q l).od := by
  unfold Dev.logWrite
  dsimp only
  repeat' split
  · exact h
  · exact h
  · exact .logInput _ _ h

/-- What a request comes to: its row, from the device that no longer has another request to evaluate. -/
def Dev.requestOutcome (s : Dev) (code : Nat) : Dev × Nat := s.requested.requestRow code (s.nat Od.modeArm)

/-- The write of a request, accepted in a cycle in which no row was taken and no event but requests waits. -/
theorem Dev.writeObj_modeRequest {s : Dev} {q : Req} {code : Nat} (h : s.cycleTaken = false)
    (hq : ∀ e ∈ s.mode.queue, e.isRequest = true) (hok : Accepted s q Od.modeRequest code) :
    Answered (s.requestOutcome code) (s.writeObj q Od.modeRequest code).noteChanges := by
  refine .of_low fun k hk => ?_
  rw [Dev.noteChanges_num, Dev.writeObj_plain hok (by decide) (by decide) (by decide) (by decide)]
  dsimp only
  rw [Dev.emit_num]
  refine (Low.logWrite q _ (Low.refl _) k hk).trans ?_
  change (s.hostRequest code).num k = _
  rw [Dev.hostRequest_eq h hq, Dev.requestOutcome]

end Sys2Proof.Machine
end

section
/-! SUPPORT. The commands of the timeouts, deferred events and host requests. -/

namespace Sys2Proof
open Machine

theorem exec_warmupTimeout (t : Nat) (s : State) : exec (.warmupTimeout t) s = s.after t fun d =>
    if d.md = Mode.warmup ∧ d.modeLasted (d.nat Od.warmupTimeout) then d.post .warmupTimeout else d := rfl

theorem exec_acquireTimeout (t : Nat) (s : State) : exec (.acquireTimeout t) s = s.after t fun d =>
    if d.md = Mode.acquire ∧ d.modeLasted (d.nat Od.acquireTimeout) then d.post .acquireTimeout else d := rfl

theorem exec_pendingModeEvent (t : Nat) (s : State) : exec (.pendingModeEvent t) s = s.after t fun d => d.servePending := rfl

theorem exec_modeRequestProceed (t : Nat) (q : Req) (s : State) :
    exec (.modeRequestProceed t q) s = s.after t fun d => d.writeObj q Od.modeRequest (1 : Nat) := rfl

theorem exec_modeRequestEnterTest (t : Nat) (q : Req) (s : State) :
    exec (.modeRequestEnterTest t q) s = s.after t fun d => d.writeObj q Od.modeRequest (2 : Nat) := rfl

theorem exec_modeRequestLeaveTest (t : Nat) (q : Req) (s : State) :
    exec (.modeRequestLeaveTest t q) s = s.after t fun d => d.writeObj q Od.modeRequest (3 : Nat) := rfl

theorem exec_modeRequestLeaveSafe (t : Nat) (q : Req) (s : State) :
    exec (.modeRequestLeaveSafe t q) s = s.after t fun d => d.writeObj q Od.modeRequest (4 : Nat) := rfl

theorem Completes.imp {c : Instr} {s : State} {P Q : Dev → Prop} (h : Completes c s P) (hpq : ∀ d, P d → Q d) :
    Completes c s Q := by
  obtain ⟨s', hs, hpend, hmem, hp⟩ := h
  exact ⟨s', hs, hpend, hmem, hpq _ hp⟩

/-- A command that is the write of a host request. -/
theorem Completes.modeRequest {c : Instr} {s : State} {t code : Nat} {q : Req}
    (hexec : exec c s = s.after t fun d => d.writeObj q Od.modeRequest code)
    (h : (s.reached t).cycleTaken = false) (hq : ∀ e ∈ (s.reached t).mode.queue, e.isRequest = true)
    (hok : Accepted (s.reached t) q Od.modeRequest code) :
    Completes c s (Answered ((s.reached t).requestOutcome code)) :=
  Completes.after hexec (Dev.writeObj_modeRequest h hq hok)

end Sys2Proof
end

section
/-! The statements of chapter 1: the idle step, and the rows of timeouts, deferred events and host requests. -/

namespace Sys2Proof
open Machine

/-- Settles O2: a step of an empty queue is time alone, and where nothing falls due time going on is the next tick. -/
theorem idleStepIsOneTick : Obligations.IdleStepIsOneTick := by
  unfold Obligations.IdleStepIsOneTick
  intro s hs
  have hstep : step s = .next { s with dev := (s.reached (s.dev.tick + 1)).noteChanges } := by
    unfold step
    split
    · next h => cases hs.symm.trans h
    · rfl
  refine ⟨hstep, fun hdue => ?_⟩
  have htick : max s.dev.tick (s.dev.tick + 1) = s.dev.tick + 1 := Nat.max_eq_right (Nat.le_succ _)
  rw [hstep, Machine.State.reached, Dev.advance_of_quiet hdue, Dev.reach, htick]
  rfl

/-! ### Timeouts and deferred events -/

/-- WARMUP goes on after its timeout (row 13): noted, reported, and TS_0 not touched. -/
theorem warmupTimeout_row (t : Nat) (s : State) (hm : (s.reached t).md = Mode.warmup)
    (hready : (s.reached t).mode.ready = false)
    (hlast : (s.reached t).modeLasted ((s.reached t).nat Od.warmupTimeout) = true)
    (hfree : (s.reached t).cycleTaken = false) (hq : ∀ e ∈ (s.reached t).mode.queue, e.isRequest = true) :
    Completes (.warmupTimeout t) s fun d =>
      d.md = Mode.warmup ∧ d.bit Od.modeSticky Bit.modeSticky_WarmupTimeout = true ∧ d.nat Od.lastModeCause = 4 ∧
      d.scales = (s.reached t).scales ∧ ∃ r, d.flt.queue = (s.reached t).flt.queue ++ [r] ∧ r.src = 2 := by
  refine Completes.after (exec_warmupTimeout t s) ?_
  generalize s.reached t = e at *
  have hrow : e.modeEvent .warmupTimeout =
      some ((e.enterMode Mode.warmup 4 [Bit.modeSticky_WarmupTimeout]).report 2 0) := if_pos ⟨hm, hready⟩
  have hpost := Dev.post_timeout rfl hfree hq hrow
    ((Dev.cycleTaken_of_clock (Dev.report_clock ..)).trans (e.enterMode_cycleTaken ..))
  rw [if_pos ⟨hm, hlast⟩, hpost]
  refine ⟨e.enterMode_md .., ?_, ?_, ?_, ?_⟩
  · exact (e.enterMode_sticky _ _ _ _ _).trans (by simp)
  · exact congrArg Int.toNat (e.enterMode_cause ..)
  · simp [Dev.enterMode_same hm, Dev.modeRow]
  · simp [Dev.enterMode_same hm, Dev.modeRow, Dev.report, Dev.reportAt, Dev.modFlt]

/-- ACQUIRE without a selected reference leads to FREERUN after its timeout (row 15). -/
theorem acquireTimeout_row (t : Nat) (s : State) (hm : (s.reached t).md = Mode.acquire)
    (hsel : (s.reached t).selected = none)
    (hlast : (s.reached t).modeLasted ((s.reached t).nat Od.acquireTimeout) = true)
    (hfree : (s.reached t).cycleTaken = false) (hq : ∀ e ∈ (s.reached t).mode.queue, e.isRequest = true) :
    Completes (.acquireTimeout t) s fun d =>
      d.md = Mode.freerun ∧ d.bit Od.modeSticky Bit.modeSticky_EnteredFreerun = true ∧ d.nat Od.lastModeCause = 6 := by
  refine Completes.after (exec_acquireTimeout t s) ?_
  generalize s.reached t = e at *
  have hrow : e.modeEvent .acquireTimeout = some (e.enterMode Mode.freerun 6 [Bit.modeSticky_EnteredFreerun]) :=
    if_pos ⟨hm, by simp [hsel]⟩
  rw [if_pos ⟨hm, hlast⟩, Dev.post_timeout rfl hfree hq hrow (e.enterMode_cycleTaken ..)]
  exact ⟨e.enterMode_md .., (e.enterMode_sticky _ _ _ _ _).trans (by simp), congrArg Int.toNat (e.enterMode_cause ..)⟩

/-- Before its timeout, and out of its mode, a timeout does nothing. -/
theorem timeouts_idle (t : Nat) (s : State) :
    ((s.reached t).md ≠ Mode.warmup ∨ (s.reached t).modeLasted ((s.reached t).nat Od.warmupTimeout) = false →
      Idles (.warmupTimeout t) s t) ∧
    ((s.reached t).md ≠ Mode.acquire ∨ (s.reached t).modeLasted ((s.reached t).nat Od.acquireTimeout) = false →
      Idles (.acquireTimeout t) s t) := by
  constructor
  · intro h
    refine Completes.after (exec_warmupTimeout t s) ?_
    rw [if_neg fun ⟨hm, hlast⟩ => h.elim (· hm) fun hbefore => Bool.false_ne_true (hbefore.symm.trans hlast)]
  · intro h
    refine Completes.after (exec_acquireTimeout t s) ?_
    rw [if_neg fun ⟨hm, hlast⟩ => h.elim (· hm) fun hbefore => Bool.false_ne_true (hbefore.symm.trans hlast)]

theorem pendingModeEvent_idle (t : Nat) (s : State) (hq : (s.reached t).mode.queue = []) : Idles (.pendingModeEvent t) s t := by
  refine Completes.after (exec_pendingModeEvent t s) ?_
  rw [Dev.servePending, hq]
  rfl

/-- A lone PROCEED that waits in CONFIGURE is carried out by PENDING_MODE_EVENT. -/
theorem pendingModeEvent_proceed (t arm : Nat) (s : State) (hm : (s.reached t).md = Mode.configure)
    (hq : (s.reached t).mode.queue = [.request 1 arm]) (hlife : (s.reached t).nat Od.lifeCycleState ≠ 4)
    (hfree : (s.reached t).cycleTaken = false) :
    Completes (.pendingModeEvent t) s fun d =>
      d.md = Mode.calibrate ∧ d.mode.queue = [] ∧ d.nat Od.modeRequestResult = 0 := by
  refine Completes.after (exec_pendingModeEvent t s) ?_
  generalize s.reached t = e at *
  have hrow : (e.withQueue []).requestRow 1 arm = ((e.withQueue []).enterMode Mode.calibrate 2 [], 0) := by
    exact ((e.withQueue []).requestRow_proceed arm).trans ((if_pos hm).trans (if_neg hlife))
  rw [Dev.servePending_request hfree hq, hrow]
  have ha := Answered.of_low (r := ((e.withQueue []).enterMode Mode.calibrate 2 [], 0)) fun k _ => Dev.noteChanges_num _ k
  exact ⟨ha.entered.1, (e.withQueue []).enterMode_queue .., ha.entered.2⟩

/-! ### Host requests -/

section Requests
variable {t : Nat} {q : Req} {s : State}

theorem modeRequestProceed_row (hfree : (s.reached t).cycleTaken = false)
    (hq : ∀ e ∈ (s.reached t).mode.queue, e.isRequest = true) (hok : Accepted (s.reached t) q Od.modeRequest 1) :
    Completes (.modeRequestProceed t q) s fun d =>
      if (s.reached t).md = Mode.configure then
        if (s.reached t).nat Od.lifeCycleState = 4 then d.md = (s.reached t).md ∧ d.nat Od.modeRequestResult = 4
        else d.md = Mode.calibrate ∧ d.nat Od.modeRequestResult = 0
      else d.md = (s.reached t).md ∧ d.nat Od.modeRequestResult = 2 := by
  refine (Completes.modeRequest (exec_modeRequestProceed t q s) hfree hq hok).imp fun d ha => ?_
  rw [Dev.requestOutcome, Dev.requestRow_proceed, Dev.requested_md, Dev.requested_nat _ (by decide)] at ha
  by_cases hm : (s.reached t).md = Mode.configure
  · by_cases hlife : (s.reached t).nat Od.lifeCycleState = 4
    · rw [if_pos hm, if_pos hlife] at ha ⊢
      exact ha.refused
    · rw [if_pos hm, if_neg hlife] at ha ⊢
      exact ha.entered
  · rw [if_neg hm] at ha ⊢
    exact ha.refused

theorem modeRequestEnterTest_row (hfree : (s.reached t).cycleTaken = false)
    (hq : ∀ e ∈ (s.reached t).mode.queue, e.isRequest = true) (hok : Accepted (s.reached t) q Od.modeRequest 2) :
    Completes (.modeRequestEnterTest t q) s fun d =>
      if (s.reached t).md = Mode.configure ∨
          ((s.reached t).md ∈ serviceModes ∧ (s.reached t).bit Od.modeArm Bit.modeArm_TestFromService = true) then
        if (s.reached t).nat Od.lifeCycleState = 4 then d.md = (s.reached t).md ∧ d.nat Od.modeRequestResult = 4
        else d.md = Mode.test ∧ d.nat Od.modeRequestResult = 0 ∧ d.bit Od.modeSticky Bit.modeSticky_TestEntered = true
      else d.md = (s.reached t).md ∧ d.nat Od.modeRequestResult = if (s.reached t).md ∈ serviceModes then 3 else 2 := by
  refine (Completes.modeRequest (exec_modeRequestEnterTest t q s) hfree hq hok).imp fun d ha => ?_
  rw [Dev.requestOutcome, Dev.requestRow_enterTest, Dev.requested_md, Dev.requested_nat _ (by decide), ← Dev.bit] at ha
  by_cases hm : (s.reached t).md = Mode.configure ∨
      ((s.reached t).md ∈ serviceModes ∧ (s.reached t).bit Od.modeArm Bit.modeArm_TestFromService = true)
  · by_cases hlife : (s.reached t).nat Od.lifeCycleState = 4
    · rw [if_pos hm, if_pos hlife] at ha ⊢
      exact ha.refused
    · rw [if_pos hm, if_neg hlife] at ha ⊢
      exact ⟨ha.entered.1, ha.entered.2, ha.entered_sticky (List.mem_singleton_self _)⟩
  · rw [if_neg hm] at ha ⊢
    exact ha.refused

theorem modeRequestLeaveTest_row (hfree : (s.reached t).cycleTaken = false)
    (hq : ∀ e ∈ (s.reached t).mode.queue, e.isRequest = true) (hok : Accepted (s.reached t) q Od.modeRequest 3) :
    Completes (.modeRequestLeaveTest t q) s fun d =>
      if (s.reached t).md = Mode.test then
        if (s.reached t).nat Od.lifeCycleState = 4 then d.md = (s.reached t).md ∧ d.nat Od.modeRequestResult = 4
        else d.md = Mode.calibrate ∧ d.nat Od.modeRequestResult = 0
      else d.md = (s.reached t).md ∧ d.nat Od.modeRequestResult = 2 := by
  refine (Completes.modeRequest (exec_modeRequestLeaveTest t q s) hfree hq hok).imp fun d ha => ?_
  rw [Dev.requestOutcome, Dev.requestRow_leaveTest, Dev.requested_md, Dev.requested_nat _ (by decide)] at ha
  by_cases hm : (s.reached t).md = Mode.test
  · by_cases hlife : (s.reached t).nat Od.lifeCycleState = 4
    · rw [if_pos hm, if_pos hlife] at ha ⊢
      exact ha.refused
    · rw [if_pos hm, if_neg hlife] at ha ⊢
      exact ha.entered
  · rw [if_neg hm] at ha ⊢
    exact ha.refused

theorem modeRequestLeaveSafe_row (hfree : (s.reached t).cycleTaken = false)
    (hq : ∀ e ∈ (s.reached t).mode.queue, e.isRequest = true) (hok : Accepted (s.reached t) q Od.modeRequest 4) :
    Completes (.modeRequestLeaveSafe t q) s fun d =>
      if (s.reached t).md = Mode.safe ∧ (s.reached t).nat Od.girthLevel ≠ 4 then
        if (s.reached t).nat Od.lifeCycleState = 3 ∨ (s.reached t).nat Od.lifeCycleState = 4 then
          d.md = (s.reached t).md ∧ d.nat Od.modeRequestResult = 4
        else d.nat Od.modeRequestResult = 0 ∧
        if (s.reached t).on Od.pairEnable then d.md = Mode.resync ∧ d.nat Od.pairRole = 2 ∧ d.nat Od.lastModeCause = 12
        else d.md = (s.reached t).safeExit ∧ d.nat Od.lastModeCause = 10
      else d.md = (s.reached t).md ∧ d.nat Od.modeRequestResult = 2 := by
  refine (Completes.modeRequest (exec_modeRequestLeaveSafe t q s) hfree hq hok).imp fun d ha => ?_
  rw [Dev.requestOutcome, Dev.requestRow_leaveSafe, Dev.requested_md, Dev.requested_nat _ (by decide),
    Dev.requested_nat _ (by decide), Dev.requested_on _ (by decide), Dev.requested_safeExit] at ha
  by_cases hm : (s.reached t).md = Mode.safe ∧ (s.reached t).nat Od.girthLevel ≠ 4
  · by_cases hlife : (s.reached t).nat Od.lifeCycleState = 3 ∨ (s.reached t).nat Od.lifeCycleState = 4
    · rw [if_pos hm, if_pos hlife] at ha ⊢
      exact ha.refused
    · by_cases hpair : (s.reached t).on Od.pairEnable = true
      · rw [if_pos hm, if_neg hlife, if_pos hpair] at ha ⊢
        have hrow := ha.of_startResync
        refine ⟨ha.result, hrow.entered.1, ?_, hrow.entered_cause⟩
        rw [hrow.nat (by decide) (by decide), Dev.nat, Dev.enterMode_num_low _ _ _ _ _ (by decide) (by decide),
          Dev.num_put_self]
        rfl
      · rw [if_pos hm, if_neg hlife, if_neg hpair] at ha ⊢
        exact ⟨ha.result, ha.entered.1, ha.entered_cause⟩
  · rw [if_neg hm] at ha ⊢
    exact ha.refused

end Requests

/-- Settles O12: each command's row as the lemmas above give it. -/
theorem modeRequestRows : Obligations.ModeRequestRows := by
  unfold Obligations.ModeRequestRows
  refine ⟨warmupTimeout_row, acquireTimeout_row, fun t s => ?_, pendingModeEvent_proceed, fun t q s hfree hq => ?_⟩
  · exact ⟨(timeouts_idle t s).1, (timeouts_idle t s).2, pendingModeEvent_idle t s⟩
  · exact ⟨modeRequestProceed_row hfree hq, modeRequestEnterTest_row hfree hq, modeRequestLeaveTest_row hfree hq,
      modeRequestLeaveSafe_row hfree hq⟩

end Sys2Proof
end
